-- ==== Sys2Proof/Word.lean ====
section
/-! DEFINITION. The words of the SX6472: 32-bit register words (R39), bytes, and the one container every
sparse piece of state is held in: a list of numbered entries in a canonical form. -/
namespace Sys2Proof

/-- A register word of the register space (R39, *Register map*). -/
abbrev Word := BitVec 32

/-- A byte of a frame, an ordered set or a message. -/
abbrev Byte := BitVec 8

/-- Sparse data by number: a register field by its bit address, a word of a buffer by its index, a lane's or
a slot's record by its number. The numbers rise strictly, and no entry equals what an unlisted number reads
as (the type's default), so that equal contents are equal lists. -/
abbrev SMap (α : Type) := List (Nat × α)

end Sys2Proof
end

