-- ==== Sys2Proof/Config.lean ====
section
/-! DEFINITION. What the spec leaves open: each constant below has NO body, so nothing can evaluate it and a
statement about it holds whatever it is. Those that are functions of an operation's own operands give the same
answer for the same operands; `free` is a fresh value for every draw (State holds the draw counter). -/
namespace Sys2Proof.Config

/-- Free value number `n`. Mark: DESIGN CHOICE, safe (log entry 10). -/
opaque free : Nat → Nat

/-- Whether a quotient that is not whole is shown rounded up or down, where the spec states a result in units
coarser than it computes in and gives no rounding (R90, R103): `true` is up. Mark: DESIGN CHOICE, safe (log entry 11). -/
opaque roundUp : Int → Nat → Bool

/-- Which of `n` free conversation slots an open takes (R181 gives the number in SLOT and no rule for the choice),
for draw `k`. Mark: DESIGN CHOICE, safe (log entry 56). -/
opaque slotPick (k n : Nat) : Nat

/-- The temperature, in 0.0625 degree units, that the head computes for an external sensor, where it lies within the error that R354
allows: the sensor type, R25 and B of an NTC (binary32), and the terminal voltage in microvolts. Mark: PRESUMED, safe (log entry 80). -/
opaque thTemp (ty r25 b uv : Nat) : Int

/-- How far the threshold of a hard comparator lies from the level that is set, by channel and side (R314: within
128 codes either way, which the comparator's definition keeps). Mark: DESIGN CHOICE, safe (log entry 81). -/
opaque hardTol (ch : Nat) (hi : Bool) : Int

/-- Where the 8 ms period of the test pulses begins, in 250 ps units of the running clock (R379).
Mark: DESIGN CHOICE, safe (log entry 175). -/
opaque tpPhase : Nat

/-- Sine and cosine of the control engine (R207: correct within 2^-22 up to 64 rad), on binary32 patterns.
Mark: UNVERIFIED, safe (log entry 60). -/
opaque ceSin : Nat → Nat
/-- Mark: UNVERIFIED, safe (log entry 60). -/
opaque ceCos : Nat → Nat

/-- An angle outside [0, 2 pi) reduced to it (R220, SRF_PLL), on binary32 patterns. Mark: UNVERIFIED, safe (log entry 60). -/
opaque ceReduce : Nat → Nat

/-- tan and 10^x in binary64, for the coefficients of R221. Mark: UNVERIFIED, safe (log entry 60). -/
opaque tan64 : Nat → Nat
/-- Mark: UNVERIFIED, safe (log entry 60). -/
opaque exp10 : Nat → Nat

/-- SHA-384 of bytes (R470 names the standard; the head cuts or pads the answer to its 48 bytes).
Mark: UNVERIFIED, safe (log entry 126). -/
opaque sha384 : List Byte → List Byte

/-- Verification of RSASSA-PSS (modulus, exponent, signature, signed value) and of SLH-DSA-SHA2-192s (public key,
signature, signed value), by the standards that R472 names. Mark: UNVERIFIED, safe (log entry 126). -/
opaque rsaVerify (n e sig d : List Byte) : Bool
/-- Mark: UNVERIFIED, safe (log entry 126). -/
opaque slhVerify (pk sig d : List Byte) : Bool

/-- The word at OTP word `i` of a wrapped identity key row that PROVISION makes from draw `k` (R489).
Mark: UNVERIFIED, safe (log entry 126). -/
opaque keyRow (k i : Nat) : Nat

/-- The public half of the identity keys, from the wrapped rows: RSA modulus and exponent (388 bytes), SLH-DSA key (48).
Mark: UNVERIFIED, safe (log entry 126). -/
opaque idRsa : List Nat → List Byte
/-- Mark: UNVERIFIED, safe (log entry 126). -/
opaque idSlh : List Nat → List Byte

/-- The signatures of an attestation report, from the wrapped rows, the signed digest and draw `k` (R493).
Mark: UNVERIFIED, safe (log entry 126). -/
opaque signRsa (rows : List Nat) (d : List Byte) (k : Nat) : List Byte
/-- Mark: UNVERIFIED, safe (log entry 126). -/
opaque signSlh (rows : List Nat) (d : List Byte) (k : Nat) : List Byte

/-- The tick period of a cell that has used one DSF for ticks so far, from its TICK_TIME (R141 gives the period from
the last two). Mark: UNVERIFIED, safe (log entry 133). -/
opaque cellPeriod (tickTime : Nat) : Nat

/-- What the cell vendor decides (R155, R177, R179): which vendor words exist, what a word reads from what was last
written, and which calibration codes are known. Mark: DESIGN CHOICE, safe (log entry 140). -/
opaque vendorHas (a : Nat) : Bool
/-- Mark: DESIGN CHOICE, safe (log entry 140). -/
opaque vendorRead (a w : Nat) : Nat
/-- Mark: DESIGN CHOICE, safe (log entry 140). -/
opaque calKnown (code : Nat) : Bool

/-- The rates besides its own that a lane of the head states in its TRAIN (R446 gives the field, no rule its value).
Mark: DESIGN CHOICE, safe (log entry 165). -/
opaque otherRates (lane : Nat) : Nat

end Sys2Proof.Config
end

