-- ==== Sys2Proof/Machine/RegMap.lean ====
section
/-! DEFINITION. The register map: every field of every register of the spec's register tables, by its address
(R9, R566, R567), the class of each field (R51), the commit group of each SHD field (R63) and the reset values
the tables give as numbers (R14). A field is named by its BIT ADDRESS (8 times the byte address, plus its low
bit), which is where the register file of State holds it; reserved bits are no field, so they read as zero and
cannot be written (R13). -/
namespace Sys2Proof.Machine

/-- A field of a register: the byte address of its register, its low bit and its width. -/
structure Fld where
  addr : Nat
  lo : Nat
  w : Nat
  deriving DecidableEq, Repr

/-- The bit address of a field. -/
def Fld.key (f : Fld) : Nat := f.addr * 8 + f.lo

/-- The six field classes of R51. -/
inductive Cls where
  | cfg
  | shd
  | live
  | cnt
  | cmd
  | mbx
  deriving DecidableEq, Repr

/-- One field of a register row: low bit, width, class. -/
structure RegField where
  lo : Nat
  w : Nat
  cls : Cls
  deriving DecidableEq, Repr

/-- One row of the register tables: a register, or `count` copies of it at a stride (R567), with the commit
group of its SHD fields (13 to 17 are AV0 to AV4; 18 where it has none). -/
structure RegRow where
  base : Nat
  stride : Nat
  count : Nat
  grp : Nat
  fields : List RegField
  deriving DecidableEq, Repr

/-! ## The fields by name -/

/-! ### Identity and global -/
def F.GLB_ID_PART : Fld := ⟨0x000000, 0, 32⟩
def F.GLB_REVISION_MINOR : Fld := ⟨0x000004, 0, 4⟩
def F.GLB_REVISION_MAJOR : Fld := ⟨0x000004, 4, 4⟩
def F.GLB_MAP_VERSION_VERSION : Fld := ⟨0x000008, 0, 16⟩
def F.HRP_LAST_STATUS_STATUS : Fld := ⟨0x000040, 0, 8⟩
def F.HRP_CRC_ERR_COUNT : Fld := ⟨0x000044, 0, 32⟩
def F.HRP_REJECT_COUNT : Fld := ⟨0x000048, 0, 32⟩
def F.HRP_ABORT_COUNT : Fld := ⟨0x00004C, 0, 32⟩
def F.HRP_LOST_RSP_COUNT : Fld := ⟨0x000050, 0, 32⟩
def F.GLB_SHD_VIEW_ACTIVE : Fld := ⟨0x000054, 0, 1⟩
def F.GLB_BOOT_STATUS_STAGE : Fld := ⟨0x000060, 0, 4⟩
def F.GLB_BOOT_STATUS_ERROR : Fld := ⟨0x000060, 8, 4⟩
def F.GLB_BOOT_STATUS_POSITION : Fld := ⟨0x000060, 16, 3⟩
def F.GLB_BOOT_STATUS_UNIT : Fld := ⟨0x000060, 19, 1⟩
def F.GLB_RESET_CAUSE_CAUSE : Fld := ⟨0x000064, 0, 7⟩
def F.GLB_RESET_KEY_KEY : Fld := ⟨0x000068, 0, 32⟩
def F.GLB_CTRL_RESET : Fld := ⟨0x00006C, 0, 1⟩
def F.GLB_BOOT_TIME_US100 : Fld := ⟨0x000070, 0, 16⟩
def F.GLB_RESET_COUNT : Fld := ⟨0x000080, 0, 32⟩
def F.GLB_BOOT_FAIL_COUNT : Fld := ⟨0x000084, 0, 32⟩
def F.GLB_RESET_REFUSE_COUNT : Fld := ⟨0x000088, 0, 32⟩

/-! ### Commit groups, mailboxes, data windows -/
def F.CMT_COMMIT_COMMIT (i : Nat) : Fld := ⟨0x010000 + 0x20 * i, 0, 1⟩
def F.CMT_STATUS_PENDING (i : Nat) : Fld := ⟨0x010004 + 0x20 * i, 0, 1⟩
def F.CMT_STATUS_LAST_RESULT (i : Nat) : Fld := ⟨0x010004 + 0x20 * i, 1, 2⟩
def F.CMT_STATUS_REASON (i : Nat) : Fld := ⟨0x010004 + 0x20 * i, 8, 8⟩
def F.CMT_STATUS_HEADS (i : Nat) : Fld := ⟨0x010004 + 0x20 * i, 16, 8⟩
def F.CMT_STATUS_HEAD_REASON (i : Nat) : Fld := ⟨0x010004 + 0x20 * i, 24, 8⟩
def F.CMT_RESULT_FRAME_FRAME (i : Nat) : Fld := ⟨0x010008 + 0x20 * i, 0, 32⟩
def F.CMT_APPLY_COUNT (i : Nat) : Fld := ⟨0x01000C + 0x20 * i, 0, 32⟩
def F.CMT_REJECT_COUNT (i : Nat) : Fld := ⟨0x010010 + 0x20 * i, 0, 32⟩
def F.CMT_ORPHAN_COUNT : Fld := ⟨0x0101A0, 0, 32⟩
def F.MBX_REQ_ITEM (i : Nat) : Fld := ⟨0x010400 + 0x20 * i, 0, 8⟩
def F.MBX_REQ_AT (i : Nat) : Fld := ⟨0x010400 + 0x20 * i, 8, 1⟩
def F.MBX_ARG_ARG (i : Nat) : Fld := ⟨0x010404 + 0x20 * i, 0, 32⟩
def F.MBX_AT_FRAME_FRAME (i : Nat) : Fld := ⟨0x010408 + 0x20 * i, 0, 32⟩
def F.MBX_STATUS_VALID (i : Nat) : Fld := ⟨0x01040C + 0x20 * i, 0, 1⟩
def F.MBX_STATUS_BUSY (i : Nat) : Fld := ⟨0x01040C + 0x20 * i, 1, 1⟩
def F.MBX_STATUS_RESULT (i : Nat) : Fld := ⟨0x01040C + 0x20 * i, 2, 2⟩
def F.MBX_DATA_DATA (i : Nat) : Fld := ⟨0x010410 + 0x20 * i, 0, 32⟩
def F.MBX_REPLACE_COUNT (i : Nat) : Fld := ⟨0x010414 + 0x20 * i, 0, 32⟩
def F.MBX_LATE_COUNT (i : Nat) : Fld := ⟨0x010418 + 0x20 * i, 0, 32⟩
def F.DW_PTR_PTR (i : Nat) : Fld := ⟨0x010600 + 0x10 * i, 0, 32⟩
def F.DW_DATA_DATA (i : Nat) : Fld := ⟨0x010604 + 0x10 * i, 0, 32⟩
def F.DW_OVERFLOW_COUNT (i : Nat) : Fld := ⟨0x010608 + 0x10 * i, 0, 32⟩
def F.DW_PTR3_PTR : Fld := ⟨0x010630, 0, 32⟩

/-! ### Cadence -/
def F.CAD_CONFIG_TICK_ALIGN : Fld := ⟨0x020000, 0, 1⟩
def F.CAD_CONFIG_PPS_EDGE : Fld := ⟨0x020000, 1, 1⟩
def F.CAD_CONFIG_PPS_EN : Fld := ⟨0x020000, 2, 1⟩
def F.CAD_FRAME_PERIOD_PERIOD : Fld := ⟨0x020004, 0, 13⟩
def F.CAD_PPS_WINDOW_WINDOW : Fld := ⟨0x020008, 0, 20⟩
def F.CAD_HOLDOVER_LIMIT_SECONDS : Fld := ⟨0x02000C, 0, 12⟩
def F.CAD_TOD_LOAD_LO_TOD : Fld := ⟨0x020010, 0, 32⟩
def F.CAD_TOD_LOAD_HI_TOD : Fld := ⟨0x020014, 0, 32⟩
def F.CAD_TOD_ARM_ARM : Fld := ⟨0x020018, 0, 1⟩
def F.CAD_SYNC_STATE_STATE : Fld := ⟨0x02001C, 0, 3⟩
def F.CAD_SYNC_STATE_SPAN_ALIGNED : Fld := ⟨0x02001C, 3, 1⟩
def F.CAD_SYNC_STATE_TICKS : Fld := ⟨0x02001C, 4, 1⟩
def F.CAD_PPS_ERROR_ERROR : Fld := ⟨0x020020, 0, 32⟩
def F.CAD_RATE_ADJ_RATE : Fld := ⟨0x020024, 0, 32⟩
def F.CAD_SPAN_OFFSET_OFFSET : Fld := ⟨0x020028, 0, 16⟩
def F.CAD_MISS_LIMIT_LIMIT : Fld := ⟨0x02002C, 0, 4⟩
def F.CAD_ALIGN_LIMIT_LIMIT : Fld := ⟨0x020030, 0, 8⟩
def F.CAD_PROBE_INTERVAL_FRAMES : Fld := ⟨0x020034, 0, 10⟩
def F.CAD_GATHER_MARGIN_MARGIN : Fld := ⟨0x020038, 0, 10⟩
def F.CAD_GATHER_DEADLINE_NS : Fld := ⟨0x020040, 0, 16⟩
def F.CAD_QUOTA_DEADLINE_NS : Fld := ⟨0x020044, 0, 16⟩
def F.CAD_LAUNCH_TIME_NS : Fld := ⟨0x020048, 0, 16⟩
def F.CAD_LAUNCH_DEADLINE_NS : Fld := ⟨0x02004C, 0, 16⟩
def F.CAD_BUDGET_MARGIN_NS : Fld := ⟨0x020050, 0, 16⟩
def F.CAD_TICK_PHASE_PHASE : Fld := ⟨0x020054, 0, 32⟩
def F.CAD_PPS_COUNT : Fld := ⟨0x020080, 0, 32⟩
def F.CAD_PPS_REJECT_COUNT : Fld := ⟨0x020084, 0, 32⟩
def F.CAD_TOD_REJECT_COUNT : Fld := ⟨0x020088, 0, 32⟩
def F.CAD_STEP_COUNT : Fld := ⟨0x02008C, 0, 32⟩
def F.CAD_SUMMARY_LATE_COUNT : Fld := ⟨0x020090, 0, 32⟩
def F.CAD_QUOTA_LATE_COUNT : Fld := ⟨0x020094, 0, 32⟩
def F.CAD_CE_OVERRUN_COUNT : Fld := ⟨0x020098, 0, 32⟩
def F.CAD_LAUNCH_LATE_COUNT : Fld := ⟨0x02009C, 0, 32⟩
def F.CAD_ALIGN_FAULT_COUNT : Fld := ⟨0x0200A0, 0, 32⟩
def F.CAD_PROBE_REJECT_COUNT : Fld := ⟨0x0200A4, 0, 32⟩
def F.CAD_LANE_ASYM_ASYM (i : Nat) : Fld := ⟨0x020200 + 0x4 * i, 0, 16⟩
def F.CAD_SPAN_ASYM_ASYM (i : Nat) : Fld := ⟨0x020300 + 0x4 * i, 0, 16⟩
def F.CAD_LANE_DELAY_DN (i : Nat) : Fld := ⟨0x020400 + 0x4 * i, 0, 16⟩
def F.CAD_LANE_DELAY_UP (i : Nat) : Fld := ⟨0x020400 + 0x4 * i, 16, 16⟩
def F.CAD_LANE_RESIDUAL_RESIDUAL (i : Nat) : Fld := ⟨0x020500 + 0x4 * i, 0, 16⟩
def F.CAD_LANE_RESIDUAL_ALIGNED (i : Nat) : Fld := ⟨0x020500 + 0x4 * i, 16, 1⟩
def F.CAD_LANE_RESIDUAL_OUT_OF_BUDGET (i : Nat) : Fld := ⟨0x020500 + 0x4 * i, 17, 1⟩

/-! ### Lanes -/
def F.LANE_CTRL_POWER (i : Nat) : Fld := ⟨0x040000 + 0x100 * i, 0, 2⟩
def F.LANE_CFG_RATE (i : Nat) : Fld := ⟨0x040004 + 0x100 * i, 0, 2⟩
def F.LANE_CFG_USED (i : Nat) : Fld := ⟨0x040004 + 0x100 * i, 2, 1⟩
def F.LANE_EQ_CTLE (i : Nat) : Fld := ⟨0x040008 + 0x100 * i, 0, 4⟩
def F.LANE_EQ_PRE (i : Nat) : Fld := ⟨0x040008 + 0x100 * i, 8, 4⟩
def F.LANE_EQ_POST (i : Nat) : Fld := ⟨0x040008 + 0x100 * i, 16, 5⟩
def F.LANE_EQ_SWING (i : Nat) : Fld := ⟨0x040008 + 0x100 * i, 24, 5⟩
def F.LANE_STATE_TRAIN (i : Nat) : Fld := ⟨0x04000C + 0x100 * i, 0, 3⟩
def F.LANE_STATE_LANE_UP (i : Nat) : Fld := ⟨0x04000C + 0x100 * i, 3, 1⟩
def F.LANE_STATE_SIGNAL (i : Nat) : Fld := ⟨0x04000C + 0x100 * i, 4, 1⟩
def F.LANE_STATE_RX_INVERTED (i : Nat) : Fld := ⟨0x04000C + 0x100 * i, 5, 1⟩
def F.LANE_STATE_REVERSED (i : Nat) : Fld := ⟨0x04000C + 0x100 * i, 6, 1⟩
def F.LANE_STATE_MISMATCH (i : Nat) : Fld := ⟨0x04000C + 0x100 * i, 7, 1⟩
def F.LANE_STATE_POWER_STATE (i : Nat) : Fld := ⟨0x04000C + 0x100 * i, 8, 2⟩
def F.LANE_STATE_PEER_LANE (i : Nat) : Fld := ⟨0x04000C + 0x100 * i, 16, 8⟩
def F.LANE_STATE_PEER_RATES (i : Nat) : Fld := ⟨0x04000C + 0x100 * i, 24, 4⟩
def F.LANE_STATE_PEER_ROLE (i : Nat) : Fld := ⟨0x04000C + 0x100 * i, 28, 3⟩
def F.LANE_TEST_PATTERN (i : Nat) : Fld := ⟨0x040010 + 0x100 * i, 0, 3⟩
def F.LANE_TEST_MODE (i : Nat) : Fld := ⟨0x040010 + 0x100 * i, 3, 2⟩
def F.LANE_TEST_CHK_LOCK (i : Nat) : Fld := ⟨0x040010 + 0x100 * i, 5, 1⟩
def F.LANE_TEST_CHK_INVERTED (i : Nat) : Fld := ⟨0x040010 + 0x100 * i, 6, 1⟩
def F.LANE_TEST_BURST_LEN (i : Nat) : Fld := ⟨0x040010 + 0x100 * i, 8, 6⟩
def F.LANE_TEST_INJECT_ONE (i : Nat) : Fld := ⟨0x040010 + 0x100 * i, 16, 1⟩
def F.LANE_TEST_INJECT_BURST (i : Nat) : Fld := ⟨0x040010 + 0x100 * i, 17, 1⟩
def F.LANE_USER_PATTERN0_BITS (i : Nat) : Fld := ⟨0x040014 + 0x100 * i, 0, 32⟩
def F.LANE_USER_PATTERN1_BITS (i : Nat) : Fld := ⟨0x040018 + 0x100 * i, 0, 32⟩
def F.LANE_USER_PATTERN2_BITS (i : Nat) : Fld := ⟨0x04001C + 0x100 * i, 0, 16⟩
def F.LANE_DOWN_COUNT (i : Nat) : Fld := ⟨0x040040 + 0x100 * i, 0, 32⟩
def F.LANE_TRAIN_FAIL_COUNT (i : Nat) : Fld := ⟨0x040044 + 0x100 * i, 0, 32⟩
def F.LANE_CODE_ERR_COUNT (i : Nat) : Fld := ⟨0x040048 + 0x100 * i, 0, 32⟩
def F.LANE_POLARITY_COUNT (i : Nat) : Fld := ⟨0x04004C + 0x100 * i, 0, 32⟩
def F.LANE_PRBS_ERR_COUNT (i : Nat) : Fld := ⟨0x040050 + 0x100 * i, 0, 32⟩
def F.LANE_PRBS_KBIT_COUNT (i : Nat) : Fld := ⟨0x040054 + 0x100 * i, 0, 32⟩
def F.LANE_CHK_LOSS_COUNT (i : Nat) : Fld := ⟨0x040058 + 0x100 * i, 0, 32⟩
def F.LANE_INJECT_COUNT (i : Nat) : Fld := ⟨0x04005C + 0x100 * i, 0, 32⟩
def F.LANE_TEST_REFUSE_COUNT (i : Nat) : Fld := ⟨0x040060 + 0x100 * i, 0, 32⟩
def F.LANE_POWER_REFUSE_COUNT (i : Nat) : Fld := ⟨0x040064 + 0x100 * i, 0, 32⟩
def F.LANE_SPAN_STATE_EAST_UP : Fld := ⟨0x048000, 0, 3⟩
def F.LANE_SPAN_STATE_EAST_REVERSED : Fld := ⟨0x048000, 3, 1⟩
def F.LANE_SPAN_STATE_WEST_UP : Fld := ⟨0x048000, 4, 3⟩
def F.LANE_SPAN_STATE_WEST_REVERSED : Fld := ⟨0x048000, 7, 1⟩
def F.LANE_SPAN_STATE_SPAN_RATE : Fld := ⟨0x048000, 8, 2⟩
def F.LANE_ENUM_ADMITTED : Fld := ⟨0x048004, 0, 8⟩
def F.LANE_ENUM_RING : Fld := ⟨0x048004, 8, 4⟩
def F.LANE_ENUM_DONE : Fld := ⟨0x048004, 12, 1⟩
def F.LANE_ENUM_SPECTATOR : Fld := ⟨0x048004, 13, 1⟩
def F.UL_CTRL_PERIOD : Fld := ⟨0x048008, 0, 10⟩
def F.UL_CTRL_FAULTS : Fld := ⟨0x048008, 10, 1⟩
def F.UL_CTRL_SHUTTER_IN : Fld := ⟨0x048008, 11, 1⟩
def F.LANE_SPECTATOR_COUNT : Fld := ⟨0x048080, 0, 32⟩
def F.SPAN_MSG_ERR_COUNT : Fld := ⟨0x048084, 0, 32⟩
def F.SPAN_QUEUE_DROP_COUNT : Fld := ⟨0x048088, 0, 32⟩
def F.UL_DROP_COUNT : Fld := ⟨0x04808C, 0, 32⟩
def F.UL_SHUTTER_COUNT : Fld := ⟨0x048090, 0, 32⟩

/-! ### Cell ports -/
def F.HCL_PORT_CTRL_ENABLE (i : Nat) : Fld := ⟨0x080000 + 0x100 * i, 0, 1⟩
def F.HCL_PORT_CTRL_HOST_BYPASS (i : Nat) : Fld := ⟨0x080000 + 0x100 * i, 1, 1⟩
def F.HCL_PORT_CTRL_CELL_TYPE (i : Nat) : Fld := ⟨0x080000 + 0x100 * i, 4, 2⟩
def F.HCL_PORT_STATE_STATE (i : Nat) : Fld := ⟨0x080004 + 0x100 * i, 0, 3⟩
def F.HCL_PORT_STATE_LINK_UP (i : Nat) : Fld := ⟨0x080004 + 0x100 * i, 3, 1⟩
def F.HCL_PORT_STATE_CLAIM_OK (i : Nat) : Fld := ⟨0x080004 + 0x100 * i, 4, 1⟩
def F.HCL_PORT_STATE_RUN_SENT (i : Nat) : Fld := ⟨0x080004 + 0x100 * i, 5, 1⟩
def F.HCL_PORT_STATE_CONSEC_BAD (i : Nat) : Fld := ⟨0x080004 + 0x100 * i, 8, 4⟩
def F.HCL_PORT_STATE_CELL_STATUS (i : Nat) : Fld := ⟨0x080004 + 0x100 * i, 16, 16⟩
def F.HCL_PORT_CELL_GATE_FAULT (i : Nat) : Fld := ⟨0x080008 + 0x100 * i, 0, 16⟩
def F.HCL_PORT_CELL_TEMP (i : Nat) : Fld := ⟨0x080008 + 0x100 * i, 16, 16⟩
def F.HCL_PORT_VCAP_VCAP (i : Nat) : Fld := ⟨0x08000C + 0x100 * i, 0, 32⟩
def F.HCL_PORT_LAST_FRAME_FRAME (i : Nat) : Fld := ⟨0x080010 + 0x100 * i, 0, 32⟩
def F.HCL_LATE_COUNT (i : Nat) : Fld := ⟨0x080040 + 0x100 * i, 0, 32⟩
def F.HCL_CRC_ERR_COUNT (i : Nat) : Fld := ⟨0x080044 + 0x100 * i, 0, 32⟩
def F.HCL_STALE_COUNT (i : Nat) : Fld := ⟨0x080048 + 0x100 * i, 0, 32⟩
def F.HCL_BAD_FRAME_COUNT (i : Nat) : Fld := ⟨0x08004C + 0x100 * i, 0, 32⟩
def F.HCL_DUP_COUNT (i : Nat) : Fld := ⟨0x080050 + 0x100 * i, 0, 32⟩
def F.HCL_REBOOT_COUNT (i : Nat) : Fld := ⟨0x080054 + 0x100 * i, 0, 32⟩
def F.HCL_TYPE_ERR_COUNT (i : Nat) : Fld := ⟨0x080058 + 0x100 * i, 0, 32⟩
def F.HCL_CLAIM_HIGH_COUNT (i : Nat) : Fld := ⟨0x08005C + 0x100 * i, 0, 32⟩
def F.HCL_CLAIM_LAG_COUNT (i : Nat) : Fld := ⟨0x080060 + 0x100 * i, 0, 32⟩
def F.HCL_DSF_LOST_COUNT (i : Nat) : Fld := ⟨0x080064 + 0x100 * i, 0, 32⟩
def F.HCL_IMPLAUSIBLE_COUNT (i : Nat) : Fld := ⟨0x080068 + 0x100 * i, 0, 32⟩
def F.HCL_CELL_DS_ERR_COUNT (i : Nat) : Fld := ⟨0x08006C + 0x100 * i, 0, 32⟩
def F.HCL_INTERLOCK_COUNT (i : Nat) : Fld := ⟨0x080070 + 0x100 * i, 0, 32⟩
def F.HCL_ECHO_LOST_COUNT (i : Nat) : Fld := ⟨0x080074 + 0x100 * i, 0, 32⟩
def F.HCL_LINE_ERR_COUNT (i : Nat) : Fld := ⟨0x080078 + 0x100 * i, 0, 32⟩
def F.HCL_EDGE_OVERFLOW_COUNT (i : Nat) : Fld := ⟨0x08007C + 0x100 * i, 0, 32⟩
def F.HCL_CONV_LANE_DEPTH (i : Nat) : Fld := ⟨0x080080 + 0x100 * i, 0, 5⟩
def F.HCL_CONV_LANE_ACTIVE_SLOT (i : Nat) : Fld := ⟨0x080080 + 0x100 * i, 8, 7⟩
def F.HCL_CONV_LANE_ACTIVE (i : Nat) : Fld := ⟨0x080080 + 0x100 * i, 15, 1⟩
def F.HCL_CONV_LANE_CNUM (i : Nat) : Fld := ⟨0x080080 + 0x100 * i, 16, 8⟩
def F.HCL_CONV_LANE_DISC_STATE (i : Nat) : Fld := ⟨0x080080 + 0x100 * i, 24, 3⟩
def F.HCL_DISC_CTRL_REDISCOVER (i : Nat) : Fld := ⟨0x080084 + 0x100 * i, 0, 1⟩
def F.HCL_SEG_RETX_COUNT (i : Nat) : Fld := ⟨0x080088 + 0x100 * i, 0, 32⟩
def F.HCL_SEG_DUP_COUNT (i : Nat) : Fld := ⟨0x08008C + 0x100 * i, 0, 32⟩
def F.HCL_SEG_HOLE_COUNT (i : Nat) : Fld := ⟨0x080090 + 0x100 * i, 0, 32⟩
def F.HCL_SEG_ERR_COUNT (i : Nat) : Fld := ⟨0x080094 + 0x100 * i, 0, 32⟩
def F.HCL_CONV_TIMEOUT_COUNT (i : Nat) : Fld := ⟨0x080098 + 0x100 * i, 0, 32⟩
def F.HCL_CELL_ABORT_COUNT (i : Nat) : Fld := ⟨0x08009C + 0x100 * i, 0, 32⟩
def F.HCL_DISC_FAIL_COUNT (i : Nat) : Fld := ⟨0x0800A0 + 0x100 * i, 0, 32⟩
def F.HCL_SUSPECT_LIMIT_LIMIT : Fld := ⟨0x084000, 0, 4⟩
def F.HCL_LOST_LIMIT_LIMIT : Fld := ⟨0x084004, 0, 10⟩
def F.HCL_VCAP_MIN_VOLTS : Fld := ⟨0x084008, 0, 32⟩
def F.HCL_VCAP_MAX_VOLTS : Fld := ⟨0x08400C, 0, 32⟩
def F.HCL_VCAP_STEP_VOLTS : Fld := ⟨0x084010, 0, 32⟩
def F.HCL_BULK_MAX_COUNT : Fld := ⟨0x084014, 0, 4⟩
def F.HCL_SHUTTER_COUNT : Fld := ⟨0x084080, 0, 32⟩
def F.HCL_CONV_REQ_LANE : Fld := ⟨0x084100, 0, 6⟩
def F.HCL_CONV_REQ_KIND : Fld := ⟨0x084100, 8, 4⟩
def F.HCL_CONV_ARG0_ARG0 : Fld := ⟨0x084104, 0, 32⟩
def F.HCL_CONV_ARG1_ARG1 : Fld := ⟨0x084108, 0, 32⟩
def F.HCL_CONV_TIMEOUT_FRAMES : Fld := ⟨0x08410C, 0, 24⟩
def F.HCL_CONV_GO_GO : Fld := ⟨0x084110, 0, 1⟩
def F.HCL_CONV_OPEN_RESULT_SLOT : Fld := ⟨0x084114, 0, 7⟩
def F.HCL_CONV_OPEN_RESULT_STATUS : Fld := ⟨0x084114, 8, 8⟩
def F.HCL_SEG_TIMEOUT_FRAMES : Fld := ⟨0x084118, 0, 4⟩
def F.HCL_RETX_LIMIT_COUNT : Fld := ⟨0x08411C, 0, 4⟩
def F.HCL_DISC_RETRY_FRAMES : Fld := ⟨0x084120, 0, 16⟩
def F.HCL_CONV_SLOTS_FREE : Fld := ⟨0x084124, 0, 8⟩
def F.HCL_CONV_SLOTS_DONE : Fld := ⟨0x084124, 8, 8⟩
def F.HCL_CONV_SLOTS_POOL_FREE : Fld := ⟨0x084124, 16, 16⟩
def F.HCL_CONV_OPEN_COUNT : Fld := ⟨0x084140, 0, 32⟩
def F.HCL_CONV_NOSLOT_COUNT : Fld := ⟨0x084144, 0, 32⟩
def F.HCL_CONV_QFULL_COUNT : Fld := ⟨0x084148, 0, 32⟩
def F.HCL_CONV_REFUSE_COUNT : Fld := ⟨0x08414C, 0, 32⟩
def F.HCL_CONV_FAIL_COUNT : Fld := ⟨0x084150, 0, 32⟩
def F.HCL_DISC_DEFER_COUNT : Fld := ⟨0x084154, 0, 32⟩
def F.HCL_CONV_WDATA_WORD (i : Nat) : Fld := ⟨0x084180 + 0x4 * i, 0, 32⟩
def F.HCL_CONV_STATUS_STATE (i : Nat) : Fld := ⟨0x085000 + 0x4 * i, 0, 3⟩
def F.HCL_CONV_STATUS_LANE (i : Nat) : Fld := ⟨0x085000 + 0x4 * i, 4, 6⟩
def F.HCL_CONV_STATUS_KIND (i : Nat) : Fld := ⟨0x085000 + 0x4 * i, 10, 4⟩
def F.HCL_CONV_STATUS_RESULT (i : Nat) : Fld := ⟨0x085000 + 0x4 * i, 16, 8⟩
def F.HCL_CONV_STATUS_ABORT (i : Nat) : Fld := ⟨0x085000 + 0x4 * i, 30, 1⟩
def F.HCL_CONV_STATUS_RELEASE (i : Nat) : Fld := ⟨0x085000 + 0x4 * i, 31, 1⟩
def F.HCL_CONV_PROGRESS_BYTES (i : Nat) : Fld := ⟨0x085200 + 0x4 * i, 0, 32⟩
def F.HCL_CONV_AGE_FRAMES (i : Nat) : Fld := ⟨0x085400 + 0x4 * i, 0, 32⟩

/-! ### Control engine -/
def F.CE_GRAPH_INSTANCES : Fld := ⟨0x0C0000, 0, 9⟩
def F.CE_GRAPH_SETS : Fld := ⟨0x0C0000, 16, 7⟩
def F.CE_COST_LANE_CYCLES : Fld := ⟨0x0C0004, 0, 16⟩
def F.CE_COST_WORDS : Fld := ⟨0x0C0004, 16, 12⟩
def F.CE_STATUS_RUNNING : Fld := ⟨0x0C0008, 0, 1⟩
def F.CE_STATUS_HELD : Fld := ⟨0x0C0008, 1, 1⟩
def F.CE_STATUS_NONFINITE : Fld := ⟨0x0C0008, 2, 1⟩
def F.CE_STATUS_CONFLICT : Fld := ⟨0x0C0008, 3, 1⟩
def F.CE_CTRL_INIT : Fld := ⟨0x0C000C, 0, 1⟩
def F.CE_NONFINITE_LIMIT_FRAMES : Fld := ⟨0x0C0010, 0, 8⟩
def F.CE_SEL_INSTANCE : Fld := ⟨0x0C0020, 0, 8⟩
def F.CE_SEL_INFO_TYPE : Fld := ⟨0x0C0024, 0, 5⟩
def F.CE_SEL_INFO_SET : Fld := ⟨0x0C0024, 8, 6⟩
def F.CE_SEL_INFO_GROUPED : Fld := ⟨0x0C0024, 14, 1⟩
def F.CE_SEL_INFO_COST : Fld := ⟨0x0C0024, 16, 8⟩
def F.CE_SEL_STATE_LIMITED : Fld := ⟨0x0C0028, 0, 1⟩
def F.CE_SEL_STATE_CONFLICT : Fld := ⟨0x0C0028, 1, 1⟩
def F.CE_SEL_STATE_NONFINITE : Fld := ⟨0x0C0028, 2, 1⟩
def F.CE_SEL_STATE_FROZEN : Fld := ⟨0x0C0028, 3, 1⟩
def F.CE_SEL_STATE_TRACKING : Fld := ⟨0x0C0028, 4, 1⟩
def F.CE_SEL_STATE_MANUAL : Fld := ⟨0x0C0028, 5, 1⟩
def F.CE_SEL_STATE_TRIPPED : Fld := ⟨0x0C0028, 6, 1⟩
def F.CE_SEL_STATE_FLOORED : Fld := ⟨0x0C0028, 7, 1⟩
def F.CE_SEL_EVENT_COUNT : Fld := ⟨0x0C002C, 0, 32⟩
def F.CE_SEL_OUT_VALUE : Fld := ⟨0x0C0030, 0, 32⟩
def F.CE_BLK_PARAM_P (i : Nat) : Fld := ⟨0x0C0040 + 0x4 * i, 0, 32⟩
def F.CE_NONFINITE_COUNT : Fld := ⟨0x0C0080, 0, 32⟩
def F.CE_INIT_COUNT : Fld := ⟨0x0C0084, 0, 32⟩
def F.CE_ECC_CORR_COUNT : Fld := ⟨0x0C0088, 0, 32⟩
def F.CE_ECC_UNCORR_COUNT : Fld := ⟨0x0C008C, 0, 32⟩
def F.CE_SPAN_LATE_COUNT : Fld := ⟨0x0C0090, 0, 32⟩

/-! ### Balancing and edge -/
def F.BAL_KEY_LSB_VOLTS : Fld := ⟨0x0E0010, 0, 32⟩
def F.BAL_SWAP_PENALTY_VOLTS : Fld := ⟨0x0E0014, 0, 32⟩
def F.BAL_EXCLUDE_LO_MASK : Fld := ⟨0x0E0018, 0, 32⟩
def F.BAL_EXCLUDE_HI_MASK : Fld := ⟨0x0E001C, 0, 32⟩
def F.BAL_ARM_LOCAL_QUOTA (i : Nat) : Fld := ⟨0x0E0020 + 0x4 * i, 0, 7⟩
def F.BAL_ARM_LOCAL_TRIM (i : Nat) : Fld := ⟨0x0E0020 + 0x4 * i, 7, 1⟩
def F.BAL_ARM_LOCAL_SELECTABLE (i : Nat) : Fld := ⟨0x0E0020 + 0x4 * i, 8, 7⟩
def F.BAL_ARM_LOCAL_INSERTED (i : Nat) : Fld := ⟨0x0E0020 + 0x4 * i, 16, 7⟩
def F.BAL_ARM_LOCAL_NEG (i : Nat) : Fld := ⟨0x0E0020 + 0x4 * i, 23, 1⟩
def F.BAL_ARM_LOCAL_DIR (i : Nat) : Fld := ⟨0x0E0020 + 0x4 * i, 24, 1⟩
def F.BAL_ARM_LOCAL_QUOTA_STALE (i : Nat) : Fld := ⟨0x0E0020 + 0x4 * i, 25, 1⟩
def F.BAL_ARM_LOCAL_SHORT (i : Nat) : Fld := ⟨0x0E0020 + 0x4 * i, 26, 1⟩
def F.BAL_TRIM_LANE_LANE0 : Fld := ⟨0x0E0028, 0, 6⟩
def F.BAL_TRIM_LANE_VALID0 : Fld := ⟨0x0E0028, 6, 1⟩
def F.BAL_TRIM_LANE_LANE1 : Fld := ⟨0x0E0028, 8, 6⟩
def F.BAL_TRIM_LANE_VALID1 : Fld := ⟨0x0E0028, 14, 1⟩
def F.BAL_SHORT_COUNT : Fld := ⟨0x0E0080, 0, 32⟩
def F.BAL_INSERT_CHANGE_COUNT : Fld := ⟨0x0E0084, 0, 32⟩
def F.BAL_TRIM_CHANGE_COUNT : Fld := ⟨0x0E0088, 0, 32⟩
def F.EDGE_DELAY_HB_RISE (i : Nat) : Fld := ⟨0x0E1000 + 0x4 * i, 0, 12⟩
def F.EDGE_DELAY_HB_FALL (i : Nat) : Fld := ⟨0x0E1000 + 0x4 * i, 16, 12⟩
def F.EDGE_DELAY_FB_RISE (i : Nat) : Fld := ⟨0x0E1010 + 0x4 * i, 0, 12⟩
def F.EDGE_DELAY_FB_FALL (i : Nat) : Fld := ⟨0x0E1010 + 0x4 * i, 16, 12⟩
def F.EDGE_DELAY_DX_RISE (i : Nat) : Fld := ⟨0x0E1020 + 0x4 * i, 0, 12⟩
def F.EDGE_DELAY_DX_FALL (i : Nat) : Fld := ⟨0x0E1020 + 0x4 * i, 16, 12⟩
def F.EDGE_MIN_PULSE_MIN : Fld := ⟨0x0E1040, 0, 12⟩
def F.EDGE_MIN_PULSE_HANDLING : Fld := ⟨0x0E1040, 16, 2⟩
def F.EDGE_TRIM_ON_ON : Fld := ⟨0x0E1050, 0, 16⟩
def F.EDGE_TRIM_PMAX_PERIOD : Fld := ⟨0x0E1054, 0, 21⟩
def F.EDGE_DX_ON_ON : Fld := ⟨0x0E1058, 0, 16⟩
def F.EDGE_DX_PERIOD_PERIOD : Fld := ⟨0x0E105C, 0, 21⟩
def F.EDGE_DX_CTRL_SPREAD : Fld := ⟨0x0E1060, 0, 1⟩
def F.EDGE_DX_CTRL_INTERLEAVE : Fld := ⟨0x0E1060, 1, 1⟩
def F.EDGE_DX_CTRL_SEC_MODE : Fld := ⟨0x0E1060, 2, 1⟩
def F.EDGE_DX_CTRL_SEC_DELAY : Fld := ⟨0x0E1060, 16, 12⟩
def F.EDGE_DX_STATE_P_CELL : Fld := ⟨0x0E1070, 0, 21⟩
def F.EDGE_DX_STATE_DX_LIMITED : Fld := ⟨0x0E1070, 21, 1⟩
def F.EDGE_DX_STATE_N_RUN : Fld := ⟨0x0E1070, 22, 7⟩
def F.EDGE_SHORT_COUNT : Fld := ⟨0x0E1400, 0, 32⟩
def F.EDGE_CARRY_LOST_COUNT : Fld := ⟨0x0E1404, 0, 32⟩
def F.EDGE_POSTPONE_COUNT : Fld := ⟨0x0E1408, 0, 32⟩
def F.EDGE_INTERLOCK_COUNT : Fld := ⟨0x0E140C, 0, 32⟩
def F.EDGE_BOTH_ON_COUNT : Fld := ⟨0x0E1410, 0, 32⟩
def F.EDGE_DX_LIMIT_COUNT : Fld := ⟨0x0E1414, 0, 32⟩

/-! ### Measurement, with protection -/
def F.FS_GAIN_GAIN (i : Nat) : Fld := ⟨0x100000 + 0x4 * i, 0, 32⟩
def F.FS_OFFSET_OFFSET (i : Nat) : Fld := ⟨0x100040 + 0x4 * i, 0, 32⟩
def F.FS_STATUS_CLIP : Fld := ⟨0x100080, 0, 16⟩
def F.FS_STATUS_TEST_FAIL : Fld := ⟨0x100080, 16, 16⟩
def F.FS_WINDOW_K : Fld := ⟨0x100084, 0, 9⟩
def F.FS_WINDOW_TEST_CONFLICT : Fld := ⟨0x100084, 9, 1⟩
def F.FS_TEST_SCHED_SLOT (i : Nat) : Fld := ⟨0x100090 + 0x4 * i, 0, 9⟩
def F.FS_TEST_SCHED_MASK (i : Nat) : Fld := ⟨0x100090 + 0x4 * i, 16, 4⟩
def F.FS_TEST_SCHED_PERIOD (i : Nat) : Fld := ⟨0x100090 + 0x4 * i, 24, 8⟩
def F.FS_TEST_LEVELS_A_L0 (i : Nat) : Fld := ⟨0x1000A0 + 0x8 * i, 0, 12⟩
def F.FS_TEST_LEVELS_A_L1 (i : Nat) : Fld := ⟨0x1000A0 + 0x8 * i, 16, 12⟩
def F.FS_TEST_LEVELS_B_L2 (i : Nat) : Fld := ⟨0x1000A4 + 0x8 * i, 0, 12⟩
def F.FS_TEST_LEVELS_B_L3 (i : Nat) : Fld := ⟨0x1000A4 + 0x8 * i, 16, 12⟩
def F.FS_TEST_TOL_CODES : Fld := ⟨0x1000C0, 0, 8⟩
def F.FS_TEST_FAIL_LIMIT_COUNT : Fld := ⟨0x1000C4, 0, 4⟩
def F.FS_TEST_RESULT_CODE (i : Nat) : Fld := ⟨0x100100 + 0x4 * i, 0, 16⟩
def F.FS_TEST_RESULT_LEVEL (i : Nat) : Fld := ⟨0x100100 + 0x4 * i, 16, 2⟩
def F.FS_TEST_RESULT_FAIL (i : Nat) : Fld := ⟨0x100100 + 0x4 * i, 18, 1⟩
def F.FS_TEST_RESULT_CONSEC (i : Nat) : Fld := ⟨0x100100 + 0x4 * i, 20, 4⟩
def F.FS_MEAN_LIVE_VALUE (i : Nat) : Fld := ⟨0x100180 + 0x4 * i, 0, 32⟩
def F.FS_LAST_LIVE_VALUE (i : Nat) : Fld := ⟨0x1001C0 + 0x4 * i, 0, 32⟩
def F.FS_CLIP_COUNT : Fld := ⟨0x100200, 0, 32⟩
def F.FS_TEST_COUNT : Fld := ⟨0x100204, 0, 32⟩
def F.FS_TEST_FAIL_COUNT : Fld := ⟨0x100208, 0, 32⟩
def F.FS_TEST_SKIP_COUNT : Fld := ⟨0x10020C, 0, 32⟩
def F.MET_CTRL_INPUT (i : Nat) : Fld := ⟨0x101000 + 0x4 * i, 0, 3⟩
def F.MET_CTRL_REFSEL (i : Nat) : Fld := ⟨0x101000 + 0x4 * i, 4, 2⟩
def F.MET_CTRL_CYCLES (i : Nat) : Fld := ⟨0x101000 + 0x4 * i, 8, 5⟩
def F.MET_CTRL_CONT (i : Nat) : Fld := ⟨0x101000 + 0x4 * i, 16, 1⟩
def F.MET_WINDOW_UNITS (i : Nat) : Fld := ⟨0x101010 + 0x4 * i, 0, 14⟩
def F.MET_MF_FRAMES_FRAMES : Fld := ⟨0x101020, 0, 14⟩
def F.MET_GO_GO : Fld := ⟨0x101024, 0, 4⟩
def F.MET_STATUS_BUSY : Fld := ⟨0x101028, 0, 4⟩
def F.MET_STATUS_LSYNC_OK : Fld := ⟨0x101028, 4, 1⟩
def F.MET_STATUS_MF_CONFLICT : Fld := ⟨0x101028, 5, 1⟩
def F.MET_STATUS_ENERGY : Fld := ⟨0x101028, 6, 1⟩
def F.MET_STATUS_CHECK_FAIL : Fld := ⟨0x101028, 8, 4⟩
def F.MET_LSYNC_PERIOD_US : Fld := ⟨0x10102C, 0, 16⟩
def F.MET_CHECK_TOL_CODES : Fld := ⟨0x101030, 0, 16⟩
def F.MET_RESULT_CODE (i : Nat) : Fld := ⟨0x101040 + 0x4 * i, 0, 24⟩
def F.MET_RESULT_FULL (i : Nat) : Fld := ⟨0x101040 + 0x4 * i, 24, 1⟩
def F.MET_RESULT_OVR (i : Nat) : Fld := ⟨0x101040 + 0x4 * i, 25, 1⟩
def F.MET_RESULT_NOREF (i : Nat) : Fld := ⟨0x101040 + 0x4 * i, 26, 1⟩
def F.MET_RESULT_VALID (i : Nat) : Fld := ⟨0x101040 + 0x4 * i, 27, 1⟩
def F.MET_RESULT_INPUT (i : Nat) : Fld := ⟨0x101040 + 0x4 * i, 28, 3⟩
def F.MET_RESULT_FRAME_FRAME (i : Nat) : Fld := ⟨0x101050 + 0x4 * i, 0, 32⟩
def F.MET_SCALE_V_VOLTS : Fld := ⟨0x101060, 0, 32⟩
def F.MET_SCALE_I_AMPS : Fld := ⟨0x101064, 0, 32⟩
def F.MET_ENERGY_CFG_SIGN : Fld := ⟨0x101068, 0, 1⟩
def F.MET_GO_OVERRUN_COUNT (i : Nat) : Fld := ⟨0x101080 + 0x4 * i, 0, 32⟩
def F.MET_RESULT_COUNT (i : Nat) : Fld := ⟨0x101090 + 0x4 * i, 0, 32⟩
def F.MET_OVR_COUNT : Fld := ⟨0x1010A0, 0, 32⟩
def F.MET_NOREF_COUNT : Fld := ⟨0x1010A4, 0, 32⟩
def F.MET_LSYNC_REJECT_COUNT : Fld := ⟨0x1010A8, 0, 32⟩
def F.MET_CHECK_FAIL_COUNT : Fld := ⟨0x1010AC, 0, 32⟩
def F.MET_ENERGY_WINDOW_COUNT : Fld := ⟨0x1010B0, 0, 32⟩
def F.MET_ENERGY_OVR_COUNT : Fld := ⟨0x1010B4, 0, 32⟩
def F.MET_ENERGY_RESTORE_COUNT : Fld := ⟨0x1010B8, 0, 32⟩
def F.CAP_CTRL_PRE : Fld := ⟨0x102000, 0, 12⟩
def F.CAP_CTRL_DECIM : Fld := ⟨0x102000, 16, 8⟩
def F.CAP_CTRL_TRIG_SHUTTER : Fld := ⟨0x102000, 24, 1⟩
def F.CAP_CTRL_TRIG_FAULT : Fld := ⟨0x102000, 25, 1⟩
def F.CAP_CTRL_TRIG_LEVEL : Fld := ⟨0x102000, 26, 1⟩
def F.CAP_CTRL_FAULT_CLASS : Fld := ⟨0x102000, 28, 3⟩
def F.CAP_LEVEL_CHANNEL : Fld := ⟨0x102004, 0, 4⟩
def F.CAP_LEVEL_ABOVE : Fld := ⟨0x102004, 4, 1⟩
def F.CAP_LEVEL_LEVEL : Fld := ⟨0x102004, 16, 16⟩
def F.CAP_CMD_ARM : Fld := ⟨0x102008, 0, 1⟩
def F.CAP_CMD_TRIGGER : Fld := ⟨0x102008, 1, 1⟩
def F.CAP_STATE_STATE : Fld := ⟨0x10200C, 0, 2⟩
def F.CAP_STATE_SOURCE : Fld := ⟨0x10200C, 2, 3⟩
def F.CAP_STATE_PRE_VALID : Fld := ⟨0x10200C, 16, 12⟩
def F.CAP_TRIG_FRAME_FRAME : Fld := ⟨0x102010, 0, 32⟩
def F.CAP_TRIG_SLOT_SLOT : Fld := ⟨0x102014, 0, 9⟩
def F.CAP_IGNORED_COUNT : Fld := ⟨0x102080, 0, 32⟩
def F.PROT_HARD_LO (i : Nat) : Fld := ⟨0x103000 + 0x20 * i, 0, 16⟩
def F.PROT_HARD_HI (i : Nat) : Fld := ⟨0x103000 + 0x20 * i, 16, 16⟩
def F.PROT_SOFT_LO (i : Nat) : Fld := ⟨0x103004 + 0x20 * i, 0, 16⟩
def F.PROT_SOFT_HI (i : Nat) : Fld := ⟨0x103004 + 0x20 * i, 16, 16⟩
def F.PROT_SOFT_CTRL_FILTER (i : Nat) : Fld := ⟨0x103008 + 0x20 * i, 0, 4⟩
def F.PROT_SOFT_CTRL_BLANK (i : Nat) : Fld := ⟨0x103008 + 0x20 * i, 4, 8⟩
def F.PROT_SOFT_CTRL_ROLE (i : Nat) : Fld := ⟨0x103008 + 0x20 * i, 12, 2⟩
def F.PROT_CH_STATE_HARD (i : Nat) : Fld := ⟨0x10300C + 0x20 * i, 0, 1⟩
def F.PROT_CH_STATE_SOFT (i : Nat) : Fld := ⟨0x10300C + 0x20 * i, 1, 1⟩
def F.PROT_CH_STATE_BLANKED (i : Nat) : Fld := ⟨0x10300C + 0x20 * i, 2, 1⟩
def F.PROT_CH_STATE_PENDING (i : Nat) : Fld := ⟨0x10300C + 0x20 * i, 3, 1⟩
def F.PROT_CH_STATE_SUBST (i : Nat) : Fld := ⟨0x10300C + 0x20 * i, 4, 1⟩
def F.PROT_HARD_COUNT (i : Nat) : Fld := ⟨0x103010 + 0x20 * i, 0, 32⟩
def F.PROT_SOFT_COUNT (i : Nat) : Fld := ⟨0x103014 + 0x20 * i, 0, 32⟩
def F.PROT_PEND_COUNT (i : Nat) : Fld := ⟨0x103018 + 0x20 * i, 0, 32⟩
def F.PROT_PEND_DROP_COUNT (i : Nat) : Fld := ⟨0x10301C + 0x20 * i, 0, 32⟩
def F.PROT_CFG_HARD_CLASS : Fld := ⟨0x103400, 0, 1⟩
def F.PROT_CFG_SOFT_CLASS : Fld := ⟨0x103400, 1, 1⟩
def F.PROT_CFG_DCS_CLASS : Fld := ⟨0x103400, 2, 1⟩
def F.PROT_CFG_DESAT_SHUTTER : Fld := ⟨0x103400, 3, 1⟩
def F.PROT_CFG_SAME_SIGN : Fld := ⟨0x103400, 4, 1⟩
def F.PROT_DCS_WINDOW_WINDOW : Fld := ⟨0x103404, 0, 10⟩
def F.PROT_EST_TOL_AMPS : Fld := ⟨0x103408, 0, 32⟩
def F.PROT_EST_LIMIT_FRAMES : Fld := ⟨0x10340C, 0, 20⟩
def F.PROT_DERATE_FACTOR : Fld := ⟨0x103410, 0, 32⟩
def F.PROT_CELL_C_FARADS : Fld := ⟨0x103414, 0, 32⟩
def F.PROT_EST_MIN_CELLS_CELLS : Fld := ⟨0x103418, 0, 6⟩
def F.PROT_VCAP_TRIP_VOLTS : Fld := ⟨0x10341C, 0, 32⟩
def F.PROT_DX_IMIN_CURRENT : Fld := ⟨0x103420, 0, 16⟩
def F.PROT_DX_IMIN_FRAMES : Fld := ⟨0x103420, 16, 16⟩
def F.PROT_DX_LOAD_PERIOD : Fld := ⟨0x103424, 0, 21⟩
def F.PROT_STATUS_LATCHED0 : Fld := ⟨0x103440, 0, 1⟩
def F.PROT_STATUS_LATCHED1 : Fld := ⟨0x103440, 1, 1⟩
def F.PROT_STATUS_DCSIDE : Fld := ⟨0x103440, 2, 1⟩
def F.PROT_STATUS_HOLD : Fld := ⟨0x103440, 3, 1⟩
def F.PROT_STATUS_TRIPPED : Fld := ⟨0x103440, 4, 1⟩
def F.PROT_STATUS_DERATE : Fld := ⟨0x103440, 5, 1⟩
def F.PROT_STATUS_WARN : Fld := ⟨0x103440, 6, 1⟩
def F.PROT_STATUS_HOST_HELD : Fld := ⟨0x103440, 7, 1⟩
def F.PROT_STATUS_REASON : Fld := ⟨0x103440, 8, 3⟩
def F.PROT_STATUS_ORIGIN : Fld := ⟨0x103440, 12, 3⟩
def F.PROT_CMD_SHUTTER : Fld := ⟨0x103444, 0, 1⟩
def F.PROT_CMD_F4_RESET : Fld := ⟨0x103444, 1, 1⟩
def F.PROT_CMD_UNPIN : Fld := ⟨0x103444, 2, 1⟩
def F.PROT_CMD_UNPIN_ALL : Fld := ⟨0x103444, 3, 1⟩
def F.PROT_CMD_CLEAR_BYPASS : Fld := ⟨0x103444, 4, 1⟩
def F.PROT_RESET_KEY_KEY : Fld := ⟨0x103448, 0, 32⟩
def F.PROT_SEL_LANE : Fld := ⟨0x10344C, 0, 6⟩
def F.PROT_SEL_INDEX : Fld := ⟨0x10344C, 8, 8⟩
def F.PROT_BYPASS_LO_MASK : Fld := ⟨0x103450, 0, 32⟩
def F.PROT_BYPASS_HI_MASK : Fld := ⟨0x103454, 0, 32⟩
def F.PROT_SHUTTER_COUNT : Fld := ⟨0x103480, 0, 32⟩
def F.PROT_MERGE_COUNT : Fld := ⟨0x103484, 0, 32⟩
def F.PROT_PREEMPT_COUNT : Fld := ⟨0x103488, 0, 32⟩
def F.PROT_RELEASE_VOID_COUNT : Fld := ⟨0x10348C, 0, 32⟩
def F.PROT_RESET_REFUSE_COUNT : Fld := ⟨0x103490, 0, 32⟩
def F.PROT_BYPASS_COUNT : Fld := ⟨0x103494, 0, 32⟩
def F.PROT_EST_COUNT : Fld := ⟨0x103498, 0, 32⟩
def F.PROT_DX_FAIL_COUNT : Fld := ⟨0x10349C, 0, 32⟩
def F.PROT_QUEUE_LOST_COUNT : Fld := ⟨0x1034A0, 0, 32⟩
def F.PROT_RING_OVERFLOW_COUNT : Fld := ⟨0x1034A4, 0, 32⟩
def F.PROT_PIN_FULL_COUNT : Fld := ⟨0x1034A8, 0, 32⟩
def F.PROT_CLASS_COUNT (i : Nat) : Fld := ⟨0x1034C0 + 0x4 * i, 0, 32⟩

/-! ### Thermal -/
def F.THM_TEMP_TEMP (i : Nat) : Fld := ⟨0x110000 + 0x4 * i, 0, 16⟩
def F.THM_TH_CFG_TYPE (i : Nat) : Fld := ⟨0x110040 + 0x4 * i, 0, 1⟩
def F.THM_TH_CFG_ROLE (i : Nat) : Fld := ⟨0x110040 + 0x4 * i, 1, 2⟩
def F.THM_STATUS_BROKEN : Fld := ⟨0x110060, 0, 16⟩
def F.THM_STATUS_ACTIVE : Fld := ⟨0x110060, 16, 1⟩
def F.THM_STATUS_AT_FLOOR : Fld := ⟨0x110060, 17, 1⟩
def F.THM_STATUS_NV_OK : Fld := ⟨0x110060, 18, 1⟩
def F.THM_STATUS_ENERGIZE_OK : Fld := ⟨0x110060, 19, 1⟩
def F.THM_STATUS_WARN : Fld := ⟨0x110060, 20, 1⟩
def F.THM_STATUS_SHUTDOWN : Fld := ⟨0x110060, 21, 1⟩
def F.THM_LOUVRE_KNEE_DIE : Fld := ⟨0x110070, 0, 16⟩
def F.THM_LOUVRE_KNEE_EXT : Fld := ⟨0x110070, 16, 16⟩
def F.THM_LOUVRE_SLOPE_WATTS_PER_K : Fld := ⟨0x110074, 0, 32⟩
def F.THM_LOUVRE_FLOOR_WATTS : Fld := ⟨0x110078, 0, 32⟩
def F.THM_PLIM_UNDRATED_WATTS : Fld := ⟨0x11007C, 0, 32⟩
def F.THM_PLIM_WATTS : Fld := ⟨0x110080, 0, 32⟩
def F.THM_TJ_WARN_TEMP : Fld := ⟨0x110084, 0, 16⟩
def F.THM_COOL_WINDOW_MIN : Fld := ⟨0x110088, 0, 16⟩
def F.THM_COOL_WINDOW_MAX : Fld := ⟨0x110088, 16, 16⟩
def F.THM_BROKEN_COUNT : Fld := ⟨0x1100C0, 0, 32⟩
def F.THM_LOUVRE_COUNT : Fld := ⟨0x1100C4, 0, 32⟩
def F.THM_NV_REFUSE_COUNT : Fld := ⟨0x1100C8, 0, 32⟩
def F.THM_COOL_EXIT_COUNT : Fld := ⟨0x1100CC, 0, 32⟩

/-! ### Safety -/
def F.SAF_STATE_STATE : Fld := ⟨0x120000, 0, 3⟩
def F.SAF_STATE_ARMED : Fld := ⟨0x120000, 3, 1⟩
def F.SAF_STATE_SUSPENDED : Fld := ⟨0x120000, 4, 1⟩
def F.SAF_STATE_CLOSED : Fld := ⟨0x120000, 5, 1⟩
def F.SAF_STATE_LOCK_CAUSE : Fld := ⟨0x120000, 16, 8⟩
def F.SAF_IO_SI : Fld := ⟨0x120004, 0, 12⟩
def F.SAF_IO_TP : Fld := ⟨0x120004, 12, 4⟩
def F.SAF_IO_SO : Fld := ⟨0x120004, 16, 4⟩
def F.SAF_IO_PERMIT_IN : Fld := ⟨0x120004, 20, 1⟩
def F.SAF_IO_PERMIT_OUT : Fld := ⟨0x120004, 21, 1⟩
def F.SAF_IO_SAFE_ACK : Fld := ⟨0x120004, 22, 1⟩
def F.SAF_DEMAND_INPUT : Fld := ⟨0x120008, 0, 12⟩
def F.SAF_DEMAND_SLV : Fld := ⟨0x120008, 12, 1⟩
def F.SAF_DEMAND_SLR : Fld := ⟨0x120008, 13, 1⟩
def F.SAF_DEMAND_SLD : Fld := ⟨0x120008, 14, 1⟩
def F.SAF_DEMAND_HOST : Fld := ⟨0x120008, 15, 1⟩
def F.SAF_DEMAND_NOTCONFIG : Fld := ⟨0x120008, 16, 1⟩
def F.SAF_DEMAND_MSG_LOSS : Fld := ⟨0x120008, 17, 1⟩
def F.SAF_DEMAND_CHAIN_OPEN : Fld := ⟨0x120008, 18, 1⟩
def F.SAF_DOORS_CYCLED : Fld := ⟨0x12000C, 0, 8⟩
def F.SAF_ARM_KEY : Fld := ⟨0x120010, 0, 32⟩
def F.SAF_CMD_HOST_BLOCK : Fld := ⟨0x120014, 0, 1⟩
def F.SAF_SELECT_SLV_SET : Fld := ⟨0x120018, 0, 2⟩
def F.SAF_SELECT_SLD_DIR : Fld := ⟨0x120018, 4, 2⟩
def F.SAF_SELECT_CONFIRM_CONFIRM : Fld := ⟨0x12001C, 0, 32⟩
def F.SAF_SELECT_ACTIVE_SLV_SET : Fld := ⟨0x120020, 0, 2⟩
def F.SAF_SELECT_ACTIVE_SLD_DIR : Fld := ⟨0x120020, 4, 2⟩
def F.SAF_SLV_VALUE_VOLTS : Fld := ⟨0x120024, 0, 32⟩
def F.SAF_SLR_VALUE_RATE : Fld := ⟨0x120028, 0, 32⟩
def F.SAF_SLD_VALUE_WATTS : Fld := ⟨0x12002C, 0, 32⟩
def F.SAF_PARAM_CRC_CRC : Fld := ⟨0x120030, 0, 32⟩
def F.SAF_DEMAND_COUNT : Fld := ⟨0x120080, 0, 32⟩
def F.SAF_BOLTED_COUNT : Fld := ⟨0x120084, 0, 32⟩
def F.SAF_ACK_COUNT : Fld := ⟨0x120088, 0, 32⟩
def F.SAF_ACK_REFUSE_COUNT : Fld := ⟨0x12008C, 0, 32⟩
def F.SAF_ARM_REFUSE_COUNT : Fld := ⟨0x120090, 0, 32⟩
def F.SAF_SELECT_REFUSE_COUNT : Fld := ⟨0x120094, 0, 32⟩
def F.SAF_TP_ERR_COUNT : Fld := ⟨0x120098, 0, 32⟩
def F.SAF_MSG_ERR_COUNT : Fld := ⟨0x12009C, 0, 32⟩
def F.SAF_MSG_LOSS_COUNT : Fld := ⟨0x1200A0, 0, 32⟩
def F.SAF_CHAIN_RETRY_COUNT : Fld := ⟨0x1200A4, 0, 32⟩
def F.SAF_ECC_CORR_COUNT : Fld := ⟨0x1200A8, 0, 32⟩

/-! ### Redundancy -/
def F.RED_STATE_STATE : Fld := ⟨0x130000, 0, 3⟩
def F.RED_STATE_PHASE : Fld := ⟨0x130000, 4, 3⟩
def F.RED_STATE_COLD : Fld := ⟨0x130000, 7, 1⟩
def F.RED_STATE_UNIT : Fld := ⟨0x130000, 8, 1⟩
def F.RED_STATE_START_ROLE : Fld := ⟨0x130000, 9, 1⟩
def F.RED_STATE_GROUP_STATE : Fld := ⟨0x130000, 12, 3⟩
def F.RED_STATE_CAUSE : Fld := ⟨0x130000, 16, 8⟩
def F.RED_CLAIM_CLAIM : Fld := ⟨0x130004, 0, 32⟩
def F.RED_CKPT_INTERVAL_UNITS : Fld := ⟨0x130008, 0, 10⟩
def F.RED_GAP_COAST : Fld := ⟨0x13000C, 0, 15⟩
def F.RED_GAP_SIMMER : Fld := ⟨0x13000C, 16, 1⟩
def F.RED_START_START_WAIT : Fld := ⟨0x130010, 0, 12⟩
def F.RED_START_RELQ_MASK : Fld := ⟨0x130010, 16, 3⟩
def F.RED_CMD_RELINQUISH : Fld := ⟨0x130014, 0, 1⟩
def F.RED_CMD_HANDOVER : Fld := ⟨0x130014, 1, 1⟩
def F.RED_CMD_STANDBY : Fld := ⟨0x130014, 2, 1⟩
def F.RED_CMD_TAKE : Fld := ⟨0x130014, 3, 1⟩
def F.RED_CMD_WAKE : Fld := ⟨0x130014, 4, 1⟩
def F.RED_KEY_KEY : Fld := ⟨0x130018, 0, 32⟩
def F.RED_WAKE_TIME_US : Fld := ⟨0x13001C, 0, 16⟩
def F.RED_WATCHDOG_REMAINING : Fld := ⟨0x130020, 0, 16⟩
def F.RED_SETTINGS_SEQ_SEQ : Fld := ⟨0x130024, 0, 32⟩
def F.RED_GEN_RECORD_GENERATION : Fld := ⟨0x130028, 0, 24⟩
def F.RED_BUF_INFO0_LENGTH (i : Nat) : Fld := ⟨0x130040 + 0x10 * i, 0, 15⟩
def F.RED_BUF_INFO0_VALID (i : Nat) : Fld := ⟨0x130040 + 0x10 * i, 15, 1⟩
def F.RED_BUF_INFO0_EPOCH (i : Nat) : Fld := ⟨0x130040 + 0x10 * i, 16, 16⟩
def F.RED_BUF_INFO1_SEQ (i : Nat) : Fld := ⟨0x130044 + 0x10 * i, 0, 32⟩
def F.RED_BUF_INFO2_FRAME (i : Nat) : Fld := ⟨0x130048 + 0x10 * i, 0, 32⟩
def F.RED_BUF_INFO3_CLAIM (i : Nat) : Fld := ⟨0x13004C + 0x10 * i, 0, 32⟩
def F.RED_CKPT_SENT_COUNT : Fld := ⟨0x130080, 0, 32⟩
def F.RED_CKPT_SKIP_COUNT : Fld := ⟨0x130084, 0, 32⟩
def F.RED_SETTINGS_SENT_COUNT : Fld := ⟨0x130088, 0, 32⟩
def F.RED_CKPT_RX_COUNT : Fld := ⟨0x13008C, 0, 32⟩
def F.RED_CKPT_BAD_COUNT : Fld := ⟨0x130090, 0, 32⟩
def F.RED_SETTINGS_RX_COUNT : Fld := ⟨0x130094, 0, 32⟩
def F.RED_HATCH_ERR_COUNT : Fld := ⟨0x130098, 0, 32⟩
def F.RED_WATCHDOG_COUNT : Fld := ⟨0x13009C, 0, 32⟩
def F.RED_WAKE_COUNT : Fld := ⟨0x1300A0, 0, 32⟩
def F.RED_COLD_WAKE_COUNT : Fld := ⟨0x1300A4, 0, 32⟩
def F.RED_COLD_ABORT_COUNT : Fld := ⟨0x1300A8, 0, 32⟩
def F.RED_RELINQUISH_COUNT : Fld := ⟨0x1300AC, 0, 32⟩
def F.RED_CMD_REFUSE_COUNT : Fld := ⟨0x1300B0, 0, 32⟩
def F.RED_NOTICE_IGNORED_COUNT : Fld := ⟨0x1300B4, 0, 32⟩
def F.RED_GEN_MISMATCH_COUNT : Fld := ⟨0x1300B8, 0, 32⟩

/-! ### Security -/
def F.SEC_LIFECYCLE_STATE : Fld := ⟨0x140000, 0, 3⟩
def F.SEC_LIFECYCLE_UNLOCKED : Fld := ⟨0x140000, 8, 4⟩
def F.SEC_CONFIG_IN_FORCE : Fld := ⟨0x140004, 0, 1⟩
def F.SEC_CONFIG_SOURCE : Fld := ⟨0x140004, 1, 2⟩
def F.SEC_CONFIG_SVN_CFG : Fld := ⟨0x140004, 8, 6⟩
def F.SEC_CONFIG_SVN_FW : Fld := ⟨0x140004, 16, 6⟩
def F.SEC_CONFIG_SEQ_SEQ : Fld := ⟨0x140008, 0, 32⟩
def F.SEC_CONFIG_ID_HI_ID : Fld := ⟨0x14000C, 0, 32⟩
def F.SEC_CONFIG_ID_LO_ID : Fld := ⟨0x140010, 0, 32⟩
def F.SEC_KEY_STATE_PROGRAMMED : Fld := ⟨0x140014, 0, 8⟩
def F.SEC_KEY_STATE_REVOKED : Fld := ⟨0x140014, 8, 8⟩
def F.SEC_OTP_SVN_CFG_MIN : Fld := ⟨0x140018, 0, 6⟩
def F.SEC_OTP_SVN_FW_MIN : Fld := ⟨0x140018, 8, 6⟩
def F.SEC_BOOT_CTRL_PREFER : Fld := ⟨0x14001C, 0, 2⟩
def F.SEC_BOOT_CTRL_HOST_ONLY : Fld := ⟨0x14001C, 2, 1⟩
def F.SEC_CMD_LOAD : Fld := ⟨0x140020, 0, 1⟩
def F.SEC_CMD_PROGRAM_SLOT : Fld := ⟨0x140020, 1, 1⟩
def F.SEC_CMD_TOKEN : Fld := ⟨0x140020, 2, 1⟩
def F.SEC_CMD_ATTEST : Fld := ⟨0x140020, 3, 1⟩
def F.SEC_CMD_ADVANCE_SVN : Fld := ⟨0x140020, 4, 1⟩
def F.SEC_CMD_PROVISION : Fld := ⟨0x140020, 5, 1⟩
def F.SEC_CMD_DEPLOY : Fld := ⟨0x140020, 6, 1⟩
def F.SEC_CMD_LOCK : Fld := ⟨0x140020, 7, 1⟩
def F.SEC_CMD_ARG_SLOT : Fld := ⟨0x140024, 0, 1⟩
def F.SEC_CMD_ARG_NONCE : Fld := ⟨0x140024, 16, 10⟩
def F.SEC_KEY_KEY : Fld := ⟨0x140028, 0, 32⟩
def F.SEC_RESULT_CMD : Fld := ⟨0x14002C, 0, 4⟩
def F.SEC_RESULT_STATUS : Fld := ⟨0x14002C, 8, 8⟩
def F.SEC_RESULT_DETAIL : Fld := ⟨0x14002C, 16, 8⟩
def F.SEC_UNLOCK_REMAIN_SECONDS : Fld := ⟨0x140030, 0, 17⟩
def F.SEC_SLOT_STATUS_STATUS (i : Nat) : Fld := ⟨0x140034 + 0x4 * i, 0, 8⟩
def F.SEC_SLOT_STATUS_DETAIL (i : Nat) : Fld := ⟨0x140034 + 0x4 * i, 8, 8⟩
def F.SEC_SLOT_STATUS_TRIED (i : Nat) : Fld := ⟨0x140034 + 0x4 * i, 16, 1⟩
def F.SEC_CHALLENGE_WORD (i : Nat) : Fld := ⟨0x140040 + 0x4 * i, 0, 32⟩
def F.SEC_UID_WORD (i : Nat) : Fld := ⟨0x140050 + 0x4 * i, 0, 32⟩
def F.SEC_LOAD_COUNT : Fld := ⟨0x140080, 0, 32⟩
def F.SEC_REJECT_COUNT : Fld := ⟨0x140084, 0, 32⟩
def F.SEC_FALLBACK_COUNT : Fld := ⟨0x140088, 0, 32⟩
def F.SEC_TOKEN_REFUSE_COUNT : Fld := ⟨0x14008C, 0, 32⟩
def F.SEC_OTP_CORR_COUNT : Fld := ⟨0x140090, 0, 32⟩
def F.SEC_ATTEST_COUNT : Fld := ⟨0x140094, 0, 32⟩

/-! ### Services -/
def F.SVC_REQ_CODE : Fld := ⟨0x150000, 0, 8⟩
def F.SVC_REQ_QUEUE : Fld := ⟨0x150000, 8, 4⟩
def F.SVC_REQ_ARG_WORDS : Fld := ⟨0x150000, 12, 11⟩
def F.SVC_SUBMIT_SUBMIT : Fld := ⟨0x150004, 0, 1⟩
def F.SVC_SUBMIT_RESULT_STATUS : Fld := ⟨0x150008, 0, 8⟩
def F.SVC_SUBMIT_RESULT_TICKET : Fld := ⟨0x150008, 16, 16⟩
def F.SVC_RESULT_NEXT_NEXT : Fld := ⟨0x15000C, 0, 1⟩
def F.SVC_RESULT_TICKET : Fld := ⟨0x150010, 0, 16⟩
def F.SVC_RESULT_CODE : Fld := ⟨0x150010, 16, 8⟩
def F.SVC_RESULT_RESULT : Fld := ⟨0x150010, 24, 8⟩
def F.SVC_RESULT_INFO_WORDS : Fld := ⟨0x150014, 0, 11⟩
def F.SVC_RESULT_INFO_DONE : Fld := ⟨0x150014, 16, 5⟩
def F.SVC_CANCEL_TICKET : Fld := ⟨0x150018, 0, 16⟩
def F.SVC_CANCEL_CANCEL : Fld := ⟨0x150018, 31, 1⟩
def F.SVC_LOG_STATE_LOG_SEQ : Fld := ⟨0x150028, 0, 24⟩
def F.SVC_SUBMIT_COUNT : Fld := ⟨0x150080, 0, 32⟩
def F.SVC_REFUSE_COUNT : Fld := ⟨0x150084, 0, 32⟩
def F.SVC_FAIL_COUNT : Fld := ⟨0x150088, 0, 32⟩
def F.SVC_LOG_ERASED_COUNT : Fld := ⟨0x15008C, 0, 32⟩
def F.SVC_LOG_MISSED_COUNT : Fld := ⟨0x150090, 0, 32⟩
def F.MON_CMD_COUNT : Fld := ⟨0x150094, 0, 32⟩
def F.MON_REFUSE_COUNT : Fld := ⟨0x150098, 0, 32⟩

/-! ### Arm view -/
def F.AV_CMT_COMMIT_COMMIT (i : Nat) : Fld := ⟨0x160000 + 0x20 * i, 0, 1⟩
def F.AV_CMT_STATUS_PENDING (i : Nat) : Fld := ⟨0x160004 + 0x20 * i, 0, 1⟩
def F.AV_CMT_STATUS_LAST_RESULT (i : Nat) : Fld := ⟨0x160004 + 0x20 * i, 1, 2⟩
def F.AV_CMT_STATUS_REASON (i : Nat) : Fld := ⟨0x160004 + 0x20 * i, 8, 8⟩
def F.AV_CMT_STATUS_HEADS (i : Nat) : Fld := ⟨0x160004 + 0x20 * i, 16, 8⟩
def F.AV_CMT_STATUS_HEAD_REASON (i : Nat) : Fld := ⟨0x160004 + 0x20 * i, 24, 8⟩
def F.AV_CMT_RESULT_FRAME_FRAME (i : Nat) : Fld := ⟨0x160008 + 0x20 * i, 0, 32⟩
def F.AV_CMT_APPLY_COUNT (i : Nat) : Fld := ⟨0x16000C + 0x20 * i, 0, 32⟩
def F.AV_CMT_REJECT_COUNT (i : Nat) : Fld := ⟨0x160010 + 0x20 * i, 0, 32⟩
def F.AV_CMT_ORPHAN_COUNT : Fld := ⟨0x1600A0, 0, 32⟩
def F.AV_MBX_REQ_ITEM : Fld := ⟨0x160100, 0, 8⟩
def F.AV_MBX_REQ_AT : Fld := ⟨0x160100, 8, 1⟩
def F.AV_MBX_ARG_ARG : Fld := ⟨0x160104, 0, 32⟩
def F.AV_MBX_AT_FRAME_FRAME : Fld := ⟨0x160108, 0, 32⟩
def F.AV_MBX_STATUS_VALID : Fld := ⟨0x16010C, 0, 1⟩
def F.AV_MBX_STATUS_BUSY : Fld := ⟨0x16010C, 1, 1⟩
def F.AV_MBX_STATUS_RESULT : Fld := ⟨0x16010C, 2, 2⟩
def F.AV_MBX_DATA_DATA : Fld := ⟨0x160110, 0, 32⟩
def F.AV_MBX_REPLACE_COUNT : Fld := ⟨0x160114, 0, 32⟩
def F.AV_MBX_LATE_COUNT : Fld := ⟨0x160118, 0, 32⟩
def F.AV_FRAME_PERIOD_PERIOD : Fld := ⟨0x160200, 0, 13⟩
def F.AV_REF_VALUE (i : Nat) : Fld := ⟨0x160300 + 0x4 * i, 0, 32⟩
def F.AV_CE_SEL_SET : Fld := ⟨0x160400, 0, 6⟩
def F.AV_CE_PARAM_P (i : Nat) : Fld := ⟨0x160440 + 0x4 * i, 0, 32⟩
def F.AV_BAL_SPARES_SPARES0 : Fld := ⟨0x160500, 0, 9⟩
def F.AV_BAL_SPARES_SPARES1 : Fld := ⟨0x160500, 16, 9⟩
def F.AV_BAL_IDIR_BAND_AMPS : Fld := ⟨0x160504, 0, 32⟩
def F.AV_BAL_TRIM_ROTATE_FRAMES : Fld := ⟨0x160508, 0, 16⟩
def F.AV_DCF_MODE_MODE : Fld := ⟨0x160510, 0, 1⟩
def F.AV_DCF_STAGGER_STEP : Fld := ⟨0x160514, 0, 7⟩
def F.AV_DCF_RSUP_OHMS : Fld := ⟨0x160518, 0, 32⟩
def F.AV_DCF_VMAX_VOLTS : Fld := ⟨0x16051C, 0, 32⟩
def F.AV_DCF_IZERO_AMPS : Fld := ⟨0x160520, 0, 32⟩
def F.AV_DCF_HOLD_FRAMES : Fld := ⟨0x160524, 0, 16⟩
def F.AV_DCF_TMAX_MS : Fld := ⟨0x160528, 0, 16⟩
def F.AV_BAL_ARM_STATUS_N (i : Nat) : Fld := ⟨0x160540 + 0x4 * i, 0, 10⟩
def F.AV_BAL_ARM_STATUS_NEG (i : Nat) : Fld := ⟨0x160540 + 0x4 * i, 10, 1⟩
def F.AV_BAL_ARM_STATUS_DIR (i : Nat) : Fld := ⟨0x160540 + 0x4 * i, 11, 1⟩
def F.AV_BAL_ARM_STATUS_LIMITED (i : Nat) : Fld := ⟨0x160540 + 0x4 * i, 12, 1⟩
def F.AV_BAL_ARM_STATUS_SPARE_SHORT (i : Nat) : Fld := ⟨0x160540 + 0x4 * i, 13, 1⟩
def F.AV_BAL_ARM_STATUS_SUPPRESS (i : Nat) : Fld := ⟨0x160540 + 0x4 * i, 14, 1⟩
def F.AV_BAL_ARM_STATUS_STAGGER_CLAMPED (i : Nat) : Fld := ⟨0x160540 + 0x4 * i, 15, 1⟩
def F.AV_BAL_ARM_STATUS_SELECTABLE (i : Nat) : Fld := ⟨0x160540 + 0x4 * i, 16, 10⟩
def F.AV_BAL_LIMIT_COUNT (i : Nat) : Fld := ⟨0x160580 + 0x4 * i, 0, 32⟩
def F.AV_BAL_SPARE_SHORT_COUNT : Fld := ⟨0x160588, 0, 32⟩
def F.AV_DCF_SUPPRESS_COUNT : Fld := ⟨0x16058C, 0, 32⟩
def F.AV_PROT_RESTART_DELAY : Fld := ⟨0x160600, 0, 16⟩
def F.AV_PROT_RESTART_LIMIT : Fld := ⟨0x160600, 16, 4⟩
def F.AV_PROT_RESTART_INIT : Fld := ⟨0x160600, 20, 1⟩
def F.AV_PROT_WINDOW_SECONDS : Fld := ⟨0x160604, 0, 12⟩
def F.AV_PROT_CMD_RELEASE : Fld := ⟨0x160608, 0, 1⟩
def F.AV_PROT_CMD_SHUTTER : Fld := ⟨0x160608, 1, 1⟩
def F.AV_PROT_STATUS_HOLD : Fld := ⟨0x16060C, 0, 8⟩
def F.AV_PROT_STATUS_LATCHED : Fld := ⟨0x16060C, 8, 8⟩
def F.AV_PROT_STATUS_RELEASE_NAMED : Fld := ⟨0x16060C, 16, 1⟩
def F.AV_PROT_STATUS_RESTARTS : Fld := ⟨0x16060C, 17, 4⟩
def F.AV_PROT_STATUS_HOST_HELD : Fld := ⟨0x16060C, 21, 8⟩
def F.AV_PROT_RELEASE_COUNT : Fld := ⟨0x160610, 0, 32⟩
def F.AV_PROT_RESTART_COUNT : Fld := ⟨0x160614, 0, 32⟩
def F.AV_ENG_CMD_START : Fld := ⟨0x160700, 0, 1⟩
def F.AV_ENG_CMD_CONFIRM : Fld := ⟨0x160700, 1, 1⟩
def F.AV_ENG_CMD_ABORT : Fld := ⟨0x160700, 2, 1⟩
def F.AV_ENG_CMD_DISCHARGED : Fld := ⟨0x160700, 3, 1⟩
def F.AV_ENG_STATUS_STATE : Fld := ⟨0x160704, 0, 2⟩
def F.AV_ENG_STATUS_STEP : Fld := ⟨0x160704, 4, 3⟩
def F.AV_ENG_STATUS_WAIT_HOST : Fld := ⟨0x160704, 7, 1⟩
def F.AV_ENG_STATUS_RESULT : Fld := ⟨0x160704, 8, 8⟩
def F.AV_ENG_STATUS_DETAIL : Fld := ⟨0x160704, 16, 8⟩
def F.AV_ENG_CTRL_NEED_LOCK : Fld := ⟨0x160708, 0, 1⟩
def F.AV_ENG_TIMEOUT_A_CLOSE : Fld := ⟨0x16070C, 0, 16⟩
def F.AV_ENG_TIMEOUT_A_CELLS : Fld := ⟨0x16070C, 16, 16⟩
def F.AV_ENG_TIMEOUT_B_PASSIVE : Fld := ⟨0x160710, 0, 16⟩
def F.AV_ENG_TIMEOUT_B_CHARGE : Fld := ⟨0x160710, 16, 16⟩
def F.AV_ENG_TIMEOUT_C_RESISTOR : Fld := ⟨0x160714, 0, 16⟩
def F.AV_ENG_V_PASSIVE_VOLTS : Fld := ⟨0x160718, 0, 32⟩
def F.AV_ENG_V_CHARGED_VOLTS : Fld := ⟨0x16071C, 0, 32⟩
def F.AV_ENG_STEP_TIME_SECONDS : Fld := ⟨0x160720, 0, 16⟩
def F.AV_ENG_READY_CELLS (i : Nat) : Fld := ⟨0x160724 + 0x4 * i, 0, 10⟩
def F.AV_ENG_START_COUNT : Fld := ⟨0x160780, 0, 32⟩
def F.AV_ENG_ABORT_COUNT : Fld := ⟨0x160784, 0, 32⟩
def F.AV_ENG_REFUSE_COUNT : Fld := ⟨0x160788, 0, 32⟩

/-- BAL_ARM_MAP: the arm of lane `l` (R251). -/
def F.armOfLane (l : Nat) : Fld := ⟨0x0E0000 + 4 * (l / 16), 2 * (l % 16), 2⟩
/-- EDGE_FORCE: the force code of switch `s` of lane `l` (R281). -/
def F.force (l s : Nat) : Fld := ⟨0x0E1100 + 4 * (l / 2), 16 * (l % 2) + 2 * s, 2⟩
/-- EDGE_SWAP: the swap bits of lane `l` (R281). -/
def F.swap (l : Nat) : Fld := ⟨0x0E1200 + 4 * (l / 4), 8 * (l % 4), 4⟩
/-- EDGE_SWAP: the invert bits of lane `l` (R281). -/
def F.invert (l : Nat) : Fld := ⟨0x0E1200 + 4 * (l / 4), 8 * (l % 4) + 4, 2⟩
/-- EDGE_LANE_STATE: the command of leg `i` of lane `l` (R281). -/
def F.legState (l i : Nat) : Fld := ⟨0x0E1300 + 4 * l, 2 * i, 2⟩
/-- EDGE_LANE_STATE: TRIM, CARRY_HELD, DEAD_RAISED, FORCED and EDGES of lane `l` (R281). -/
def F.laneTrim (l : Nat) : Fld := ⟨0x0E1300 + 4 * l, 8, 1⟩
def F.laneCarry (l : Nat) : Fld := ⟨0x0E1300 + 4 * l, 9, 1⟩
def F.laneDead (l : Nat) : Fld := ⟨0x0E1300 + 4 * l, 10, 1⟩
def F.laneForced (l : Nat) : Fld := ⟨0x0E1300 + 4 * l, 11, 1⟩
def F.laneEdges (l : Nat) : Fld := ⟨0x0E1300 + 4 * l, 16, 4⟩
/-- SVC_QUEUE_DEPTH: the requests held by queue `q` (R537). -/
def F.svcDepth (q : Nat) : Fld := ⟨0x150020 + 4 * (q / 8), 4 * (q % 8), 3⟩

/-! ## The registers of each block -/

def rowsGlobal0 : List RegRow := [
  ⟨0x000000, 0, 1, 18, [⟨0, 32, .live⟩]⟩, -- GLB_ID
  ⟨0x000004, 0, 1, 18, [⟨0, 4, .live⟩, ⟨4, 4, .live⟩]⟩, -- GLB_REVISION
  ⟨0x000008, 0, 1, 18, [⟨0, 16, .live⟩]⟩, -- GLB_MAP_VERSION
  ⟨0x000040, 0, 1, 18, [⟨0, 8, .live⟩]⟩, -- HRP_LAST_STATUS
  ⟨0x000044, 0, 1, 18, [⟨0, 32, .cnt⟩]⟩, -- HRP_CRC_ERR_COUNT
  ⟨0x000048, 0, 1, 18, [⟨0, 32, .cnt⟩]⟩, -- HRP_REJECT_COUNT
  ⟨0x00004C, 0, 1, 18, [⟨0, 32, .cnt⟩]⟩, -- HRP_ABORT_COUNT
  ⟨0x000050, 0, 1, 18, [⟨0, 32, .cnt⟩]⟩, -- HRP_LOST_RSP_COUNT
  ⟨0x000054, 0, 1, 18, [⟨0, 1, .cfg⟩]⟩, -- GLB_SHD_VIEW
  ⟨0x000060, 0, 1, 18, [⟨0, 4, .live⟩, ⟨8, 4, .live⟩, ⟨16, 3, .live⟩, ⟨19, 1, .live⟩]⟩, -- GLB_BOOT_STATUS
  ⟨0x000064, 0, 1, 18, [⟨0, 7, .live⟩]⟩, -- GLB_RESET_CAUSE
  ⟨0x000068, 0, 1, 18, [⟨0, 32, .cfg⟩]⟩, -- GLB_RESET_KEY
  ⟨0x00006C, 0, 1, 18, [⟨0, 1, .cmd⟩]⟩, -- GLB_CTRL
  ⟨0x000070, 0, 1, 18, [⟨0, 16, .live⟩]⟩, -- GLB_BOOT_TIME
  ⟨0x000080, 0, 1, 18, [⟨0, 32, .cnt⟩]⟩, -- GLB_RESET_COUNT
  ⟨0x000084, 0, 1, 18, [⟨0, 32, .cnt⟩]⟩, -- GLB_BOOT_FAIL_COUNT
  ⟨0x000088, 0, 1, 18, [⟨0, 32, .cnt⟩]⟩ -- GLB_RESET_REFUSE_COUNT
  ]
/-- The registers of the block Identity and global. -/
def rowsGlobal : List RegRow := rowsGlobal0

def rowsCommit0 : List RegRow := [
  ⟨0x010000, 0x20, 13, 18, [⟨0, 1, .cmd⟩]⟩, -- CMT_COMMIT
  ⟨0x010004, 0x20, 13, 18, [⟨0, 1, .live⟩, ⟨1, 2, .live⟩, ⟨8, 8, .live⟩, ⟨16, 8, .live⟩, ⟨24, 8, .live⟩]⟩, -- CMT_STATUS
  ⟨0x010008, 0x20, 13, 18, [⟨0, 32, .live⟩]⟩, -- CMT_RESULT_FRAME
  ⟨0x01000C, 0x20, 13, 18, [⟨0, 32, .cnt⟩]⟩, -- CMT_APPLY_COUNT
  ⟨0x010010, 0x20, 13, 18, [⟨0, 32, .cnt⟩]⟩, -- CMT_REJECT_COUNT
  ⟨0x0101A0, 0, 1, 18, [⟨0, 32, .cnt⟩]⟩, -- CMT_ORPHAN_COUNT
  ⟨0x010400, 0x20, 4, 18, [⟨0, 8, .mbx⟩, ⟨8, 1, .mbx⟩]⟩, -- MBX_REQ
  ⟨0x010404, 0x20, 4, 18, [⟨0, 32, .cfg⟩]⟩, -- MBX_ARG
  ⟨0x010408, 0x20, 4, 18, [⟨0, 32, .cfg⟩]⟩, -- MBX_AT_FRAME
  ⟨0x01040C, 0x20, 4, 18, [⟨0, 1, .live⟩, ⟨1, 1, .live⟩, ⟨2, 2, .live⟩]⟩, -- MBX_STATUS
  ⟨0x010410, 0x20, 4, 18, [⟨0, 32, .mbx⟩]⟩, -- MBX_DATA
  ⟨0x010414, 0x20, 4, 18, [⟨0, 32, .cnt⟩]⟩, -- MBX_REPLACE_COUNT
  ⟨0x010418, 0x20, 4, 18, [⟨0, 32, .cnt⟩]⟩, -- MBX_LATE_COUNT
  ⟨0x010600, 0x10, 3, 18, [⟨0, 32, .cfg⟩]⟩, -- DW_PTR
  ⟨0x010604, 0x10, 4, 18, [⟨0, 32, .mbx⟩]⟩, -- DW_DATA
  ⟨0x010608, 0x10, 4, 18, [⟨0, 32, .cnt⟩]⟩, -- DW_OVERFLOW_COUNT
  ⟨0x010630, 0, 1, 18, [⟨0, 32, .live⟩]⟩ -- DW_PTR3
  ]
/-- The registers of the block Commit groups, mailboxes, data windows. -/
def rowsCommit : List RegRow := rowsCommit0

def rowsCadence0 : List RegRow := [
  ⟨0x020000, 0, 1, 18, [⟨0, 1, .cfg⟩, ⟨1, 1, .cfg⟩, ⟨2, 1, .cfg⟩]⟩, -- CAD_CONFIG
  ⟨0x020004, 0, 1, 18, [⟨0, 13, .live⟩]⟩, -- CAD_FRAME_PERIOD
  ⟨0x020008, 0, 1, 18, [⟨0, 20, .cfg⟩]⟩, -- CAD_PPS_WINDOW
  ⟨0x02000C, 0, 1, 18, [⟨0, 12, .cfg⟩]⟩, -- CAD_HOLDOVER_LIMIT
  ⟨0x020010, 0, 1, 18, [⟨0, 32, .cfg⟩]⟩, -- CAD_TOD_LOAD_LO
  ⟨0x020014, 0, 1, 18, [⟨0, 32, .cfg⟩]⟩, -- CAD_TOD_LOAD_HI
  ⟨0x020018, 0, 1, 18, [⟨0, 1, .cmd⟩]⟩, -- CAD_TOD_ARM
  ⟨0x02001C, 0, 1, 18, [⟨0, 3, .live⟩, ⟨3, 1, .live⟩, ⟨4, 1, .live⟩]⟩, -- CAD_SYNC_STATE
  ⟨0x020020, 0, 1, 18, [⟨0, 32, .live⟩]⟩, -- CAD_PPS_ERROR
  ⟨0x020024, 0, 1, 18, [⟨0, 32, .live⟩]⟩, -- CAD_RATE_ADJ
  ⟨0x020028, 0, 1, 18, [⟨0, 16, .live⟩]⟩, -- CAD_SPAN_OFFSET
  ⟨0x02002C, 0, 1, 18, [⟨0, 4, .cfg⟩]⟩, -- CAD_MISS_LIMIT
  ⟨0x020030, 0, 1, 18, [⟨0, 8, .cfg⟩]⟩, -- CAD_ALIGN_LIMIT
  ⟨0x020034, 0, 1, 18, [⟨0, 10, .cfg⟩]⟩, -- CAD_PROBE_INTERVAL
  ⟨0x020038, 0, 1, 0, [⟨0, 10, .shd⟩]⟩, -- CAD_GATHER_MARGIN
  ⟨0x020040, 0, 1, 18, [⟨0, 16, .live⟩]⟩, -- CAD_GATHER_DEADLINE
  ⟨0x020044, 0, 1, 18, [⟨0, 16, .live⟩]⟩, -- CAD_QUOTA_DEADLINE
  ⟨0x020048, 0, 1, 18, [⟨0, 16, .live⟩]⟩, -- CAD_LAUNCH_TIME
  ⟨0x02004C, 0, 1, 18, [⟨0, 16, .live⟩]⟩, -- CAD_LAUNCH_DEADLINE
  ⟨0x020050, 0, 1, 18, [⟨0, 16, .live⟩]⟩, -- CAD_BUDGET_MARGIN
  ⟨0x020054, 0, 1, 18, [⟨0, 32, .live⟩]⟩, -- CAD_TICK_PHASE
  ⟨0x020080, 0, 1, 18, [⟨0, 32, .cnt⟩]⟩, -- CAD_PPS_COUNT
  ⟨0x020084, 0, 1, 18, [⟨0, 32, .cnt⟩]⟩, -- CAD_PPS_REJECT_COUNT
  ⟨0x020088, 0, 1, 18, [⟨0, 32, .cnt⟩]⟩, -- CAD_TOD_REJECT_COUNT
  ⟨0x02008C, 0, 1, 18, [⟨0, 32, .cnt⟩]⟩, -- CAD_STEP_COUNT
  ⟨0x020090, 0, 1, 18, [⟨0, 32, .cnt⟩]⟩, -- CAD_SUMMARY_LATE_COUNT
  ⟨0x020094, 0, 1, 18, [⟨0, 32, .cnt⟩]⟩, -- CAD_QUOTA_LATE_COUNT
  ⟨0x020098, 0, 1, 18, [⟨0, 32, .cnt⟩]⟩, -- CAD_CE_OVERRUN_COUNT
  ⟨0x02009C, 0, 1, 18, [⟨0, 32, .cnt⟩]⟩, -- CAD_LAUNCH_LATE_COUNT
  ⟨0x0200A0, 0, 1, 18, [⟨0, 32, .cnt⟩]⟩, -- CAD_ALIGN_FAULT_COUNT
  ⟨0x0200A4, 0, 1, 18, [⟨0, 32, .cnt⟩]⟩, -- CAD_PROBE_REJECT_COUNT
  ⟨0x020200, 0x4, 64, 0, [⟨0, 16, .shd⟩]⟩, -- CAD_LANE_ASYM
  ⟨0x020300, 0x4, 6, 0, [⟨0, 16, .shd⟩]⟩, -- CAD_SPAN_ASYM
  ⟨0x020400, 0x4, 64, 18, [⟨0, 16, .live⟩, ⟨16, 16, .live⟩]⟩, -- CAD_LANE_DELAY
  ⟨0x020500, 0x4, 64, 18, [⟨0, 16, .live⟩, ⟨16, 1, .live⟩, ⟨17, 1, .live⟩]⟩ -- CAD_LANE_RESIDUAL
  ]
/-- The registers of the block Cadence. -/
def rowsCadence : List RegRow := rowsCadence0

def rowsLanes0 : List RegRow := [
  ⟨0x040000, 0x100, 72, 18, [⟨0, 2, .cfg⟩]⟩, -- LANE_CTRL
  ⟨0x040004, 0x100, 72, 18, [⟨0, 2, .live⟩, ⟨2, 1, .live⟩]⟩, -- LANE_CFG
  ⟨0x040008, 0x100, 72, 18, [⟨0, 4, .cfg⟩, ⟨8, 4, .cfg⟩, ⟨16, 5, .cfg⟩, ⟨24, 5, .cfg⟩]⟩, -- LANE_EQ
  ⟨0x04000C, 0x100, 72, 18, [⟨0, 3, .live⟩, ⟨3, 1, .live⟩, ⟨4, 1, .live⟩, ⟨5, 1, .live⟩, ⟨6, 1, .live⟩, ⟨7, 1, .live⟩, ⟨8, 2, .live⟩, ⟨16, 8, .live⟩, ⟨24, 4, .live⟩, ⟨28, 3, .live⟩]⟩, -- LANE_STATE
  ⟨0x040010, 0x100, 72, 18, [⟨0, 3, .cfg⟩, ⟨3, 2, .cfg⟩, ⟨5, 1, .live⟩, ⟨6, 1, .live⟩, ⟨8, 6, .cfg⟩, ⟨16, 1, .cmd⟩, ⟨17, 1, .cmd⟩]⟩, -- LANE_TEST
  ⟨0x040014, 0x100, 72, 18, [⟨0, 32, .cfg⟩]⟩, -- LANE_USER_PATTERN0
  ⟨0x040018, 0x100, 72, 18, [⟨0, 32, .cfg⟩]⟩, -- LANE_USER_PATTERN1
  ⟨0x04001C, 0x100, 72, 18, [⟨0, 16, .cfg⟩]⟩, -- LANE_USER_PATTERN2
  ⟨0x040040, 0x100, 72, 18, [⟨0, 32, .cnt⟩]⟩, -- LANE_DOWN_COUNT
  ⟨0x040044, 0x100, 72, 18, [⟨0, 32, .cnt⟩]⟩, -- LANE_TRAIN_FAIL_COUNT
  ⟨0x040048, 0x100, 72, 18, [⟨0, 32, .cnt⟩]⟩, -- LANE_CODE_ERR_COUNT
  ⟨0x04004C, 0x100, 72, 18, [⟨0, 32, .cnt⟩]⟩, -- LANE_POLARITY_COUNT
  ⟨0x040050, 0x100, 72, 18, [⟨0, 32, .cnt⟩]⟩, -- LANE_PRBS_ERR_COUNT
  ⟨0x040054, 0x100, 72, 18, [⟨0, 32, .cnt⟩]⟩, -- LANE_PRBS_KBIT_COUNT
  ⟨0x040058, 0x100, 72, 18, [⟨0, 32, .cnt⟩]⟩, -- LANE_CHK_LOSS_COUNT
  ⟨0x04005C, 0x100, 72, 18, [⟨0, 32, .cnt⟩]⟩, -- LANE_INJECT_COUNT
  ⟨0x040060, 0x100, 72, 18, [⟨0, 32, .cnt⟩]⟩, -- LANE_TEST_REFUSE_COUNT
  ⟨0x040064, 0x100, 72, 18, [⟨0, 32, .cnt⟩]⟩, -- LANE_POWER_REFUSE_COUNT
  ⟨0x048000, 0, 1, 18, [⟨0, 3, .live⟩, ⟨3, 1, .live⟩, ⟨4, 3, .live⟩, ⟨7, 1, .live⟩, ⟨8, 2, .live⟩]⟩, -- LANE_SPAN_STATE
  ⟨0x048004, 0, 1, 18, [⟨0, 8, .live⟩, ⟨8, 4, .live⟩, ⟨12, 1, .live⟩, ⟨13, 1, .live⟩]⟩, -- LANE_ENUM
  ⟨0x048008, 0, 1, 18, [⟨0, 10, .cfg⟩, ⟨10, 1, .cfg⟩, ⟨11, 1, .cfg⟩]⟩, -- UL_CTRL
  ⟨0x048080, 0, 1, 18, [⟨0, 32, .cnt⟩]⟩, -- LANE_SPECTATOR_COUNT
  ⟨0x048084, 0, 1, 18, [⟨0, 32, .cnt⟩]⟩, -- SPAN_MSG_ERR_COUNT
  ⟨0x048088, 0, 1, 18, [⟨0, 32, .cnt⟩]⟩, -- SPAN_QUEUE_DROP_COUNT
  ⟨0x04808C, 0, 1, 18, [⟨0, 32, .cnt⟩]⟩, -- UL_DROP_COUNT
  ⟨0x048090, 0, 1, 18, [⟨0, 32, .cnt⟩]⟩ -- UL_SHUTTER_COUNT
  ]
/-- The registers of the block Lanes. -/
def rowsLanes : List RegRow := rowsLanes0

def rowsPorts0 : List RegRow := [
  ⟨0x080000, 0x100, 64, 12, [⟨0, 1, .shd⟩, ⟨1, 1, .shd⟩, ⟨4, 2, .live⟩]⟩, -- HCL_PORT_CTRL
  ⟨0x080004, 0x100, 64, 18, [⟨0, 3, .live⟩, ⟨3, 1, .live⟩, ⟨4, 1, .live⟩, ⟨5, 1, .live⟩, ⟨8, 4, .live⟩, ⟨16, 16, .live⟩]⟩, -- HCL_PORT_STATE
  ⟨0x080008, 0x100, 64, 18, [⟨0, 16, .live⟩, ⟨16, 16, .live⟩]⟩, -- HCL_PORT_CELL
  ⟨0x08000C, 0x100, 64, 18, [⟨0, 32, .live⟩]⟩, -- HCL_PORT_VCAP
  ⟨0x080010, 0x100, 64, 18, [⟨0, 32, .live⟩]⟩, -- HCL_PORT_LAST_FRAME
  ⟨0x080040, 0x100, 64, 18, [⟨0, 32, .cnt⟩]⟩, -- HCL_LATE_COUNT
  ⟨0x080044, 0x100, 64, 18, [⟨0, 32, .cnt⟩]⟩, -- HCL_CRC_ERR_COUNT
  ⟨0x080048, 0x100, 64, 18, [⟨0, 32, .cnt⟩]⟩, -- HCL_STALE_COUNT
  ⟨0x08004C, 0x100, 64, 18, [⟨0, 32, .cnt⟩]⟩, -- HCL_BAD_FRAME_COUNT
  ⟨0x080050, 0x100, 64, 18, [⟨0, 32, .cnt⟩]⟩, -- HCL_DUP_COUNT
  ⟨0x080054, 0x100, 64, 18, [⟨0, 32, .cnt⟩]⟩, -- HCL_REBOOT_COUNT
  ⟨0x080058, 0x100, 64, 18, [⟨0, 32, .cnt⟩]⟩, -- HCL_TYPE_ERR_COUNT
  ⟨0x08005C, 0x100, 64, 18, [⟨0, 32, .cnt⟩]⟩, -- HCL_CLAIM_HIGH_COUNT
  ⟨0x080060, 0x100, 64, 18, [⟨0, 32, .cnt⟩]⟩, -- HCL_CLAIM_LAG_COUNT
  ⟨0x080064, 0x100, 64, 18, [⟨0, 32, .cnt⟩]⟩, -- HCL_DSF_LOST_COUNT
  ⟨0x080068, 0x100, 64, 18, [⟨0, 32, .cnt⟩]⟩, -- HCL_IMPLAUSIBLE_COUNT
  ⟨0x08006C, 0x100, 64, 18, [⟨0, 32, .cnt⟩]⟩, -- HCL_CELL_DS_ERR_COUNT
  ⟨0x080070, 0x100, 64, 18, [⟨0, 32, .cnt⟩]⟩, -- HCL_INTERLOCK_COUNT
  ⟨0x080074, 0x100, 64, 18, [⟨0, 32, .cnt⟩]⟩, -- HCL_ECHO_LOST_COUNT
  ⟨0x080078, 0x100, 64, 18, [⟨0, 32, .cnt⟩]⟩, -- HCL_LINE_ERR_COUNT
  ⟨0x08007C, 0x100, 64, 18, [⟨0, 32, .cnt⟩]⟩, -- HCL_EDGE_OVERFLOW_COUNT
  ⟨0x080080, 0x100, 64, 18, [⟨0, 5, .live⟩, ⟨8, 7, .live⟩, ⟨15, 1, .live⟩, ⟨16, 8, .live⟩, ⟨24, 3, .live⟩]⟩, -- HCL_CONV_LANE
  ⟨0x080084, 0x100, 64, 18, [⟨0, 1, .cmd⟩]⟩, -- HCL_DISC_CTRL
  ⟨0x080088, 0x100, 64, 18, [⟨0, 32, .cnt⟩]⟩, -- HCL_SEG_RETX_COUNT
  ⟨0x08008C, 0x100, 64, 18, [⟨0, 32, .cnt⟩]⟩, -- HCL_SEG_DUP_COUNT
  ⟨0x080090, 0x100, 64, 18, [⟨0, 32, .cnt⟩]⟩, -- HCL_SEG_HOLE_COUNT
  ⟨0x080094, 0x100, 64, 18, [⟨0, 32, .cnt⟩]⟩, -- HCL_SEG_ERR_COUNT
  ⟨0x080098, 0x100, 64, 18, [⟨0, 32, .cnt⟩]⟩, -- HCL_CONV_TIMEOUT_COUNT
  ⟨0x08009C, 0x100, 64, 18, [⟨0, 32, .cnt⟩]⟩, -- HCL_CELL_ABORT_COUNT
  ⟨0x0800A0, 0x100, 64, 18, [⟨0, 32, .cnt⟩]⟩, -- HCL_DISC_FAIL_COUNT
  ⟨0x084000, 0, 1, 18, [⟨0, 4, .cfg⟩]⟩, -- HCL_SUSPECT_LIMIT
  ⟨0x084004, 0, 1, 18, [⟨0, 10, .cfg⟩]⟩, -- HCL_LOST_LIMIT
  ⟨0x084008, 0, 1, 18, [⟨0, 32, .cfg⟩]⟩, -- HCL_VCAP_MIN
  ⟨0x08400C, 0, 1, 18, [⟨0, 32, .cfg⟩]⟩, -- HCL_VCAP_MAX
  ⟨0x084010, 0, 1, 18, [⟨0, 32, .cfg⟩]⟩, -- HCL_VCAP_STEP
  ⟨0x084014, 0, 1, 18, [⟨0, 4, .cfg⟩]⟩, -- HCL_BULK_MAX
  ⟨0x084080, 0, 1, 18, [⟨0, 32, .cnt⟩]⟩, -- HCL_SHUTTER_COUNT
  ⟨0x084100, 0, 1, 18, [⟨0, 6, .cfg⟩, ⟨8, 4, .cfg⟩]⟩, -- HCL_CONV_REQ
  ⟨0x084104, 0, 1, 18, [⟨0, 32, .cfg⟩]⟩, -- HCL_CONV_ARG0
  ⟨0x084108, 0, 1, 18, [⟨0, 32, .cfg⟩]⟩ -- HCL_CONV_ARG1
  ]
def rowsPorts1 : List RegRow := [
  ⟨0x08410C, 0, 1, 18, [⟨0, 24, .cfg⟩]⟩, -- HCL_CONV_TIMEOUT
  ⟨0x084110, 0, 1, 18, [⟨0, 1, .cmd⟩]⟩, -- HCL_CONV_GO
  ⟨0x084114, 0, 1, 18, [⟨0, 7, .live⟩, ⟨8, 8, .live⟩]⟩, -- HCL_CONV_OPEN_RESULT
  ⟨0x084118, 0, 1, 18, [⟨0, 4, .cfg⟩]⟩, -- HCL_SEG_TIMEOUT
  ⟨0x08411C, 0, 1, 18, [⟨0, 4, .cfg⟩]⟩, -- HCL_RETX_LIMIT
  ⟨0x084120, 0, 1, 18, [⟨0, 16, .cfg⟩]⟩, -- HCL_DISC_RETRY
  ⟨0x084124, 0, 1, 18, [⟨0, 8, .live⟩, ⟨8, 8, .live⟩, ⟨16, 16, .live⟩]⟩, -- HCL_CONV_SLOTS
  ⟨0x084140, 0, 1, 18, [⟨0, 32, .cnt⟩]⟩, -- HCL_CONV_OPEN_COUNT
  ⟨0x084144, 0, 1, 18, [⟨0, 32, .cnt⟩]⟩, -- HCL_CONV_NOSLOT_COUNT
  ⟨0x084148, 0, 1, 18, [⟨0, 32, .cnt⟩]⟩, -- HCL_CONV_QFULL_COUNT
  ⟨0x08414C, 0, 1, 18, [⟨0, 32, .cnt⟩]⟩, -- HCL_CONV_REFUSE_COUNT
  ⟨0x084150, 0, 1, 18, [⟨0, 32, .cnt⟩]⟩, -- HCL_CONV_FAIL_COUNT
  ⟨0x084154, 0, 1, 18, [⟨0, 32, .cnt⟩]⟩, -- HCL_DISC_DEFER_COUNT
  ⟨0x084180, 0x4, 64, 18, [⟨0, 32, .cfg⟩]⟩, -- HCL_CONV_WDATA
  ⟨0x085000, 0x4, 128, 18, [⟨0, 3, .live⟩, ⟨4, 6, .live⟩, ⟨10, 4, .live⟩, ⟨16, 8, .live⟩, ⟨30, 1, .cmd⟩, ⟨31, 1, .cmd⟩]⟩, -- HCL_CONV_STATUS
  ⟨0x085200, 0x4, 128, 18, [⟨0, 32, .live⟩]⟩, -- HCL_CONV_PROGRESS
  ⟨0x085400, 0x4, 128, 18, [⟨0, 32, .live⟩]⟩ -- HCL_CONV_AGE
  ]
/-- The registers of the block Cell ports. -/
def rowsPorts : List RegRow := rowsPorts0 ++ rowsPorts1

def rowsEngine0 : List RegRow := [
  ⟨0x0C0000, 0, 1, 18, [⟨0, 9, .live⟩, ⟨16, 7, .live⟩]⟩, -- CE_GRAPH
  ⟨0x0C0004, 0, 1, 18, [⟨0, 16, .live⟩, ⟨16, 12, .live⟩]⟩, -- CE_COST
  ⟨0x0C0008, 0, 1, 18, [⟨0, 1, .live⟩, ⟨1, 1, .live⟩, ⟨2, 1, .live⟩, ⟨3, 1, .live⟩]⟩, -- CE_STATUS
  ⟨0x0C000C, 0, 1, 18, [⟨0, 1, .cmd⟩]⟩, -- CE_CTRL
  ⟨0x0C0010, 0, 1, 18, [⟨0, 8, .cfg⟩]⟩, -- CE_NONFINITE_LIMIT
  ⟨0x0C0020, 0, 1, 18, [⟨0, 8, .cfg⟩]⟩, -- CE_SEL
  ⟨0x0C0024, 0, 1, 18, [⟨0, 5, .live⟩, ⟨8, 6, .live⟩, ⟨14, 1, .live⟩, ⟨16, 8, .live⟩]⟩, -- CE_SEL_INFO
  ⟨0x0C0028, 0, 1, 18, [⟨0, 1, .live⟩, ⟨1, 1, .live⟩, ⟨2, 1, .live⟩, ⟨3, 1, .live⟩, ⟨4, 1, .live⟩, ⟨5, 1, .live⟩, ⟨6, 1, .live⟩, ⟨7, 1, .live⟩]⟩, -- CE_SEL_STATE
  ⟨0x0C002C, 0, 1, 18, [⟨0, 32, .cnt⟩]⟩, -- CE_SEL_EVENT_COUNT
  ⟨0x0C0030, 0, 1, 18, [⟨0, 32, .live⟩]⟩, -- CE_SEL_OUT
  ⟨0x0C0040, 0x4, 8, 1, [⟨0, 32, .shd⟩]⟩, -- CE_BLK_PARAM
  ⟨0x0C0080, 0, 1, 18, [⟨0, 32, .cnt⟩]⟩, -- CE_NONFINITE_COUNT
  ⟨0x0C0084, 0, 1, 18, [⟨0, 32, .cnt⟩]⟩, -- CE_INIT_COUNT
  ⟨0x0C0088, 0, 1, 18, [⟨0, 32, .cnt⟩]⟩, -- CE_ECC_CORR_COUNT
  ⟨0x0C008C, 0, 1, 18, [⟨0, 32, .cnt⟩]⟩, -- CE_ECC_UNCORR_COUNT
  ⟨0x0C0090, 0, 1, 18, [⟨0, 32, .cnt⟩]⟩ -- CE_SPAN_LATE_COUNT
  ]
/-- The registers of the block Control engine. -/
def rowsEngine : List RegRow := rowsEngine0

def rowsBalEdge0 : List RegRow := [
  ⟨0x0E0000, 0x4, 4, 18, [⟨0, 2, .live⟩, ⟨2, 2, .live⟩, ⟨4, 2, .live⟩, ⟨6, 2, .live⟩, ⟨8, 2, .live⟩, ⟨10, 2, .live⟩, ⟨12, 2, .live⟩, ⟨14, 2, .live⟩, ⟨16, 2, .live⟩, ⟨18, 2, .live⟩, ⟨20, 2, .live⟩, ⟨22, 2, .live⟩, ⟨24, 2, .live⟩, ⟨26, 2, .live⟩, ⟨28, 2, .live⟩, ⟨30, 2, .live⟩]⟩, -- BAL_ARM_MAP
  ⟨0x0E0010, 0, 1, 18, [⟨0, 32, .live⟩]⟩, -- BAL_KEY_LSB
  ⟨0x0E0014, 0, 1, 2, [⟨0, 32, .shd⟩]⟩, -- BAL_SWAP_PENALTY
  ⟨0x0E0018, 0, 1, 2, [⟨0, 32, .shd⟩]⟩, -- BAL_EXCLUDE_LO
  ⟨0x0E001C, 0, 1, 2, [⟨0, 32, .shd⟩]⟩, -- BAL_EXCLUDE_HI
  ⟨0x0E0020, 0x4, 2, 18, [⟨0, 7, .live⟩, ⟨7, 1, .live⟩, ⟨8, 7, .live⟩, ⟨16, 7, .live⟩, ⟨23, 1, .live⟩, ⟨24, 1, .live⟩, ⟨25, 1, .live⟩, ⟨26, 1, .live⟩]⟩, -- BAL_ARM_LOCAL
  ⟨0x0E0028, 0, 1, 18, [⟨0, 6, .live⟩, ⟨6, 1, .live⟩, ⟨8, 6, .live⟩, ⟨14, 1, .live⟩]⟩, -- BAL_TRIM_LANE
  ⟨0x0E0080, 0, 1, 18, [⟨0, 32, .cnt⟩]⟩, -- BAL_SHORT_COUNT
  ⟨0x0E0084, 0, 1, 18, [⟨0, 32, .cnt⟩]⟩, -- BAL_INSERT_CHANGE_COUNT
  ⟨0x0E0088, 0, 1, 18, [⟨0, 32, .cnt⟩]⟩, -- BAL_TRIM_CHANGE_COUNT
  ⟨0x0E1000, 0x4, 2, 3, [⟨0, 12, .shd⟩, ⟨16, 12, .shd⟩]⟩, -- EDGE_DELAY_HB
  ⟨0x0E1010, 0x4, 4, 3, [⟨0, 12, .shd⟩, ⟨16, 12, .shd⟩]⟩, -- EDGE_DELAY_FB
  ⟨0x0E1020, 0x4, 8, 3, [⟨0, 12, .shd⟩, ⟨16, 12, .shd⟩]⟩, -- EDGE_DELAY_DX
  ⟨0x0E1040, 0, 1, 3, [⟨0, 12, .shd⟩, ⟨16, 2, .shd⟩]⟩, -- EDGE_MIN_PULSE
  ⟨0x0E1050, 0, 1, 4, [⟨0, 16, .shd⟩]⟩, -- EDGE_TRIM_ON
  ⟨0x0E1054, 0, 1, 4, [⟨0, 21, .shd⟩]⟩, -- EDGE_TRIM_PMAX
  ⟨0x0E1058, 0, 1, 4, [⟨0, 16, .shd⟩]⟩, -- EDGE_DX_ON
  ⟨0x0E105C, 0, 1, 4, [⟨0, 21, .shd⟩]⟩, -- EDGE_DX_PERIOD
  ⟨0x0E1060, 0, 1, 18, [⟨0, 1, .live⟩, ⟨1, 1, .live⟩, ⟨2, 1, .live⟩, ⟨16, 12, .live⟩]⟩, -- EDGE_DX_CTRL
  ⟨0x0E1070, 0, 1, 18, [⟨0, 21, .live⟩, ⟨21, 1, .live⟩, ⟨22, 7, .live⟩]⟩, -- EDGE_DX_STATE
  ⟨0x0E1100, 0x4, 32, 5, [⟨0, 2, .shd⟩, ⟨2, 2, .shd⟩, ⟨4, 2, .shd⟩, ⟨6, 2, .shd⟩, ⟨8, 2, .shd⟩, ⟨10, 2, .shd⟩, ⟨12, 2, .shd⟩, ⟨14, 2, .shd⟩, ⟨16, 2, .shd⟩, ⟨18, 2, .shd⟩, ⟨20, 2, .shd⟩, ⟨22, 2, .shd⟩, ⟨24, 2, .shd⟩, ⟨26, 2, .shd⟩, ⟨28, 2, .shd⟩, ⟨30, 2, .shd⟩]⟩, -- EDGE_FORCE
  ⟨0x0E1200, 0x4, 16, 6, [⟨0, 4, .shd⟩, ⟨4, 2, .shd⟩, ⟨8, 4, .shd⟩, ⟨12, 2, .shd⟩, ⟨16, 4, .shd⟩, ⟨20, 2, .shd⟩, ⟨24, 4, .shd⟩, ⟨28, 2, .shd⟩]⟩, -- EDGE_SWAP
  ⟨0x0E1300, 0x4, 64, 18, [⟨0, 2, .live⟩, ⟨2, 2, .live⟩, ⟨4, 2, .live⟩, ⟨6, 2, .live⟩, ⟨8, 1, .live⟩, ⟨9, 1, .live⟩, ⟨10, 1, .live⟩, ⟨11, 1, .live⟩, ⟨16, 4, .live⟩]⟩, -- EDGE_LANE_STATE
  ⟨0x0E1400, 0, 1, 18, [⟨0, 32, .cnt⟩]⟩, -- EDGE_SHORT_COUNT
  ⟨0x0E1404, 0, 1, 18, [⟨0, 32, .cnt⟩]⟩, -- EDGE_CARRY_LOST_COUNT
  ⟨0x0E1408, 0, 1, 18, [⟨0, 32, .cnt⟩]⟩, -- EDGE_POSTPONE_COUNT
  ⟨0x0E140C, 0, 1, 18, [⟨0, 32, .cnt⟩]⟩, -- EDGE_INTERLOCK_COUNT
  ⟨0x0E1410, 0, 1, 18, [⟨0, 32, .cnt⟩]⟩, -- EDGE_BOTH_ON_COUNT
  ⟨0x0E1414, 0, 1, 18, [⟨0, 32, .cnt⟩]⟩ -- EDGE_DX_LIMIT_COUNT
  ]
/-- The registers of the block Balancing and edge. -/
def rowsBalEdge : List RegRow := rowsBalEdge0

def rowsMeasure0 : List RegRow := [
  ⟨0x100000, 0x4, 16, 18, [⟨0, 32, .live⟩]⟩, -- FS_GAIN
  ⟨0x100040, 0x4, 16, 18, [⟨0, 32, .live⟩]⟩, -- FS_OFFSET
  ⟨0x100080, 0, 1, 18, [⟨0, 16, .live⟩, ⟨16, 16, .live⟩]⟩, -- FS_STATUS
  ⟨0x100084, 0, 1, 18, [⟨0, 9, .live⟩, ⟨9, 1, .live⟩]⟩, -- FS_WINDOW
  ⟨0x100090, 0x4, 4, 8, [⟨0, 9, .shd⟩, ⟨16, 4, .shd⟩, ⟨24, 8, .shd⟩]⟩, -- FS_TEST_SCHED
  ⟨0x1000A0, 0x8, 4, 8, [⟨0, 12, .shd⟩, ⟨16, 12, .shd⟩]⟩, -- FS_TEST_LEVELS_A
  ⟨0x1000A4, 0x8, 4, 8, [⟨0, 12, .shd⟩, ⟨16, 12, .shd⟩]⟩, -- FS_TEST_LEVELS_B
  ⟨0x1000C0, 0, 1, 18, [⟨0, 8, .cfg⟩]⟩, -- FS_TEST_TOL
  ⟨0x1000C4, 0, 1, 18, [⟨0, 4, .cfg⟩]⟩, -- FS_TEST_FAIL_LIMIT
  ⟨0x100100, 0x4, 16, 18, [⟨0, 16, .live⟩, ⟨16, 2, .live⟩, ⟨18, 1, .live⟩, ⟨20, 4, .live⟩]⟩, -- FS_TEST_RESULT
  ⟨0x100180, 0x4, 16, 18, [⟨0, 32, .live⟩]⟩, -- FS_MEAN_LIVE
  ⟨0x1001C0, 0x4, 16, 18, [⟨0, 32, .live⟩]⟩, -- FS_LAST_LIVE
  ⟨0x100200, 0, 1, 18, [⟨0, 32, .cnt⟩]⟩, -- FS_CLIP_COUNT
  ⟨0x100204, 0, 1, 18, [⟨0, 32, .cnt⟩]⟩, -- FS_TEST_COUNT
  ⟨0x100208, 0, 1, 18, [⟨0, 32, .cnt⟩]⟩, -- FS_TEST_FAIL_COUNT
  ⟨0x10020C, 0, 1, 18, [⟨0, 32, .cnt⟩]⟩, -- FS_TEST_SKIP_COUNT
  ⟨0x101000, 0x4, 4, 9, [⟨0, 3, .shd⟩, ⟨4, 2, .shd⟩, ⟨8, 5, .shd⟩, ⟨16, 1, .shd⟩]⟩, -- MET_CTRL
  ⟨0x101010, 0x4, 4, 9, [⟨0, 14, .shd⟩]⟩, -- MET_WINDOW
  ⟨0x101020, 0, 1, 9, [⟨0, 14, .shd⟩]⟩, -- MET_MF_FRAMES
  ⟨0x101024, 0, 1, 18, [⟨0, 4, .cmd⟩]⟩, -- MET_GO
  ⟨0x101028, 0, 1, 18, [⟨0, 4, .live⟩, ⟨4, 1, .live⟩, ⟨5, 1, .live⟩, ⟨6, 1, .live⟩, ⟨8, 4, .live⟩]⟩, -- MET_STATUS
  ⟨0x10102C, 0, 1, 18, [⟨0, 16, .live⟩]⟩, -- MET_LSYNC_PERIOD
  ⟨0x101030, 0, 1, 18, [⟨0, 16, .cfg⟩]⟩, -- MET_CHECK_TOL
  ⟨0x101040, 0x4, 4, 18, [⟨0, 24, .live⟩, ⟨24, 1, .live⟩, ⟨25, 1, .live⟩, ⟨26, 1, .live⟩, ⟨27, 1, .live⟩, ⟨28, 3, .live⟩]⟩, -- MET_RESULT
  ⟨0x101050, 0x4, 4, 18, [⟨0, 32, .live⟩]⟩, -- MET_RESULT_FRAME
  ⟨0x101060, 0, 1, 18, [⟨0, 32, .live⟩]⟩, -- MET_SCALE_V
  ⟨0x101064, 0, 1, 18, [⟨0, 32, .live⟩]⟩, -- MET_SCALE_I
  ⟨0x101068, 0, 1, 18, [⟨0, 1, .live⟩]⟩, -- MET_ENERGY_CFG
  ⟨0x101080, 0x4, 4, 18, [⟨0, 32, .cnt⟩]⟩, -- MET_GO_OVERRUN_COUNT
  ⟨0x101090, 0x4, 4, 18, [⟨0, 32, .cnt⟩]⟩, -- MET_RESULT_COUNT
  ⟨0x1010A0, 0, 1, 18, [⟨0, 32, .cnt⟩]⟩, -- MET_OVR_COUNT
  ⟨0x1010A4, 0, 1, 18, [⟨0, 32, .cnt⟩]⟩, -- MET_NOREF_COUNT
  ⟨0x1010A8, 0, 1, 18, [⟨0, 32, .cnt⟩]⟩, -- MET_LSYNC_REJECT_COUNT
  ⟨0x1010AC, 0, 1, 18, [⟨0, 32, .cnt⟩]⟩, -- MET_CHECK_FAIL_COUNT
  ⟨0x1010B0, 0, 1, 18, [⟨0, 32, .cnt⟩]⟩, -- MET_ENERGY_WINDOW_COUNT
  ⟨0x1010B4, 0, 1, 18, [⟨0, 32, .cnt⟩]⟩, -- MET_ENERGY_OVR_COUNT
  ⟨0x1010B8, 0, 1, 18, [⟨0, 32, .cnt⟩]⟩, -- MET_ENERGY_RESTORE_COUNT
  ⟨0x102000, 0, 1, 18, [⟨0, 12, .cfg⟩, ⟨16, 8, .cfg⟩, ⟨24, 1, .cfg⟩, ⟨25, 1, .cfg⟩, ⟨26, 1, .cfg⟩, ⟨28, 3, .cfg⟩]⟩, -- CAP_CTRL
  ⟨0x102004, 0, 1, 18, [⟨0, 4, .cfg⟩, ⟨4, 1, .cfg⟩, ⟨16, 16, .cfg⟩]⟩, -- CAP_LEVEL
  ⟨0x102008, 0, 1, 18, [⟨0, 1, .cmd⟩, ⟨1, 1, .cmd⟩]⟩ -- CAP_CMD
  ]
def rowsMeasure1 : List RegRow := [
  ⟨0x10200C, 0, 1, 18, [⟨0, 2, .live⟩, ⟨2, 3, .live⟩, ⟨16, 12, .live⟩]⟩, -- CAP_STATE
  ⟨0x102010, 0, 1, 18, [⟨0, 32, .live⟩]⟩, -- CAP_TRIG_FRAME
  ⟨0x102014, 0, 1, 18, [⟨0, 9, .live⟩]⟩, -- CAP_TRIG_SLOT
  ⟨0x102080, 0, 1, 18, [⟨0, 32, .cnt⟩]⟩, -- CAP_IGNORED_COUNT
  ⟨0x103000, 0x20, 16, 7, [⟨0, 16, .shd⟩, ⟨16, 16, .shd⟩]⟩, -- PROT_HARD
  ⟨0x103004, 0x20, 16, 7, [⟨0, 16, .shd⟩, ⟨16, 16, .shd⟩]⟩, -- PROT_SOFT
  ⟨0x103008, 0x20, 16, 7, [⟨0, 4, .shd⟩, ⟨4, 8, .shd⟩, ⟨12, 2, .live⟩]⟩, -- PROT_SOFT_CTRL
  ⟨0x10300C, 0x20, 16, 18, [⟨0, 1, .live⟩, ⟨1, 1, .live⟩, ⟨2, 1, .live⟩, ⟨3, 1, .live⟩, ⟨4, 1, .live⟩]⟩, -- PROT_CH_STATE
  ⟨0x103010, 0x20, 16, 18, [⟨0, 32, .cnt⟩]⟩, -- PROT_HARD_COUNT
  ⟨0x103014, 0x20, 16, 18, [⟨0, 32, .cnt⟩]⟩, -- PROT_SOFT_COUNT
  ⟨0x103018, 0x20, 16, 18, [⟨0, 32, .cnt⟩]⟩, -- PROT_PEND_COUNT
  ⟨0x10301C, 0x20, 16, 18, [⟨0, 32, .cnt⟩]⟩, -- PROT_PEND_DROP_COUNT
  ⟨0x103400, 0, 1, 18, [⟨0, 1, .cfg⟩, ⟨1, 1, .cfg⟩, ⟨2, 1, .cfg⟩, ⟨3, 1, .cfg⟩, ⟨4, 1, .cfg⟩]⟩, -- PROT_CFG
  ⟨0x103404, 0, 1, 18, [⟨0, 10, .cfg⟩]⟩, -- PROT_DCS_WINDOW
  ⟨0x103408, 0, 1, 7, [⟨0, 32, .shd⟩]⟩, -- PROT_EST_TOL
  ⟨0x10340C, 0, 1, 7, [⟨0, 20, .shd⟩]⟩, -- PROT_EST_LIMIT
  ⟨0x103410, 0, 1, 7, [⟨0, 32, .shd⟩]⟩, -- PROT_DERATE
  ⟨0x103414, 0, 1, 18, [⟨0, 32, .live⟩]⟩, -- PROT_CELL_C
  ⟨0x103418, 0, 1, 18, [⟨0, 6, .cfg⟩]⟩, -- PROT_EST_MIN_CELLS
  ⟨0x10341C, 0, 1, 18, [⟨0, 32, .cfg⟩]⟩, -- PROT_VCAP_TRIP
  ⟨0x103420, 0, 1, 18, [⟨0, 16, .cfg⟩, ⟨16, 16, .cfg⟩]⟩, -- PROT_DX_IMIN
  ⟨0x103424, 0, 1, 18, [⟨0, 21, .cfg⟩]⟩, -- PROT_DX_LOAD
  ⟨0x103440, 0, 1, 18, [⟨0, 1, .live⟩, ⟨1, 1, .live⟩, ⟨2, 1, .live⟩, ⟨3, 1, .live⟩, ⟨4, 1, .live⟩, ⟨5, 1, .live⟩, ⟨6, 1, .live⟩, ⟨7, 1, .live⟩, ⟨8, 3, .live⟩, ⟨12, 3, .live⟩]⟩, -- PROT_STATUS
  ⟨0x103444, 0, 1, 18, [⟨0, 1, .cmd⟩, ⟨1, 1, .cmd⟩, ⟨2, 1, .cmd⟩, ⟨3, 1, .cmd⟩, ⟨4, 1, .cmd⟩]⟩, -- PROT_CMD
  ⟨0x103448, 0, 1, 18, [⟨0, 32, .cfg⟩]⟩, -- PROT_RESET_KEY
  ⟨0x10344C, 0, 1, 18, [⟨0, 6, .cfg⟩, ⟨8, 8, .cfg⟩]⟩, -- PROT_SEL
  ⟨0x103450, 0, 1, 18, [⟨0, 32, .live⟩]⟩, -- PROT_BYPASS_LO
  ⟨0x103454, 0, 1, 18, [⟨0, 32, .live⟩]⟩, -- PROT_BYPASS_HI
  ⟨0x103480, 0, 1, 18, [⟨0, 32, .cnt⟩]⟩, -- PROT_SHUTTER_COUNT
  ⟨0x103484, 0, 1, 18, [⟨0, 32, .cnt⟩]⟩, -- PROT_MERGE_COUNT
  ⟨0x103488, 0, 1, 18, [⟨0, 32, .cnt⟩]⟩, -- PROT_PREEMPT_COUNT
  ⟨0x10348C, 0, 1, 18, [⟨0, 32, .cnt⟩]⟩, -- PROT_RELEASE_VOID_COUNT
  ⟨0x103490, 0, 1, 18, [⟨0, 32, .cnt⟩]⟩, -- PROT_RESET_REFUSE_COUNT
  ⟨0x103494, 0, 1, 18, [⟨0, 32, .cnt⟩]⟩, -- PROT_BYPASS_COUNT
  ⟨0x103498, 0, 1, 18, [⟨0, 32, .cnt⟩]⟩, -- PROT_EST_COUNT
  ⟨0x10349C, 0, 1, 18, [⟨0, 32, .cnt⟩]⟩, -- PROT_DX_FAIL_COUNT
  ⟨0x1034A0, 0, 1, 18, [⟨0, 32, .cnt⟩]⟩, -- PROT_QUEUE_LOST_COUNT
  ⟨0x1034A4, 0, 1, 18, [⟨0, 32, .cnt⟩]⟩, -- PROT_RING_OVERFLOW_COUNT
  ⟨0x1034A8, 0, 1, 18, [⟨0, 32, .cnt⟩]⟩, -- PROT_PIN_FULL_COUNT
  ⟨0x1034C0, 0x4, 5, 18, [⟨0, 32, .cnt⟩]⟩ -- PROT_CLASS_COUNT
  ]
/-- The registers of the block Measurement, with protection. -/
def rowsMeasure : List RegRow := rowsMeasure0 ++ rowsMeasure1

def rowsThermal0 : List RegRow := [
  ⟨0x110000, 0x4, 16, 18, [⟨0, 16, .live⟩]⟩, -- THM_TEMP
  ⟨0x110040, 0x4, 8, 18, [⟨0, 1, .live⟩, ⟨1, 2, .live⟩]⟩, -- THM_TH_CFG
  ⟨0x110060, 0, 1, 18, [⟨0, 16, .live⟩, ⟨16, 1, .live⟩, ⟨17, 1, .live⟩, ⟨18, 1, .live⟩, ⟨19, 1, .live⟩, ⟨20, 1, .live⟩, ⟨21, 1, .live⟩]⟩, -- THM_STATUS
  ⟨0x110070, 0, 1, 10, [⟨0, 16, .shd⟩, ⟨16, 16, .shd⟩]⟩, -- THM_LOUVRE_KNEE
  ⟨0x110074, 0, 1, 10, [⟨0, 32, .shd⟩]⟩, -- THM_LOUVRE_SLOPE
  ⟨0x110078, 0, 1, 10, [⟨0, 32, .shd⟩]⟩, -- THM_LOUVRE_FLOOR
  ⟨0x11007C, 0, 1, 18, [⟨0, 32, .live⟩]⟩, -- THM_PLIM_UNDRATED
  ⟨0x110080, 0, 1, 18, [⟨0, 32, .live⟩]⟩, -- THM_PLIM
  ⟨0x110084, 0, 1, 18, [⟨0, 16, .cfg⟩]⟩, -- THM_TJ_WARN
  ⟨0x110088, 0, 1, 18, [⟨0, 16, .cfg⟩, ⟨16, 16, .cfg⟩]⟩, -- THM_COOL_WINDOW
  ⟨0x1100C0, 0, 1, 18, [⟨0, 32, .cnt⟩]⟩, -- THM_BROKEN_COUNT
  ⟨0x1100C4, 0, 1, 18, [⟨0, 32, .cnt⟩]⟩, -- THM_LOUVRE_COUNT
  ⟨0x1100C8, 0, 1, 18, [⟨0, 32, .cnt⟩]⟩, -- THM_NV_REFUSE_COUNT
  ⟨0x1100CC, 0, 1, 18, [⟨0, 32, .cnt⟩]⟩ -- THM_COOL_EXIT_COUNT
  ]
/-- The registers of the block Thermal. -/
def rowsThermal : List RegRow := rowsThermal0

def rowsSafety0 : List RegRow := [
  ⟨0x120000, 0, 1, 18, [⟨0, 3, .live⟩, ⟨3, 1, .live⟩, ⟨4, 1, .live⟩, ⟨5, 1, .live⟩, ⟨16, 8, .live⟩]⟩, -- SAF_STATE
  ⟨0x120004, 0, 1, 18, [⟨0, 12, .live⟩, ⟨12, 4, .live⟩, ⟨16, 4, .live⟩, ⟨20, 1, .live⟩, ⟨21, 1, .live⟩, ⟨22, 1, .live⟩]⟩, -- SAF_IO
  ⟨0x120008, 0, 1, 18, [⟨0, 12, .live⟩, ⟨12, 1, .live⟩, ⟨13, 1, .live⟩, ⟨14, 1, .live⟩, ⟨15, 1, .live⟩, ⟨16, 1, .live⟩, ⟨17, 1, .live⟩, ⟨18, 1, .live⟩]⟩, -- SAF_DEMAND
  ⟨0x12000C, 0, 1, 18, [⟨0, 8, .live⟩]⟩, -- SAF_DOORS
  ⟨0x120010, 0, 1, 18, [⟨0, 32, .cfg⟩]⟩, -- SAF_ARM
  ⟨0x120014, 0, 1, 18, [⟨0, 1, .cmd⟩]⟩, -- SAF_CMD
  ⟨0x120018, 0, 1, 18, [⟨0, 2, .cfg⟩, ⟨4, 2, .cfg⟩]⟩, -- SAF_SELECT
  ⟨0x12001C, 0, 1, 18, [⟨0, 32, .cfg⟩]⟩, -- SAF_SELECT_CONFIRM
  ⟨0x120020, 0, 1, 18, [⟨0, 2, .live⟩, ⟨4, 2, .live⟩]⟩, -- SAF_SELECT_ACTIVE
  ⟨0x120024, 0, 1, 18, [⟨0, 32, .live⟩]⟩, -- SAF_SLV_VALUE
  ⟨0x120028, 0, 1, 18, [⟨0, 32, .live⟩]⟩, -- SAF_SLR_VALUE
  ⟨0x12002C, 0, 1, 18, [⟨0, 32, .live⟩]⟩, -- SAF_SLD_VALUE
  ⟨0x120030, 0, 1, 18, [⟨0, 32, .live⟩]⟩, -- SAF_PARAM_CRC
  ⟨0x120080, 0, 1, 18, [⟨0, 32, .cnt⟩]⟩, -- SAF_DEMAND_COUNT
  ⟨0x120084, 0, 1, 18, [⟨0, 32, .cnt⟩]⟩, -- SAF_BOLTED_COUNT
  ⟨0x120088, 0, 1, 18, [⟨0, 32, .cnt⟩]⟩, -- SAF_ACK_COUNT
  ⟨0x12008C, 0, 1, 18, [⟨0, 32, .cnt⟩]⟩, -- SAF_ACK_REFUSE_COUNT
  ⟨0x120090, 0, 1, 18, [⟨0, 32, .cnt⟩]⟩, -- SAF_ARM_REFUSE_COUNT
  ⟨0x120094, 0, 1, 18, [⟨0, 32, .cnt⟩]⟩, -- SAF_SELECT_REFUSE_COUNT
  ⟨0x120098, 0, 1, 18, [⟨0, 32, .cnt⟩]⟩, -- SAF_TP_ERR_COUNT
  ⟨0x12009C, 0, 1, 18, [⟨0, 32, .cnt⟩]⟩, -- SAF_MSG_ERR_COUNT
  ⟨0x1200A0, 0, 1, 18, [⟨0, 32, .cnt⟩]⟩, -- SAF_MSG_LOSS_COUNT
  ⟨0x1200A4, 0, 1, 18, [⟨0, 32, .cnt⟩]⟩, -- SAF_CHAIN_RETRY_COUNT
  ⟨0x1200A8, 0, 1, 18, [⟨0, 32, .cnt⟩]⟩ -- SAF_ECC_CORR_COUNT
  ]
/-- The registers of the block Safety. -/
def rowsSafety : List RegRow := rowsSafety0

def rowsRedund0 : List RegRow := [
  ⟨0x130000, 0, 1, 18, [⟨0, 3, .live⟩, ⟨4, 3, .live⟩, ⟨7, 1, .live⟩, ⟨8, 1, .live⟩, ⟨9, 1, .live⟩, ⟨12, 3, .live⟩, ⟨16, 8, .live⟩]⟩, -- RED_STATE
  ⟨0x130004, 0, 1, 18, [⟨0, 32, .live⟩]⟩, -- RED_CLAIM
  ⟨0x130008, 0, 1, 11, [⟨0, 10, .shd⟩]⟩, -- RED_CKPT_INTERVAL
  ⟨0x13000C, 0, 1, 11, [⟨0, 15, .shd⟩, ⟨16, 1, .shd⟩]⟩, -- RED_GAP
  ⟨0x130010, 0, 1, 18, [⟨0, 12, .live⟩, ⟨16, 3, .live⟩]⟩, -- RED_START
  ⟨0x130014, 0, 1, 18, [⟨0, 1, .cmd⟩, ⟨1, 1, .cmd⟩, ⟨2, 1, .cmd⟩, ⟨3, 1, .cmd⟩, ⟨4, 1, .cmd⟩]⟩, -- RED_CMD
  ⟨0x130018, 0, 1, 18, [⟨0, 32, .cfg⟩]⟩, -- RED_KEY
  ⟨0x13001C, 0, 1, 18, [⟨0, 16, .live⟩]⟩, -- RED_WAKE_TIME
  ⟨0x130020, 0, 1, 18, [⟨0, 16, .live⟩]⟩, -- RED_WATCHDOG
  ⟨0x130024, 0, 1, 18, [⟨0, 32, .live⟩]⟩, -- RED_SETTINGS_SEQ
  ⟨0x130028, 0, 1, 18, [⟨0, 24, .live⟩]⟩, -- RED_GEN_RECORD
  ⟨0x130040, 0x10, 2, 18, [⟨0, 15, .live⟩, ⟨15, 1, .live⟩, ⟨16, 16, .live⟩]⟩, -- RED_BUF_INFO0
  ⟨0x130044, 0x10, 2, 18, [⟨0, 32, .live⟩]⟩, -- RED_BUF_INFO1
  ⟨0x130048, 0x10, 2, 18, [⟨0, 32, .live⟩]⟩, -- RED_BUF_INFO2
  ⟨0x13004C, 0x10, 2, 18, [⟨0, 32, .live⟩]⟩, -- RED_BUF_INFO3
  ⟨0x130080, 0, 1, 18, [⟨0, 32, .cnt⟩]⟩, -- RED_CKPT_SENT_COUNT
  ⟨0x130084, 0, 1, 18, [⟨0, 32, .cnt⟩]⟩, -- RED_CKPT_SKIP_COUNT
  ⟨0x130088, 0, 1, 18, [⟨0, 32, .cnt⟩]⟩, -- RED_SETTINGS_SENT_COUNT
  ⟨0x13008C, 0, 1, 18, [⟨0, 32, .cnt⟩]⟩, -- RED_CKPT_RX_COUNT
  ⟨0x130090, 0, 1, 18, [⟨0, 32, .cnt⟩]⟩, -- RED_CKPT_BAD_COUNT
  ⟨0x130094, 0, 1, 18, [⟨0, 32, .cnt⟩]⟩, -- RED_SETTINGS_RX_COUNT
  ⟨0x130098, 0, 1, 18, [⟨0, 32, .cnt⟩]⟩, -- RED_HATCH_ERR_COUNT
  ⟨0x13009C, 0, 1, 18, [⟨0, 32, .cnt⟩]⟩, -- RED_WATCHDOG_COUNT
  ⟨0x1300A0, 0, 1, 18, [⟨0, 32, .cnt⟩]⟩, -- RED_WAKE_COUNT
  ⟨0x1300A4, 0, 1, 18, [⟨0, 32, .cnt⟩]⟩, -- RED_COLD_WAKE_COUNT
  ⟨0x1300A8, 0, 1, 18, [⟨0, 32, .cnt⟩]⟩, -- RED_COLD_ABORT_COUNT
  ⟨0x1300AC, 0, 1, 18, [⟨0, 32, .cnt⟩]⟩, -- RED_RELINQUISH_COUNT
  ⟨0x1300B0, 0, 1, 18, [⟨0, 32, .cnt⟩]⟩, -- RED_CMD_REFUSE_COUNT
  ⟨0x1300B4, 0, 1, 18, [⟨0, 32, .cnt⟩]⟩, -- RED_NOTICE_IGNORED_COUNT
  ⟨0x1300B8, 0, 1, 18, [⟨0, 32, .cnt⟩]⟩ -- RED_GEN_MISMATCH_COUNT
  ]
/-- The registers of the block Redundancy. -/
def rowsRedund : List RegRow := rowsRedund0

def rowsSecurity0 : List RegRow := [
  ⟨0x140000, 0, 1, 18, [⟨0, 3, .live⟩, ⟨8, 4, .live⟩]⟩, -- SEC_LIFECYCLE
  ⟨0x140004, 0, 1, 18, [⟨0, 1, .live⟩, ⟨1, 2, .live⟩, ⟨8, 6, .live⟩, ⟨16, 6, .live⟩]⟩, -- SEC_CONFIG
  ⟨0x140008, 0, 1, 18, [⟨0, 32, .live⟩]⟩, -- SEC_CONFIG_SEQ
  ⟨0x14000C, 0, 1, 18, [⟨0, 32, .live⟩]⟩, -- SEC_CONFIG_ID_HI
  ⟨0x140010, 0, 1, 18, [⟨0, 32, .live⟩]⟩, -- SEC_CONFIG_ID_LO
  ⟨0x140014, 0, 1, 18, [⟨0, 8, .live⟩, ⟨8, 8, .live⟩]⟩, -- SEC_KEY_STATE
  ⟨0x140018, 0, 1, 18, [⟨0, 6, .live⟩, ⟨8, 6, .live⟩]⟩, -- SEC_OTP_SVN
  ⟨0x14001C, 0, 1, 18, [⟨0, 2, .cfg⟩, ⟨2, 1, .cfg⟩]⟩, -- SEC_BOOT_CTRL
  ⟨0x140020, 0, 1, 18, [⟨0, 1, .cmd⟩, ⟨1, 1, .cmd⟩, ⟨2, 1, .cmd⟩, ⟨3, 1, .cmd⟩, ⟨4, 1, .cmd⟩, ⟨5, 1, .cmd⟩, ⟨6, 1, .cmd⟩, ⟨7, 1, .cmd⟩]⟩, -- SEC_CMD
  ⟨0x140024, 0, 1, 18, [⟨0, 1, .cfg⟩, ⟨16, 10, .cfg⟩]⟩, -- SEC_CMD_ARG
  ⟨0x140028, 0, 1, 18, [⟨0, 32, .cfg⟩]⟩, -- SEC_KEY
  ⟨0x14002C, 0, 1, 18, [⟨0, 4, .live⟩, ⟨8, 8, .live⟩, ⟨16, 8, .live⟩]⟩, -- SEC_RESULT
  ⟨0x140030, 0, 1, 18, [⟨0, 17, .live⟩]⟩, -- SEC_UNLOCK_REMAIN
  ⟨0x140034, 0x4, 2, 18, [⟨0, 8, .live⟩, ⟨8, 8, .live⟩, ⟨16, 1, .live⟩]⟩, -- SEC_SLOT_STATUS
  ⟨0x140040, 0x4, 4, 18, [⟨0, 32, .live⟩]⟩, -- SEC_CHALLENGE
  ⟨0x140050, 0x4, 4, 18, [⟨0, 32, .live⟩]⟩, -- SEC_UID
  ⟨0x140080, 0, 1, 18, [⟨0, 32, .cnt⟩]⟩, -- SEC_LOAD_COUNT
  ⟨0x140084, 0, 1, 18, [⟨0, 32, .cnt⟩]⟩, -- SEC_REJECT_COUNT
  ⟨0x140088, 0, 1, 18, [⟨0, 32, .cnt⟩]⟩, -- SEC_FALLBACK_COUNT
  ⟨0x14008C, 0, 1, 18, [⟨0, 32, .cnt⟩]⟩, -- SEC_TOKEN_REFUSE_COUNT
  ⟨0x140090, 0, 1, 18, [⟨0, 32, .cnt⟩]⟩, -- SEC_OTP_CORR_COUNT
  ⟨0x140094, 0, 1, 18, [⟨0, 32, .cnt⟩]⟩ -- SEC_ATTEST_COUNT
  ]
/-- The registers of the block Security. -/
def rowsSecurity : List RegRow := rowsSecurity0

def rowsServices0 : List RegRow := [
  ⟨0x150000, 0, 1, 18, [⟨0, 8, .cfg⟩, ⟨8, 4, .cfg⟩, ⟨12, 11, .cfg⟩]⟩, -- SVC_REQ
  ⟨0x150004, 0, 1, 18, [⟨0, 1, .cmd⟩]⟩, -- SVC_SUBMIT
  ⟨0x150008, 0, 1, 18, [⟨0, 8, .live⟩, ⟨16, 16, .live⟩]⟩, -- SVC_SUBMIT_RESULT
  ⟨0x15000C, 0, 1, 18, [⟨0, 1, .cmd⟩]⟩, -- SVC_RESULT_NEXT
  ⟨0x150010, 0, 1, 18, [⟨0, 16, .live⟩, ⟨16, 8, .live⟩, ⟨24, 8, .live⟩]⟩, -- SVC_RESULT
  ⟨0x150014, 0, 1, 18, [⟨0, 11, .live⟩, ⟨16, 5, .live⟩]⟩, -- SVC_RESULT_INFO
  ⟨0x150018, 0, 1, 18, [⟨0, 16, .cfg⟩, ⟨31, 1, .cmd⟩]⟩, -- SVC_CANCEL
  ⟨0x150020, 0x4, 2, 18, [⟨0, 3, .live⟩, ⟨4, 3, .live⟩, ⟨8, 3, .live⟩, ⟨12, 3, .live⟩, ⟨16, 3, .live⟩, ⟨20, 3, .live⟩, ⟨24, 3, .live⟩, ⟨28, 3, .live⟩]⟩, -- SVC_QUEUE_DEPTH
  ⟨0x150028, 0, 1, 18, [⟨0, 24, .live⟩]⟩, -- SVC_LOG_STATE
  ⟨0x150080, 0, 1, 18, [⟨0, 32, .cnt⟩]⟩, -- SVC_SUBMIT_COUNT
  ⟨0x150084, 0, 1, 18, [⟨0, 32, .cnt⟩]⟩, -- SVC_REFUSE_COUNT
  ⟨0x150088, 0, 1, 18, [⟨0, 32, .cnt⟩]⟩, -- SVC_FAIL_COUNT
  ⟨0x15008C, 0, 1, 18, [⟨0, 32, .cnt⟩]⟩, -- SVC_LOG_ERASED_COUNT
  ⟨0x150090, 0, 1, 18, [⟨0, 32, .cnt⟩]⟩, -- SVC_LOG_MISSED_COUNT
  ⟨0x150094, 0, 1, 18, [⟨0, 32, .cnt⟩]⟩, -- MON_CMD_COUNT
  ⟨0x150098, 0, 1, 18, [⟨0, 32, .cnt⟩]⟩ -- MON_REFUSE_COUNT
  ]
/-- The registers of the block Services. -/
def rowsServices : List RegRow := rowsServices0

def rowsArmView0 : List RegRow := [
  ⟨0x160000, 0x20, 5, 18, [⟨0, 1, .cmd⟩]⟩, -- AV_CMT_COMMIT
  ⟨0x160004, 0x20, 5, 18, [⟨0, 1, .live⟩, ⟨1, 2, .live⟩, ⟨8, 8, .live⟩, ⟨16, 8, .live⟩, ⟨24, 8, .live⟩]⟩, -- AV_CMT_STATUS
  ⟨0x160008, 0x20, 5, 18, [⟨0, 32, .live⟩]⟩, -- AV_CMT_RESULT_FRAME
  ⟨0x16000C, 0x20, 5, 18, [⟨0, 32, .cnt⟩]⟩, -- AV_CMT_APPLY_COUNT
  ⟨0x160010, 0x20, 5, 18, [⟨0, 32, .cnt⟩]⟩, -- AV_CMT_REJECT_COUNT
  ⟨0x1600A0, 0, 1, 18, [⟨0, 32, .cnt⟩]⟩, -- AV_CMT_ORPHAN_COUNT
  ⟨0x160100, 0, 1, 18, [⟨0, 8, .mbx⟩, ⟨8, 1, .mbx⟩]⟩, -- AV_MBX_REQ
  ⟨0x160104, 0, 1, 18, [⟨0, 32, .cfg⟩]⟩, -- AV_MBX_ARG
  ⟨0x160108, 0, 1, 18, [⟨0, 32, .cfg⟩]⟩, -- AV_MBX_AT_FRAME
  ⟨0x16010C, 0, 1, 18, [⟨0, 1, .live⟩, ⟨1, 1, .live⟩, ⟨2, 2, .live⟩]⟩, -- AV_MBX_STATUS
  ⟨0x160110, 0, 1, 18, [⟨0, 32, .mbx⟩]⟩, -- AV_MBX_DATA
  ⟨0x160114, 0, 1, 18, [⟨0, 32, .cnt⟩]⟩, -- AV_MBX_REPLACE_COUNT
  ⟨0x160118, 0, 1, 18, [⟨0, 32, .cnt⟩]⟩, -- AV_MBX_LATE_COUNT
  ⟨0x160200, 0, 1, 17, [⟨0, 13, .shd⟩]⟩, -- AV_FRAME_PERIOD
  ⟨0x160300, 0x4, 16, 13, [⟨0, 32, .shd⟩]⟩, -- AV_REF
  ⟨0x160400, 0, 1, 18, [⟨0, 6, .cfg⟩]⟩, -- AV_CE_SEL
  ⟨0x160440, 0x4, 8, 14, [⟨0, 32, .shd⟩]⟩, -- AV_CE_PARAM
  ⟨0x160500, 0, 1, 15, [⟨0, 9, .shd⟩, ⟨16, 9, .shd⟩]⟩, -- AV_BAL_SPARES
  ⟨0x160504, 0, 1, 15, [⟨0, 32, .shd⟩]⟩, -- AV_BAL_IDIR_BAND
  ⟨0x160508, 0, 1, 15, [⟨0, 16, .shd⟩]⟩, -- AV_BAL_TRIM_ROTATE
  ⟨0x160510, 0, 1, 16, [⟨0, 1, .shd⟩]⟩, -- AV_DCF_MODE
  ⟨0x160514, 0, 1, 16, [⟨0, 7, .shd⟩]⟩, -- AV_DCF_STAGGER
  ⟨0x160518, 0, 1, 16, [⟨0, 32, .shd⟩]⟩, -- AV_DCF_RSUP
  ⟨0x16051C, 0, 1, 16, [⟨0, 32, .shd⟩]⟩, -- AV_DCF_VMAX
  ⟨0x160520, 0, 1, 16, [⟨0, 32, .shd⟩]⟩, -- AV_DCF_IZERO
  ⟨0x160524, 0, 1, 16, [⟨0, 16, .shd⟩]⟩, -- AV_DCF_HOLD
  ⟨0x160528, 0, 1, 16, [⟨0, 16, .shd⟩]⟩, -- AV_DCF_TMAX
  ⟨0x160540, 0x4, 2, 18, [⟨0, 10, .live⟩, ⟨10, 1, .live⟩, ⟨11, 1, .live⟩, ⟨12, 1, .live⟩, ⟨13, 1, .live⟩, ⟨14, 1, .live⟩, ⟨15, 1, .live⟩, ⟨16, 10, .live⟩]⟩, -- AV_BAL_ARM_STATUS
  ⟨0x160580, 0x4, 2, 18, [⟨0, 32, .cnt⟩]⟩, -- AV_BAL_LIMIT_COUNT
  ⟨0x160588, 0, 1, 18, [⟨0, 32, .cnt⟩]⟩, -- AV_BAL_SPARE_SHORT_COUNT
  ⟨0x16058C, 0, 1, 18, [⟨0, 32, .cnt⟩]⟩, -- AV_DCF_SUPPRESS_COUNT
  ⟨0x160600, 0, 1, 18, [⟨0, 16, .cfg⟩, ⟨16, 4, .cfg⟩, ⟨20, 1, .cfg⟩]⟩, -- AV_PROT_RESTART
  ⟨0x160604, 0, 1, 18, [⟨0, 12, .cfg⟩]⟩, -- AV_PROT_WINDOW
  ⟨0x160608, 0, 1, 18, [⟨0, 1, .cmd⟩, ⟨1, 1, .cmd⟩]⟩, -- AV_PROT_CMD
  ⟨0x16060C, 0, 1, 18, [⟨0, 8, .live⟩, ⟨8, 8, .live⟩, ⟨16, 1, .live⟩, ⟨17, 4, .live⟩, ⟨21, 8, .live⟩]⟩, -- AV_PROT_STATUS
  ⟨0x160610, 0, 1, 18, [⟨0, 32, .cnt⟩]⟩, -- AV_PROT_RELEASE_COUNT
  ⟨0x160614, 0, 1, 18, [⟨0, 32, .cnt⟩]⟩, -- AV_PROT_RESTART_COUNT
  ⟨0x160700, 0, 1, 18, [⟨0, 1, .cmd⟩, ⟨1, 1, .cmd⟩, ⟨2, 1, .cmd⟩, ⟨3, 1, .cmd⟩]⟩, -- AV_ENG_CMD
  ⟨0x160704, 0, 1, 18, [⟨0, 2, .live⟩, ⟨4, 3, .live⟩, ⟨7, 1, .live⟩, ⟨8, 8, .live⟩, ⟨16, 8, .live⟩]⟩, -- AV_ENG_STATUS
  ⟨0x160708, 0, 1, 18, [⟨0, 1, .cfg⟩]⟩ -- AV_ENG_CTRL
  ]
def rowsArmView1 : List RegRow := [
  ⟨0x16070C, 0, 1, 18, [⟨0, 16, .cfg⟩, ⟨16, 16, .cfg⟩]⟩, -- AV_ENG_TIMEOUT_A
  ⟨0x160710, 0, 1, 18, [⟨0, 16, .cfg⟩, ⟨16, 16, .cfg⟩]⟩, -- AV_ENG_TIMEOUT_B
  ⟨0x160714, 0, 1, 18, [⟨0, 16, .cfg⟩]⟩, -- AV_ENG_TIMEOUT_C
  ⟨0x160718, 0, 1, 18, [⟨0, 32, .cfg⟩]⟩, -- AV_ENG_V_PASSIVE
  ⟨0x16071C, 0, 1, 18, [⟨0, 32, .cfg⟩]⟩, -- AV_ENG_V_CHARGED
  ⟨0x160720, 0, 1, 18, [⟨0, 16, .live⟩]⟩, -- AV_ENG_STEP_TIME
  ⟨0x160724, 0x4, 2, 18, [⟨0, 10, .live⟩]⟩, -- AV_ENG_READY
  ⟨0x160780, 0, 1, 18, [⟨0, 32, .cnt⟩]⟩, -- AV_ENG_START_COUNT
  ⟨0x160784, 0, 1, 18, [⟨0, 32, .cnt⟩]⟩, -- AV_ENG_ABORT_COUNT
  ⟨0x160788, 0, 1, 18, [⟨0, 32, .cnt⟩]⟩ -- AV_ENG_REFUSE_COUNT
  ]
/-- The registers of the block Arm view. -/
def rowsArmView : List RegRow := rowsArmView0 ++ rowsArmView1

/-- The rows of the block that holds an address (R566). -/
def rowsAt (a : Nat) : List RegRow :=
  if a < 0x010000 then rowsGlobal
  else if a < 0x020000 then rowsCommit
  else if a < 0x040000 then rowsCadence
  else if a < 0x080000 then rowsLanes
  else if a < 0x0C0000 then rowsPorts
  else if a < 0x0E0000 then rowsEngine
  else if a < 0x100000 then rowsBalEdge
  else if a < 0x110000 then rowsMeasure
  else if a < 0x120000 then rowsThermal
  else if a < 0x130000 then rowsSafety
  else if a < 0x140000 then rowsRedund
  else if a < 0x150000 then rowsSecurity
  else if a < 0x160000 then rowsServices
  else if a < 0x170000 then rowsArmView
  else []

/-- Does a row hold the register at a byte address? -/
def RegRow.has (r : RegRow) (a : Nat) : Bool :=
  if r.stride = 0 then a == r.base
  else r.base ≤ a && a < r.base + r.stride * r.count && (a - r.base) % r.stride == 0

/-- The register at a byte address, where one is defined (R567). -/
def regAt (a : Nat) : Option RegRow := (rowsAt a).find? (fun r => r.has a)

/-- The fields of a row's copy at address `a`, of one class. -/
def RegRow.flds (r : RegRow) (a : Nat) (c : Cls) : List Fld :=
  (r.fields.filter (fun x => x.cls == c)).map (fun x => ⟨a, x.lo, x.w⟩)

/-! ## Reset values given as numbers (R14) -/

/-- `count` copies of one field at a stride, all at one value, as entries by bit address. -/
def resetCopies (base stride count lo v : Nat) : SMap Nat :=
  (List.range count).map (fun i => ((base + stride * i) * 8 + lo, v))

/-- `count` copies of a register that holds two fields with a reset value of their own. -/
def resetCopies2 (base stride count lo v lo' v' : Nat) : SMap Nat :=
  (List.range count).flatMap (fun i =>
    [((base + stride * i) * 8 + lo, v), ((base + stride * i) * 8 + lo', v')])

/-- Every field whose reset value is a number other than zero, by bit address. A field not listed here resets to
zero, or takes its value as R14 says (`cfg`, `ball`, `OTP`, `die`, `source`, `random`). -/
def resetValues : SMap Nat :=
  [(0x000000 * 8 + 0, 25714)] ++
  [(0x000008 * 8 + 0, 1)] ++
  [(0x020008 * 8 + 0, 40000)] ++
  [(0x02000C * 8 + 0, 60)] ++
  [(0x02002C * 8 + 0, 3)] ++
  [(0x020030 * 8 + 0, 4)] ++
  [(0x020034 * 8 + 0, 64)] ++
  resetCopies 0x04000C 0x100 72 8 2 ++
  [(0x048004 * 8 + 8, 9)] ++
  resetCopies 0x080004 0x100 64 0 6 ++
  [(0x084000 * 8 + 0, 3)] ++
  [(0x084004 * 8 + 0, 64)] ++
  [(0x084014 * 8 + 0, 8)] ++
  [(0x084118 * 8 + 0, 3)] ++
  [(0x08411C * 8 + 0, 8)] ++
  [(0x084120 * 8 + 0, 1024)] ++
  [(0x084124 * 8 + 0, 128)] ++
  [(0x084124 * 8 + 16, 1024)] ++
  [(0x0C0010 * 8 + 0, 8)] ++
  [(0x1000C0 * 8 + 0, 64)] ++
  [(0x1000C4 * 8 + 0, 3)] ++
  resetCopies 0x101000 0x4 4 8 1 ++
  resetCopies 0x101010 0x4 4 0 200 ++
  [(0x101030 * 8 + 0, 400)] ++
  [(0x102000 * 8 + 0, 2048)] ++
  [(0x102000 * 8 + 24, 1)] ++
  [(0x102000 * 8 + 28, 3)] ++
  [(0x102004 * 8 + 4, 1)] ++
  [(0x102004 * 8 + 16, 32767)] ++
  [(0x103404 * 8 + 0, 200)] ++
  [(0x103418 * 8 + 0, 4)] ++
  [(0x103420 * 8 + 16, 16)] ++
  [(0x110084 * 8 + 0, 1840)] ++
  [(0x110088 * 8 + 0, 80)] ++
  [(0x110088 * 8 + 16, 880)] ++
  [(0x160514 * 8 + 0, 20)] ++
  [(0x160604 * 8 + 0, 60)] ++
  [(0x16070C * 8 + 0, 30)] ++
  [(0x16070C * 8 + 16, 60)] ++
  [(0x160710 * 8 + 0, 60)] ++
  [(0x160710 * 8 + 16, 120)] ++
  [(0x160714 * 8 + 0, 30)]

/-- The shadows of the SHD fields among them. -/
def resetShadows : SMap Nat :=
  resetCopies 0x101000 0x4 4 8 1 ++
  resetCopies 0x101010 0x4 4 0 200 ++
  [(0x160514 * 8 + 0, 20)]

end Sys2Proof.Machine
end

