-- ==== Sys2Proof/Machine/Dev.lean ====
section
/-! DEFINITION. The state of one head, by subsystem, as plain data. What a register shows lives in the register
file `Dev.rf` (one value per field, by bit address); the structures below hold the state that the spec gives the
machine and that no register shows. Each structure names the rules that give it. -/
namespace Sys2Proof.Machine

/-! ## Summaries and quotas (chapter *Balancing and cell insertion across the leg group*) -/

/-- One entry of a summary (R238). -/
structure Entry where
  key : Nat
  prev : Bool
  prevNeg : Bool
  trim : Bool
  fb : Bool
  lane : Nat
  deriving DecidableEq, Repr, Inhabited

/-- The part of a summary for one arm (R238). Sums of voltages are exact, in units of 2^-149 V; `lanes` and
`fbLanes` are the lanes of the head assigned to the arm (R245, R253). Mark: DEDUCED, safe (log entry 66). -/
structure ArmSum where
  m : Nat
  s : Int
  mfb : Nat
  sfb : Int
  entries : List Entry
  lanes : Nat
  fbLanes : Nat
  /-- ready cells (R510) -/
  ready : Nat
  deriving DecidableEq, Repr, Inhabited

/-- A head's summary of one frame, with the reports that travel with it (R238, R325, R413, R418, R510, R67). -/
structure Report where
  frame : Nat
  a0 : ArmSum
  a1 : ArmSum
  /-- the swap penalty in key units -/
  pen : Nat
  hold : Bool
  f4 : Bool
  hostHeld : Bool
  latched : Bool
  so0 : Bool
  so2 : Bool
  energize : Bool
  /-- the head is ACTIVE after its claim tick -/
  active : Bool
  relinquished : Bool
  echo : Bool
  genRec : Option Nat
  /-- by arm view group: the frame number at which the set in force was put in force (R67) -/
  avFrames : List (Option Nat)
  deriving DecidableEq, Repr, Inhabited

/-- The quotas of one arm (R241); f is `fNum / fDen`. -/
structure QArm where
  quotas : List Nat
  trimHead : Nat
  trimValid : Bool
  keep : Bool
  fNum : Nat
  fDen : Nat
  neg : Bool
  charge : Bool
  suppress : Bool
  suppFirst : Bool
  suppLast : Bool
  /-- head spacing of the suppression stagger, in 250 ps units (R249) -/
  sigma : Nat
  deriving DecidableEq, Repr, Inhabited

/-- A quota message (R241) with everything that travels with it (R456). -/
structure QuotaMsg where
  frame : Nat
  a0 : QArm
  a1 : QArm
  /-- APPLY (true) or CANCEL of an arm view group for a frame (R65) -/
  outcomes : List (Nat × Nat × Bool)
  /-- RELEASE for a frame, and whether the CE initialises (R326) -/
  release : Option (Nat × Bool)
  relinquish : Bool
  /-- RESUME at a frame (R435), or both arms held again (R511) -/
  resume : Option Nat
  hold : Bool
  /-- the energization step CELLS_UP has ended at the lead (R506) -/
  cellsUp : Bool
  /-- claim frame and generation (R434); the position it is for, or none for every head (R505) -/
  claim : Option (Nat × Nat × Option Nat)
  /-- the group enters DORMANT at the end of ESTABLISH (R413) -/
  dormant : Bool
  /-- RED_STATE of the lead (R437, GROUP_STATE) -/
  state : Nat
  /-- the synchronization state of the lead (R88) -/
  sync : Nat
  /-- snapshot frame, item and argument (R75); checkpoint frame of a HANDOVER (R420) -/
  snap : Option (Nat × Nat × Nat)
  handover : Option Nat
  deriving DecidableEq, Repr, Inhabited

/-! ## What a step puts on the wires -/

/-- What the head (or, for the cell rows, the cell node) sends or shows outside in one step. Mark: DESIGN CHOICE, safe (log entry 143). -/
inductive Out where
  /-- A DSF launched on a cell lane, its 96 bytes, and the bulk segments that follow it (R119, R124). -/
  | dsf (lane : Nat) (bytes : List Byte) (bulk : List (List Byte))
  /-- IDLE sent on a cell lane in place of a DSF that is skipped (R132). -/
  | idle (lane : Nat)
  /-- Four SHUTTER ordered sets on every cell lane (R133): claim and SOURCE byte. -/
  | shutter (claim source : Nat)
  /-- A SHUTTER on the span, both directions (R135). -/
  | spanShutter (claim source : Nat)
  /-- An ordered set on lane `lane` (R127): its type byte and content. -/
  | ordered (lane : Nat) (ty : Nat) (content : List Byte)
  /-- A span message (R455): type, destination (8 is every head) and payload words. -/
  | span (ty dest : Nat) (payload : List Nat)
  /-- The SUMMARY of a head to the lead, and the QUOTA of the lead to every head (R456), with what they carry. -/
  | summary (r : Report)
  | quota (q : QuotaMsg)
  /-- STAGE of an arm view group (R65, R456): group, target frame, and the staging set by bit address. -/
  | stage (group target : Nat) (set : SMap Nat)
  /-- The wake beacon on both span bundles (R431). -/
  | beacon
  /-- A span message relayed out of the head's other bundle (R457): what a relay changes is HOPS and the CRC, which
  stays a failing one where `good` is false. -/
  | relay (ty origin hops seq part : Nat) (good : Bool)
  /-- A Hatch unit (R422): its kind and bytes. -/
  | hatch (kind : Nat) (bytes : List Byte)
  /-- An uplink message on one uplink lane (R461): type and payload words. -/
  | uplink (lane ty : Nat) (words : List Nat)
  /-- The response of a host port transaction (R42): status, data words, CRC-8. -/
  | response (status : Nat) (data : List Nat) (crc : Nat)
  /-- A line the Rondi monitor answers, or its prompt (R533). -/
  | rondi (line : String)
  /-- A USF that the cell node sends on a port (R126). -/
  | usf (port : Nat) (bytes : List Byte)
  /-- A TIME_ECHO or other ordered set that the cell node sends on a port. -/
  | cellOrdered (port ty : Nat) (content : List Byte)
  /-- A span message that has waited for its bundle leaves on a span lane (R458, R459). -/
  | queued (lane : Nat) (message : Out)
  deriving DecidableEq, Repr

/-! ## The header of a span message -/

/-- What a span message says of itself (R455, R457): its origin, the relays so far, its sequence and part numbers,
the bundle it came in by, and whether its CRC is good. Mark: DESIGN CHOICE, safe (log entry 108). -/
structure SpanHdr where
  origin : Nat
  hops : Nat
  seq : Nat
  part : Nat
  east : Bool
  good : Bool
  deriving DecidableEq, Repr, Inhabited

/-! ## Protection and faults (chapter *Protection and fault handling*) -/

/-- A detection of a channel: its time and the side of the window (R322). -/
structure Det where
  t : Nat
  hi : Bool
  deriving DecidableEq, Repr, Inhabited

/-- A fast-sense channel as protection follows it (R314 to R319, R334 to R338). -/
structure Chan where
  /-- consecutive codes beyond the soft window (R316) -/
  beyond : Nat
  /-- a detection was taken and no code has lain inside since (R316) -/
  taken : Bool
  /-- a pending detection: the aperture that completed its count, and its side (R318) -/
  pend : Option Det
  /-- the times of the leg command changes whose blanking may still run (R317) -/
  changes : List Nat
  /-- the last hard and the last acting soft detection (R322) -/
  hard : Option Det
  soft : Option Det
  /-- consecutive frames in which the estimate differs (R334), and agrees (R338) -/
  differ : Nat
  agree : Nat
  /-- frames substituted since the substitution began (R337) -/
  substFrames : Nat
  /-- the tick whose estimate the soft comparator has compared (R336) -/
  estAt : Option Nat
  deriving DecidableEq, Repr, Inhabited

/-- A cause of a fault that is present (R576); `event` holds the frame of an event source. -/
structure Cause where
  src : Nat
  detail : Nat
  cls : Nat
  event : Option Nat
  derate : Bool
  deriving DecidableEq, Repr, Inhabited

/-- An entry of a fault queue: a fault as it was raised (R344, R345). -/
structure FqEntry where
  src : Nat
  cls : Nat
  detail : Nat
  arms : Nat
  acts : Nat
  value : Nat
  frame : Nat
  epoch : Nat
  time : Nat
  /-- the cause has returned while its BLOCK action holds (R340) -/
  again : Bool
  deriving DecidableEq, Repr, Inhabited

/-- A fault record of the ring (R345); an empty slot is none of these. -/
structure FaultRec where
  seq : Nat
  frame : Nat
  epoch : Nat
  cls : Nat
  pinned : Bool
  merged : Bool
  preempt : Bool
  src : Nat
  detail : Nat
  arms : Nat
  acts : Nat
  value : Nat
  time : Nat
  parent : Nat
  /-- copied to the flash log (R529) -/
  logged : Bool
  deriving DecidableEq, Repr, Inhabited

/-- A fault in handling (R329 to R332). -/
structure Handling where
  seq : Nat
  cls : Nat
  frame : Nat
  deriving DecidableEq, Repr, Inhabited

/-- A SHUTTER that the head has acted on: its claim and SOURCE, whether it came by the West bundle, or none for one of the head's own, and
the frame (R29). -/
structure ShutCopy where
  claim : Nat
  source : Nat
  by_ : Option Bool
  frame : Nat
  deriving DecidableEq, Repr, Inhabited

/-- `c` is another copy of `x`: the same SHUTTER by another bundle, no later than the next frame. -/
def ShutCopy.matches (x c : ShutCopy) : Bool :=
  x.claim == c.claim && x.source == c.source && x.by_ != c.by_ && (x.frame == c.frame || (x.frame + 1) % 2 ^ 32 == c.frame)

/-- Protection and the fault engine. -/
structure Prot where
  chan : SMap Chan
  causes : List Cause
  /-- FQ0 to FQ7, oldest entry first (R344) -/
  fq : SMap (List FqEntry)
  /-- the queue the engine looks at next -/
  fqNext : Nat
  handling : List Handling
  ring : SMap (Option FaultRec)
  ringIdx : Nat
  /-- SEQ of the next record (R345) -/
  seq : Nat
  /-- frame number of the last Shutter request at this head (R326) -/
  lastShutter : Option Nat
  /-- the named release target F, and whether it is automatic (R325, R326) -/
  relF : Option Nat
  relAuto : Bool
  /-- INIT of the named release; the message came after the launch of frame F - 1 (R326) -/
  relInit : Bool
  relLate : Bool
  /-- an F4 reset written with its key waits for the cut-off (R328) -/
  f4Due : Bool
  /-- a RESTART_LIMIT has been raised for the restart that is due (R325) -/
  limitRaised : Bool
  /-- the frame at which the last release took effect here -/
  relDone : Option Nat
  /-- at the lead: an F4 has been reported since the last release, so that the next one is the host's (R328) -/
  hostOnly : Bool
  /-- an F3 or F4 has been raised since the head's last summary (R325, R576) -/
  holdSeen : Bool
  /-- targets of automatic releases within the window, as running-clock times (R325) -/
  relTimes : List Nat
  /-- running-clock time since which no head has reported HOLD (R325) -/
  quietSince : Option Nat
  /-- per arm: the current estimate and whether it is available (R335) -/
  est : SMap Nat
  estAvail : SMap Bool
  /-- SHUTTERs acted on whose second copy may still come (R29) -/
  copies : List ShutCopy
  deriving DecidableEq, Repr, Inhabited

/-! ## Capture (R305 to R308) -/

/-- The recorder: stored samples, newest first, each 16 codes; the codes gathered for the next sample, with the window and the slot of the
first of them; how many samples are still to store after the trigger; the slots of the window in progress that came before ARM. -/
structure Cap where
  samples : List (List Int)
  acc : List (List Int)
  first : Nat × Nat
  left : Nat
  skip : Nat
  deriving DecidableEq, Repr, Inhabited

/-! ## The configuration in force (chapter *Configuration bitstream, signatures and lifecycle*) -/

/-- One entry of the CE instance table (R475). -/
structure CeInst where
  ty : Nat
  grouped : Bool
  freeze : Bool
  preset : Bool
  set : Nat
  count : Nat
  ins : List Nat
  signs : List Int
  deriving DecidableEq, Repr, Inhabited

/-- The items of the safety section (R404, R476). -/
structure SafConf where
  groupId : Nat
  enable : Nat
  trip : Nat
  filter : List Nat
  startWindow : Nat
  chans : List Nat
  gains : List (Nat × Nat)
  slvSets : List (Nat × Nat)
  slvFilter : Nat
  slvAction : Nat
  slvSet : Nat
  slrM : Nat
  slrMax : Nat
  slrFilter : Nat
  slrAction : Nat
  sldBand : Nat
  sldSign : Nat
  sldFilter : Nat
  sldAction : Nat
  sldDir : Nat
  diverseTol : Nat
  injectTol : Nat
  msgTimeout : Nat
  crc : Nat
  deriving DecidableEq, Repr, Inhabited

/-- What the configuration fixes beyond register values (R6, R470 to R477): the tables of its sections. -/
structure Conf where
  groupId : Nat
  position : Nat
  heads : Nat
  /-- maximum one-way line delay of this head, in 250 ps units (R103) -/
  maxDelay : Nat
  ce : List CeInst
  /-- LUT points by instance: pairs of binary32 patterns -/
  lut : SMap (List (Nat × Nat))
  /-- sinks: sink number and instance -/
  sinks : List (Nat × Nat)
  cost : Nat
  /-- allowed range of each HOST_REF -/
  refRange : List (Nat × Nat)
  /-- per arm: arm-current channel and whether its sign is minus (R235) -/
  armChan : List (Nat × Bool)
  /-- NTC R25 and B per TH input (R355) -/
  ntc : List (Nat × Nat)
  saf : SafConf
  startRoleA : Nat
  startRoleB : Nat
  /-- services configuration: tags and their data words -/
  services : SMap (List Nat)
  /-- INPUT of converters 0 and 1 that the bitstream binds to energy (R301, R526) -/
  energyIn : List Nat
  /-- locked bits by register address (R477) -/
  locks : SMap Nat
  seq : Nat
  svn : Nat
  fwSvn : Nat
  digest : List Byte
  deriving DecidableEq, Repr, Inhabited

/-! ## Cadence (chapter *Cadence: time base, frames and the frame budget*) -/

/-- The probe exchange of one lane (R89 to R92, R131, R572). -/
structure Probe where
  /-- frames since the last probe became due -/
  count : Nat
  due : Bool
  /-- the outstanding exchange: t1 and the frames it has waited -/
  pending : Option (Nat × Nat)
  /-- the accepted round trips the mean is taken over, newest first -/
  rtts : List Int
  /-- accepted since the mean last restarted -/
  accepted : Nat
  /-- consecutive rejections -/
  rejects : Nat
  /-- residuals of the last echoes, newest first -/
  resid : List Int
  /-- t2 less t1 and the downstream delay, of the last echo (R432) -/
  offset : Int
  /-- consecutive echoes whose residual lies outside the limit (R95) -/
  outside : Nat
  /-- when the lane's last DSF, its bulk segments and an IDLE have left, on the running clock (R131) -/
  busy : Nat
  deriving DecidableEq, Repr, Inhabited

/-- How far the work of the present frame has come (R100, R106). -/
structure FrameWork where
  gathered : Bool
  sorted : Bool
  cePass : Bool
  ceOver : Bool
  quotas : Bool
  quotaLate : Bool
  selected : Bool
  launched : Bool
  launchLate : Bool
  /-- lanes whose plan assumes RUN 1 -/
  runMask : Nat
  deriving DecidableEq, Repr, Inhabited

/-- The deadlines that an evaluation of R102 finds, from t0, and its longest downstream path: exact, in units of which 1,441,440 make
250 ps (R90, R102, R103). -/
structure Budget where
  g : Int
  q : Int
  l : Int
  maxD : Int
  deriving DecidableEq, Repr, Inhabited

/-- Time base, synchronization and budget. Times are in 250 ps units on the head's running clock, which the rate correction
disciplines (R80, R84) and which never steps; global time is that clock plus `off` (R79, R82), so a time step moves no tick. -/
structure Cad where
  /-- the running clock at the present event -/
  now : Nat
  /-- the count of the REF oscillator at the present event, in 250 ps units: the times of commands are such counts -/
  ref : Nat
  /-- what the running clock has gone on beyond `now`, in units of 10^-12 / 64 of 250 ps -/
  frac : Nat
  /-- 64 times the rate correction r of R84, in units of 10^-12 -/
  rate : Int
  /-- global time less the running clock -/
  off : Int
  frame : Nat
  epoch : Nat
  /-- T0 has been set (R96); the first tick falls at `tickAt` -/
  t0Set : Bool
  /-- the running clock at the last tick -/
  tickAt : Nat
  /-- the first tick has fallen (R97) -/
  started : Bool
  /-- the TB PLL is locked (R106) -/
  tbLocked : Bool
  /-- 64 times the integral term of R84, so that its division is exact -/
  rInt : Int
  /-- the last accepted PPS edge, or the entry to ACQUIRE -/
  accepted : Option Nat
  lastEdge : Option Nat
  /-- consecutive edges 1 s apart (R83) -/
  runLen : Nat
  /-- consecutive accepted edges within 100 ns, and beyond 1 us (R85) -/
  tight : Nat
  loose : Nat
  holdSince : Nat
  probe : SMap Probe
  work : FrameWork
  /-- consecutive misses by stage code plus 8 times the position, and those already raised (R107) -/
  miss : SMap Nat
  missRaised : SMap Bool
  /-- deadlines in force, in 250 ps units (R103) -/
  gQ : Nat
  qQ : Nat
  lQ : Nat
  ldQ : Nat
  /-- the launch time in force, exact, in the units of `Budget` (R105) -/
  lX : Int
  /-- consecutive exchanges with the lead outside the limit (R95) -/
  headOutside : Nat
  deriving DecidableEq, Repr, Inhabited

/-! ## Cell ports (chapter *Hokux Cell Link: frames, ordered sets and the cell contract*) -/

/-- A BLOCK or SUSPECT action of protection on a cell: its source and the consecutive good frames (R340, R343). -/
structure CellAct where
  src : Nat
  good : Nat
  /-- SEQ of the record of the fault that called for it, once written (R340) -/
  seq : Nat
  deriving DecidableEq, Repr, Inhabited

/-- What a decoded USF carries (R126). -/
structure Usf where
  sampleFrame : Nat
  frameEcho : Nat
  claimEcho : Nat
  status : Nat
  gateFault : Nat
  vcap : Nat
  temp : Nat
  resCurrent : Nat
  segment : List Byte
  sampleEpoch : Nat
  deriving DecidableEq, Repr, Inhabited

/-- A cell port as the link engine follows it (R136 to R139). -/
structure Port where
  /-- a USF with a good CRC has been taken this frame -/
  got : Bool
  /-- the frame's outcome was usable; its values may be used for selection -/
  usable : Bool
  /-- usable in the frame before -/
  wasUsable : Bool
  vcapPrev : Nat
  /-- consecutive frames not usable (R137), as far as HCL_LOST_LIMIT counts -/
  bad : Nat
  lostRaised : Bool
  suspectRaised : Bool
  /-- BOOT of the last usable USF -/
  boot : Option Nat
  /-- STATUS of the last USF taken (R136), and GATE of the last usable one (R435) -/
  status : Nat
  gate : Nat
  dsErr : Nat
  interlock : Nat
  haveCounts : Bool
  /-- a first VCAP has been accepted -/
  haveVcap : Bool
  /-- BLOCK and SUSPECT actions of protection -/
  blocks : List CellAct
  suspects : List CellAct
  /-- consecutive qualifying frames of R342 -/
  dxLow : Nat
  /-- DSFs sent with a carrier since it began, for R342 -/
  dxFrames : Nat
  resCurrent : Nat
  /-- SAMPLE_FRAME, SAMPLE_EPOCH and arrival of the last USF with a good CRC (R432) -/
  sample : Option (Nat × Nat × Nat)
  /-- the lane has been UP since configuration completed (R506) -/
  ever : Bool
  /-- inserted at the last selection, and with negative polarity: PREV and PREV_NEG of R238 -/
  inserted : Bool
  neg : Bool
  deriving DecidableEq, Repr, Inhabited

/-! ## Conversations (chapter *Hokux Cell Link: conversations with cells*) -/

/-- A conversation segment (R156). -/
structure Seg where
  ty : Nat
  last : Bool
  cnum : Nat
  seq : Nat
  payload : List Byte
  deriving DecidableEq, Repr, Inhabited

/-- A sequenced segment sent and not yet acknowledged (R159, R163): frames (or ticks) since it was last carried,
times it was sent again, and whether it is due to be sent again. -/
structure Sent where
  seq : Nat
  since : Nat
  resends : Nat
  due : Bool
  deriving DecidableEq, Repr, Inhabited

/-- The receiver of a direction (R160): ACK_NEXT and the segments held ahead of a gap. -/
structure Rx where
  next : Nat
  held : List Seg
  deriving DecidableEq, Repr, Inhabited

/-- What a slot holds beyond its registers (R170, R180, R182). `owner` is 0 for the host, 1 for an identity
conversation of discovery, 2 for a coast-limit write, 3 for a service request. -/
structure Slot where
  owner : Nat
  arg0 : Nat
  arg1 : Nat
  param : List Byte
  timeout : Nat
  /-- bytes to send (REG_WRITE), or bytes received in order -/
  data : List Byte
  /-- data length of the conversation (R155, R172) -/
  len : Nat
  units : Nat
  cnum : Nat
  /-- the next SEQ to send; 0 while the OPEN is still to be sent -/
  sndNext : Nat
  unacked : List Sent
  /-- SEG_TIMEOUT and RETX_LIMIT of the OPEN (R577) -/
  segTimeout : Nat
  retxLimit : Nat
  /-- ACK_NEXT of the last ACK received -/
  ackSeen : Nat
  rx : Rx
  status : Nat
  value : List Byte
  deriving DecidableEq, Repr, Inhabited

/-- A lane's conversation state beyond its registers (R164, R169, R183, R185). -/
structure ConvLane where
  /-- slots of the lane queue, the active one included, in order -/
  queue : List Nat
  /-- the CNUM last used, and the previous conversation (R169) -/
  cnum : Nat
  prevCnum : Nat
  prevOk : Bool
  prevAck : Nat
  /-- the ABORTs owed, in the order in which they are sent -/
  oweAbort : List Seg
  oweAck : Option Seg
  owePrev : Option Seg
  /-- a DSF has been sent on the lane since the last reset or wake -/
  started : Bool
  /-- no usable USF since the lane was ABSENT -/
  seen : Bool
  /-- discovery waits for a slot, or for its retry -/
  deferred : Bool
  retry : Nat
  /-- MIN_DEAD of the identity record (R187, R260) -/
  minDead : Nat
  deriving DecidableEq, Repr, Inhabited

/-! ## Redundancy (chapter *Redundancy: claims, Hatch and the dormant standby*) -/

/-- An item arriving over Hatch (R422, R427): its sequence byte, the blocks received in order, and whether every
block so far was good. -/
structure HatchItem where
  seqLow : Nat
  blocks : List (List Byte)
  good : Bool
  deriving DecidableEq, Repr, Inhabited

/-- A fault as its source raises it. `extra` holds action bits beyond those of the class (R345 word 4), `event`
marks a source that names an event (R576), `derate` one marked DERATE, `again` a cause that returns while its BLOCK action holds (R340). -/
structure Raise where
  src : Nat
  cls : Nat
  detail : Nat := 0
  arms : Nat := 0
  value : Nat := 0
  extra : Nat := 0
  reason : Nat := 5
  event : Bool := true
  derate : Bool := false
  again : Bool := false
  deriving DecidableEq, Repr

/-- Redundancy beyond its registers. Times are on the running clock. -/
structure Red where
  /-- start of the present wake, of its present phase, and of DORMANT -/
  wakeAt : Nat
  phaseAt : Nat
  dormantAt : Nat
  /-- the last wake start that a wake time is taken from -/
  warmFrom : Nat
  /-- ticks since the claim tick, once a claim has been taken (R424, R434) -/
  ticks : Nat
  /-- the claim frame and generation named by the lead (R434) -/
  claimAt : Option Nat
  claimGen : Nat
  /-- consecutive frames in which no lane showed CLAIM_OK; none once one has (R417) -/
  notTaken : Option Nat
  /-- the hold from the claim tick until RESUME (R435), its frames, and the named frame -/
  hold : Bool
  holdFrames : Nat
  resumeAt : Option Nat
  lateRaised : Bool
  /-- frames without a quota message (R417) -/
  noQuota : Nat
  /-- the relinquishment is still to be reported to the lead (R418) -/
  report : Bool
  /-- a relinquish report or its own relinquishment, of this frame, obliges the lead to send RELINQUISH with the next frame (R419) -/
  groupRelq : Option Nat
  /-- RELINQUISH has come from the lead: the head relinquishes with cause GROUP at its next launch (R419) -/
  relqNext : Bool
  /-- the frame of the last USF that echoed a higher claim (R420) -/
  highAt : Option Nat
  /-- the capture of the present tick has been made (R424); settings messages that go out before the checkpoint -/
  captured : Bool
  before : Nat
  /-- the checkpoint being sent: its bytes and the blocks left; the settings messages due before it -/
  sending : List (List Byte)
  sendSeq : Nat
  settings : List (List Byte)
  /-- the frame named for a HANDOVER (R420) still to be sent, the one it is to be captured at, and that its checkpoint is being sent -/
  handover : Option Nat
  handoverAt : Option Nat
  handing : Bool
  /-- an arm view snapshot to name with the next quotas (R75): frame, item, argument -/
  snapDue : Option (Nat × Nat × Nat)
  snapPart : Option (Nat × Nat × Nat)
  /-- item arriving, by type (1 checkpoint, 2 settings), and the two retained buffers (R427) -/
  arriving : SMap HatchItem
  buf : SMap (List Byte)
  newest : Nat
  lastValid : Option Nat
  /-- the retained settings image: value by bit address, and by group the frame of application (R426) -/
  image : SMap Nat
  imageGroups : Nat
  imageSeq : Nat
  /-- faults found while DORMANT, recorded at the next wake (R416, R438) -/
  deferred : List Raise
  /-- heads that have reported LOADED and the generations they reported (R434) -/
  loaded : SMap (Option Nat)
  /-- a non-zero echo has been reported to the lead in ESTABLISH (R413) -/
  echoSeen : Bool
  /-- the configuration memories are in retention and intact (R416, R430) -/
  retained : Bool
  /-- the generation record of R411 is not empty -/
  genSet : Bool
  /-- the lead sends no more quotas under its claim -/
  claimNamed : Bool
  deriving DecidableEq, Repr, Inhabited

/-! ## Services (chapter *Supervisor services and the Rondi monitor*) -/

/-- A service request (R519 to R524). -/
structure SvcReq where
  ticket : Nat
  code : Nat
  queue : Nat
  args : List Nat
  running : Bool
  cancel : Bool
  standdown : Bool
  /-- the result, once it has ended and waits for the done list -/
  ended : Option Nat
  data : List Nat
  /-- progress: the next item (converter, entry, sector, lane) -/
  next : Nat
  partly : Bool
  /-- FW_DISTRIBUTE: slots of open conversations by lane plus 64 times the stage, and result bytes by lane -/
  open_ : SMap Nat
  lanes : SMap Nat
  deriving DecidableEq, Repr, Inhabited

/-- An ended request on the done list, or the loaded result (R522). -/
structure SvcDone where
  ticket : Nat
  code : Nat
  result : Nat
  data : List Nat
  deriving DecidableEq, Repr, Inhabited

/-- The supervisor's services. -/
structure Svc where
  reqs : List SvcReq
  done : List SvcDone
  nextTicket : Nat
  /-- the flash log: entries by LOG_SEQ, 64 bytes each (R529) -/
  log : SMap (List Byte)
  /-- a log request waits for a PROGRAM_SLOT (R521) -/
  logBusy : Bool
  /-- the supervisor owes LOG_FAULTS on queue 15 (R531) -/
  autoLog : Bool
  deriving DecidableEq, Repr, Inhabited

/-! ## Measurement (chapter *Measurement: fast sense, metrology and capture*) -/

/-- Fast sense: the last codes of the window before, and by group of four channels the windows and injections
counted (R288); by channel the levels of its last
consecutive passes (R291; `passLevel`) and its own FS_MEAN (R336). -/
structure Fs where
  prevCodes : List Int
  win : SMap Nat
  inj : SMap Nat
  passRun : SMap Nat
  ownMean : SMap Nat
  /-- the codes of the window that just ended, as converted, and its injected slots by channel (R289, R382) -/
  raw : List (List Int)
  slots : List (Nat × Nat)
  /-- by channel, the last codes that came one by one in the window in progress: its tick, the slot, the code (R289) -/
  heard : SMap (List (Nat × Nat × Int))
  deriving DecidableEq, Repr, Inhabited

/-- The METROLOGY members of a converter (R293, R296). -/
structure MetMem where
  input : Nat
  refsel : Nat
  cycles : Nat
  cont : Bool
  window : Nat
  deriving DecidableEq, Repr, Inhabited

/-- A metrology converter (R293, R296): the members latched for the conversion, when GO was taken, the integration in
progress, the reference edges since it began and the times of those that ended a conversion; what global time was ahead of the running
clock at its start and at that end; the members for the integration that began there, where they have changed since; and that it waits
again after NOREF (R299). -/
structure MetConv where
  mem : MetMem
  goAt : Nat
  start : Option Nat
  edges : Nat
  endAt : Option Nat
  off0 : Int
  off1 : Int
  next : Option MetMem
  idle : Bool
  /-- a conversion of MET_CHECK: its input is not the latched one (R527) -/
  check : Bool
  deriving DecidableEq, Repr, Inhabited

/-- A result of converter 0 or 1 that waits for its pair (R302): start, end, duration in global time, code, and that it counts under
R304. -/
structure MetHalf where
  start : Nat
  stop : Nat
  dur : Int
  code : Int
  bad : Bool
  deriving DecidableEq, Repr, Inhabited

/-- Metrology and DC energy. Accumulators are in units of 2^-32 J. -/
structure Met where
  conv : SMap MetConv
  mfCount : Nat
  lsyncPrev : Option Nat
  lsyncAccepted : Option Nat
  lsyncRun : Nat
  /-- when LSYNC_OK last rose -/
  okAt : Nat
  half0 : Option MetHalf
  half1 : Option MetHalf
  accImport : Nat
  accExport : Nat
  ovrRun : Bool
  /-- ENERGY_STOP ends both converters with the window in progress (R526) -/
  stopping : Bool
  deriving DecidableEq, Repr, Inhabited

/-! ## Thermal (chapter *Thermal sensing and Louvre derating*) -/

/-- Consecutive bad and good conversions by input, the last good reading, and the inputs converted since reset. -/
structure Thm where
  bad : SMap Nat
  good : SMap Nat
  last : SMap Nat
  seen : Nat
  deriving DecidableEq, Repr, Inhabited

/-! ## Energization (chapter *From power-up to first deblock*) -/

/-- The sequence of the lead, and the exemption of R506. -/
structure Eng where
  /-- the step CELLS_UP has ended for the first time -/
  cellsUp : Bool
  /-- CONFIRM and ABORT written and not yet taken (R511, R515) -/
  confirm : Bool
  abort : Bool
  /-- frames since the step began, and its timeout in frames -/
  frames : Nat
  limit : Nat
  /-- both arms are to be held again by the next quota message (R511) -/
  holdDue : Bool
  /-- the positions that last reported ENERGIZE_OK low (R366) -/
  cold : SMap Bool
  deriving DecidableEq, Repr, Inhabited

/-! ## Balancing (chapter *Balancing and cell insertion across the leg group*) -/

/-- What the last quota computation of an arm used and found (R235, R254). -/
structure ArmCalc where
  vref : Nat
  s : Int
  bigN : Nat
  limited : Bool
  i : Nat
  m : Nat
  mfb : Nat
  vbarNum : Int
  vbarDen : Nat
  q : QArm
  heads : List (Nat × Bool)
  deriving DecidableEq, Repr, Inhabited

/-- Suppression of an arm at the lead (R246 to R250). -/
structure Supp where
  active : Bool
  first : Bool
  last : Bool
  /-- the quota message with `last` has been sent -/
  sentLast : Bool
  /-- running clock at entry, and consecutive frames at zero current -/
  since : Nat
  zero : Nat
  /-- already entered for the present latch -/
  used : Bool
  deriving DecidableEq, Repr, Inhabited

/-- Balancing. -/
structure Bal where
  /-- the last summary of each position that quota computation may use, and those formed in the present frame -/
  reports : SMap (Option Report)
  next : SMap (Option Report)
  armCalc : SMap ArmCalc
  /-- the quotas in force at this head -/
  quota : QuotaMsg
  trimFrames : SMap Nat
  supp : SMap Supp
  /-- by arm: the head's trim lane of the last selection -/
  trim : SMap (Option Nat)
  /-- by arm: the direction is DISCHARGE (R237) -/
  discharge : SMap Bool
  /-- SPARE_SHORT and LIMITED as last shown, by arm -/
  short : SMap Bool
  /-- by lane: the polarity (1 positive, 2 negative) in which it is fully inserted throughout the frame, and in the frame before (R335) -/
  full : SMap Nat
  fullPrev : SMap Nat
  /-- by arm: a further Shutter request has come since suppression began (R250) -/
  suppStop : SMap Bool
  /-- the FB lanes whose first DSF of a suppression has been sent (R247) -/
  relSent : List Nat
  deriving DecidableEq, Repr, Inhabited

/-! ## Commits (chapter *Register interface and the consistency model*) -/

/-- An arm view commit at the lead (R65, R66): the frame it was taken in, F, the staging set, the positions it goes to, the verdicts
by position (0 accepts) and, once decided, APPLY or CANCEL with what STATUS will show. -/
structure AvCommit where
  frame : Nat
  target : Nat
  set : SMap Nat
  mask : Nat
  sent : Bool
  verdicts : SMap (Option Nat)
  decided : Option Bool
  reason : Nat
  heads : Nat
  headReason : Nat
  deriving DecidableEq, Repr, Inhabited

/-- An arm view staging set that a head holds (R65, R67), and APPLY or CANCEL once it has come. -/
structure AvStaged where
  target : Nat
  set : SMap Nat
  outcome : Option Bool
  /-- the budget that the validation of an AV4 set found, or a later one of CAD_LOCAL that has applied since (R103) -/
  budget : Option Budget
  deriving DecidableEq, Repr, Inhabited

/-- Commits: local groups taken at the cut-off of the present frame and what the validator said (0 valid), their
staging sets by bit address, the arm view commits at the lead, the sets staged here, the frame at which the arm view set in force was put
in force, and at the lead the positions whose echo of the last apply is awaited (R67). -/
structure Cmt where
  taken : SMap Bool
  verdict : SMap Nat
  staging : SMap Nat
  av : SMap (Option AvCommit)
  staged : SMap (Option AvStaged)
  avFrame : SMap (Option Nat)
  echo : SMap Nat
  /-- the budget that the validation of the CAD_LOCAL set taken at the cut-off found (R103) -/
  budget : Option Budget
  deriving DecidableEq, Repr, Inhabited

/-! ## The control engine (chapter *The control engine*) -/

/-- One primary instance beyond its outputs (R206, R208, R219): its state words, the flags that its state window shows, its event
count, what it must remember for its counted event, and its consecutive frames in R208. -/
structure CeState where
  st : List Nat
  limited : Bool
  conflict : Bool
  nonfinite : Bool
  frozen : Bool
  tracking : Bool
  manual : Bool
  tripped : Bool
  floored : Bool
  events : Nat
  aux : Nat
  nfRun : Nat
  deriving DecidableEq, Repr, Inhabited

/-- SPAN_OUT values of a head (R204): the frame of its pass and the four values. -/
structure SpanVals where
  frame : Nat
  vals : List Nat
  got : Bool
  deriving DecidableEq, Repr, Inhabited

/-- The control engine. -/
structure Ce where
  /-- by instance number, the output word of the last pass -/
  out : SMap Nat
  /-- by primary instance -/
  inst : SMap CeState
  /-- the next pass is the first after initialisation (R216) -/
  fresh : Bool
  /-- an INIT has been taken at a cut-off, or configuration completed (R216, R217) -/
  initDue : Bool
  /-- at the last tick, a Shutter was latched or SO0 was off (R218) -/
  freeze : Bool
  /-- by position: the values in use, and those that have come in this frame -/
  span : SMap SpanVals
  spanNew : SMap SpanVals
  deriving DecidableEq, Repr, Inhabited

/-! ## The lane fabric (chapter *Lane fabric*) -/

/-- The training of one lane (R447 to R450): TRAINs accepted in a row in CHECK and what they said, TRAINs received in READY,
and the faults already raised since the lane was last UP. -/
structure LaneTrain where
  good : Nat
  said : Nat
  ready : Nat
  rateRaised : Bool
  wireRaised : Bool
  deriving DecidableEq, Repr, Inhabited

/-- The lane fabric beyond its registers. -/
structure Fab where
  train : SMap LaneTrain
  /-- by PLL group (0 to 15 cell quads, 16 East, 17 West, 18 uplinks): locked (R441, R453) -/
  pll : SMap Bool
  /-- messages waiting on an uplink lane (R461) -/
  ulq : SMap (List (Nat × List Nat))
  /-- at the lead, by ring index: the position admitted there, or none for a refused head (R28, R460) -/
  ring : SMap (Option (Option Nat))
  /-- positions admitted after the claim was named, which still wait for it (R505) -/
  late : List Nat
  /-- by span lane: messages of classes 3 to 5 that wait, with their class, in the order in which they leave (R459) -/
  spanq : SMap (List (Nat × Out))
  deriving DecidableEq, Repr, Inhabited

/-! ## Edges (chapter *Edge scheduler: legs, dead time and carriers*) -/

/-- A change of a leg command on the running clock: 0 OFF, 1 UP, 2 DOWN. `unit` is the time at which the change, or
the DX pulse that it belongs to, begins; `raw` is the time of the change before minimum-pulse handling. -/
structure LegChange where
  t : Nat
  leg : Nat
  cmd : Nat
  unit : Nat
  raw : Nat
  deriving DecidableEq, Repr, Inhabited

/-- A switch edge on the running clock; `unit` is the time of the leg command change that it belongs to. -/
structure SwEdge where
  t : Nat
  sw : Nat
  on : Bool
  unit : Nat
  deriving DecidableEq, Repr, Inhabited

/-- One leg: the command in force and when its interval began; the CARRY width added to the interval that began at
`extraAt` (R266); whether an interval's cut has been counted (R575); the residuals held; the changes of frames before that handling
has moved past their windows; the last interval removed, by its start, and the command that the leg kept. -/
structure LegSt where
  cmd : Nat
  since : Nat
  extra : Nat
  extraAt : Nat
  countedAt : Option Nat
  resUp : Nat
  resDn : Nat
  defer : List LegChange
  skip : Option (Nat × Nat)
  /-- when the upper and the lower switch last turned off -/
  offUp : Option Nat
  offDn : Option Nat
  deriving DecidableEq, Repr, Inhabited

/-- The trim carrier (R264): in its on interval, the start of the interval in progress, the polarity. -/
structure TrimRun where
  on : Bool
  start : Nat
  neg : Bool
  deriving DecidableEq, Repr, Inhabited

/-- The DX carrier (R268): where its first pulse starts (R270), the last pulse begun, its end, whether the next one is negative, and
the leg commands of its start and of the pulses begun, before invert and swap: by leg the last one past, and those ahead. -/
structure DxRun where
  first : Nat
  lastStart : Option Nat
  lastEnd : Nat
  nextNeg : Bool
  line : List LegChange
  deriving DecidableEq, Repr, Inhabited

/-- A lane in the edge scheduler: its legs, the switch states before the edges still pending, what the last DSF
sent, the edges of changes begun that its twelve entries had no room for, and what the present frame plans. -/
structure EdgeLane where
  legs : SMap LegSt
  sw : Nat
  sent : List LegChange
  sentEdges : List SwEdge
  owed : List SwEdge
  plan : List LegChange
  planEdges : List SwEdge
  trim : Option TrimRun
  dx : Option DxRun
  swapSeen : Nat
  forceSeen : Nat
  deriving DecidableEq, Repr, Inhabited

/-! ## The safety island (chapter *The safety channel*) -/

/-- The last safety message accepted from a position (R393, R394): SEQ, FLAGS, STATE, FRAME and the time it was accepted. -/
structure SafMsg where
  seq : Nat
  flags : Nat
  state : Nat
  frame : Nat
  at_ : Nat
  deriving DecidableEq, Repr, Inhabited

/-- A SAFE_ACK pulse in the cycle of its falling edge (R403): a demand that prevents acceptance has come since, a stop demand of another kind
has, and HOST was written again. -/
structure SafPulse where
  demand : Bool
  stop : Bool
  host : Bool
  deriving DecidableEq, Repr, Inhabited

/-- The island beyond its registers. Times are on the running clock. Mark: DEDUCED, unsafe (log entry 110). -/
structure Isl where
  /-- the island holds a parameter copy, taken at configuration completion (R404) -/
  have_ : Bool
  /-- SELFTEST was entered from BOLTED (R374) -/
  again : Bool
  /-- a demand with action TRIP has taken SO1 off, or no acknowledge has come since power-on (R375) -/
  trip : Bool
  /-- a stop demand has been taken since the last decision -/
  newStop : Bool
  /-- a SAFE_ACK pulse whose falling edge met every condition, until its cycle ends (R370, R403) -/
  ack : Option SafPulse
  /-- when the start-up window began (R378) -/
  startAt : Nat
  /-- the ticks have stayed away for more than 2 T (R372) -/
  gone : Bool
  /-- faults of R372 being detected, bit c for code c (R398) -/
  found : Nat
  /-- TP outputs whose last check failed (R380) -/
  tpBad : Nat
  armedAt : Nat
  /-- a confirmed selection that applies at the next cycle: SLV set and SLD direction (R401) -/
  select : Option (Nat × Nat)
  /-- consecutive violating windows of SLV, SLR and SLD (R387), by 0, 1, 2 -/
  viol : SMap Nat
  /-- the safety means of the SLR channel, newest first (R385) -/
  ramp : List Nat
  /-- consecutive windows that differ, and injections that differ, by channel (R383) -/
  diverse : SMap Nat
  inject : SMap Nat
  /-- a window has been evaluated since configuration, for the check of R401 -/
  windowed : Bool
  /-- PERMIT_IN has been high since (R391) -/
  highSince : Option Nat
  /-- a valid lead message with CLOSED came after PERMIT_IN rose (R392) -/
  closedSeen : Bool
  /-- the closing attempt in progress, and the end of the low time after the last one (R391) -/
  attempt : Option Nat
  lowUntil : Nat
  seq : Nat
  msgs : SMap (Option SafMsg)
  /-- the times of counted message failures within 1 s (R394) -/
  errs : List Nat
  /-- positions with MSG_LOSS -/
  lost : Nat
  /-- PERMIT_IN has disagreed with the messages since (R395) -/
  disagree : Option Nat
  /-- a tick has been seen since configuration or DORMANT, for the TICK diagnostic (R372) -/
  watch : Bool
  deriving DecidableEq, Repr, Inhabited

/-! ## Boot and security (chapters *From power-up to first deblock*, *Configuration bitstream, signatures and lifecycle*) -/

/-- Boot beyond its registers (R498 to R500): the head is in reset; the sources active since the release of the last reset; when it was
released; a container waits to be put in force (stage APPLY), and who it came from. -/
structure Boot where
  held : Bool
  releasedAt : Nat
  source : Nat
  container : List Byte
  /-- the stage REF has failed -/
  refFailed : Bool
  deriving DecidableEq, Repr, Inhabited

/-- A report of ATTEST (R493, R494): its bytes, the nonce index and the nonce. -/
structure Attested where
  bytes : List Byte
  index : Nat
  nonce : List Byte
  deriving DecidableEq, Repr, Inhabited

/-- Security beyond its registers. -/
structure Sec where
  /-- the security command that runs: its bit number in SEC_CMD -/
  running : Option Nat
  /-- another bit was written while it ran (R495) -/
  busyHit : Bool
  key : Nat
  /-- the end of an unlock on the running clock (R492) -/
  unlockEnd : Nat
  /-- OTP words with an uncorrectable error (R483) -/
  uncorr : List Nat
  /-- the containers of flash slots A (0) and B (1) -/
  flash : SMap (List Byte)
  /-- nonce index and nonce of the ATTEST that runs, and the last report -/
  nonceIndex : Nat
  nonce : List Byte
  report : Option Attested
  /-- digest of the firmware container in force, and the slots that signed (R493) -/
  fwDigest : List Byte
  signers : Nat
  /-- the argument of a PROGRAM_SLOT that runs -/
  slot : Nat
  deriving DecidableEq, Repr, Inhabited

/-! ## The host port, mailboxes (chapter *Register interface and the consistency model*) -/

/-- A snapshot mailbox beyond its registers (R68 to R75): the item and argument of the request, the frame it is to be captured at, the
captured words and the read pointer; for the arm view mailbox, when its own part was captured and the parts by position. -/
structure Mbx where
  item : Nat
  arg : Nat
  due : Option Nat
  words : List Nat
  ptr : Nat
  /-- frame and epoch of the capture that waits for parts, and the ticks since it (R110) -/
  at_ : Option (Nat × Nat)
  wait : Nat
  parts : SMap (List Nat)
  deriving DecidableEq, Repr, Inhabited

/-- A request of the host port that is complete (R39, R40): the fields of its header, the data words, whether a continuation segment
failed its CRC; and whether HRP_CS_N has risen before its response was clocked out (R49). -/
structure HrpReq where
  cmd : Nat
  addr : Nat
  bmask : Nat
  len : Nat
  data : List Nat
  segsBad : Bool
  lost : Bool
  deriving DecidableEq, Repr, Inhabited

/-- The host port: requests in the order received, the first in progress (R38); its domain was off at its last bit, or has gone off since
(R48); a response stands that has not been clocked out in full; HRP_CS_N is low (R44, R46). Mark: DEDUCED, unsafe (log entry 25). -/
structure Hrp where
  reqs : List HrpReq
  off : Bool
  answered : Bool
  cs : Bool
  deriving DecidableEq, Repr, Inhabited

/-! ## The head -/

/-- One head: the register file and every subsystem's own state. -/
structure Dev where
  /-- the value in force of every register field, by bit address -/
  rf : SMap Nat
  /-- the shadow of every SHD field (R51) -/
  shadow : SMap Nat
  conf : Conf
  cad : Cad
  port : SMap Port
  slot : SMap Slot
  conv : SMap ConvLane
  /-- the words of data windows 0 to 3, by window times 2^20 plus word index (R76) -/
  win : SMap Nat
  prot : Prot
  red : Red
  svc : Svc
  bal : Bal
  ce : Ce
  /-- by origin and type: SEQ and PART of the last span message accepted (R457) -/
  spanSeq : SMap (Option (Nat × Nat))
  edge : SMap EdgeLane
  eng : Eng
  fs : Fs
  met : Met
  thm : Thm
  fab : Fab
  cap : Cap
  cmt : Cmt
  isl : Isl
  boot : Boot
  sec : Sec
  /-- mailboxes MBX0 to MBX3, and the arm view mailbox as number 4 -/
  mbx : SMap Mbx
  hrp : Hrp
  /-- the head's second claim register (R410) -/
  claimB : Nat
  /-- free values drawn so far (the model's own, not the spec's) -/
  free : Nat
  /-- what the last step sent Mark: DESIGN CHOICE, safe (log entry 13). -/
  out : List Out
  deriving DecidableEq, Repr, Inhabited

end Sys2Proof.Machine
end

