-- ==== Sys2Proof/Machine/Ops.lean ====
section
/-! DEFINITION. The named operations over state: sparse data, register fields, the shadow, free values, time and
frame arithmetic. Every meaning reads and writes registers through these. -/
namespace Sys2Proof.Machine

/-! ## Sparse data in canonical form -/

/-- The entry of a number; the type's default where none is listed. -/
def mget {α : Type} [Inhabited α] (m : SMap α) (k : Nat) : α :=
  match m with
  | [] => default
  | (i, v) :: r => if i = k then v else mget r k

/-- Enter or replace an entry, keeping the numbers rising. -/
def mins {α : Type} (m : SMap α) (k : Nat) (v : α) : SMap α :=
  match m with
  | [] => [(k, v)]
  | (i, w) :: r => if k < i then (k, v) :: (i, w) :: r else if i = k then (k, v) :: r else (i, w) :: mins r k v

/-- Remove what is listed under a number. -/
def mdel {α : Type} (m : SMap α) (k : Nat) : SMap α :=
  match m with
  | [] => []
  | (i, w) :: r => if i = k then mdel r k else (i, w) :: mdel r k

/-- Write an entry: the default is written by listing nothing. -/
def mset {α : Type} [Inhabited α] [DecidableEq α] (m : SMap α) (k : Nat) (v : α) : SMap α :=
  if v = default then mdel m k else mins m k v

/-- Change an entry. -/
def mupd {α : Type} [Inhabited α] [DecidableEq α] (m : SMap α) (k : Nat) (f : α → α) : SMap α :=
  mset m k (f (mget m k))

/-- The entries whose number satisfies `p`, from `b`; the others from `a`. -/
def mblend {α : Type} (p : Nat → Bool) (a b : SMap α) : SMap α :=
  (b.filter (fun e => p e.1)).foldr (fun e m => mins m e.1 e.2) (a.filter (fun e => !p e.1))

/-- Do the numbers rise strictly from `lo` on, with no entry equal to the default? -/
def mwfFrom {α : Type} [Inhabited α] [DecidableEq α] (lo : Nat) (m : SMap α) : Bool :=
  match m with
  | [] => true
  | (i, v) :: r => decide (lo ≤ i) && decide (v ≠ default) && mwfFrom (i + 1) r

/-- The canonical form. -/
def mwf {α : Type} [Inhabited α] [DecidableEq α] (m : SMap α) : Bool := mwfFrom 0 m

/-! ## Register fields -/

/-- The value in force of a field, a number of its width. -/
def Dev.g (d : Dev) (f : Fld) : Nat := mget d.rf f.key % 2 ^ f.w

/-- Write the value in force of a field, cut to its width. -/
def Dev.p (d : Dev) (f : Fld) (v : Nat) : Dev := { d with rf := mset d.rf f.key (v % 2 ^ f.w) }

/-- One more in a counter field; counters wrap (R15). -/
def Dev.inc (d : Dev) (f : Fld) : Dev := d.p f (d.g f + 1)

/-- `n` more in a counter field. -/
def Dev.addTo (d : Dev) (f : Fld) (n : Nat) : Dev := d.p f (d.g f + n)

/-- A one-bit field as a truth value. -/
def Dev.b (d : Dev) (f : Fld) : Bool := d.g f == 1

/-- A truth value as one bit. -/
def bit (b : Bool) : Nat := if b then 1 else 0

/-- Write a one-bit field. -/
def Dev.pb (d : Dev) (f : Fld) (v : Bool) : Dev := d.p f (bit v)

/-- The shadow of an SHD field. -/
def Dev.sh (d : Dev) (f : Fld) : Nat := mget d.shadow f.key

/-- Write the shadow of an SHD field. -/
def Dev.psh (d : Dev) (f : Fld) (v : Nat) : Dev := { d with shadow := mset d.shadow f.key (v % 2 ^ f.w) }

/-- A two's complement reading of a `w`-bit value. -/
def sgn (w v : Nat) : Int := if 2 ^ (w - 1) ≤ v % 2 ^ w then (v % 2 ^ w : Int) - 2 ^ w else (v % 2 ^ w : Int)

/-- The `w`-bit two's complement pattern of an integer. -/
def unsgn (w : Nat) (i : Int) : Nat := (i % (2 ^ w : Int)).toNat

/-- A field read as a signed number. -/
def Dev.gs (d : Dev) (f : Fld) : Int := sgn f.w (d.g f)

/-- A field written as a signed number. -/
def Dev.ps (d : Dev) (f : Fld) (i : Int) : Dev := d.p f (unsgn f.w i)

/-- Do `f` to the state when `c` holds. Mark: DESIGN CHOICE, unsafe (log entry 5). -/
def Dev.when (d : Dev) (c : Bool) (f : Dev → Dev) : Dev := if c then f d else d

/-- Add something to what this step sends. -/
def Dev.emit (d : Dev) (o : Out) : Dev := { d with out := d.out ++ [o] }

/-- Draw a free value (the model's own device for a value the spec leaves open; no rule of the spec).
Mark: DESIGN CHOICE, safe (log entry 10). -/
def Dev.draw (d : Dev) : Nat × Dev := (Config.free d.free, { d with free := d.free + 1 })

/-! ## Numbers -/

/-- Clamp to a range. -/
def clampInt (x lo hi : Int) : Int := if x < lo then lo else if hi < x then hi else x

/-- A quotient the spec shows in whole units: exact where it is whole, otherwise one of its two neighbours,
left free (R90, R103). Mark: DESIGN CHOICE, safe (log entry 11). -/
def qdiv (n : Int) (den : Nat) : Int :=
  if n % (den : Int) = 0 then n / (den : Int)
  else n / (den : Int) + (if Config.roundUp n den then 1 else 0)

/-- Bits `hi` down to `lo` of a number. -/
def bits (v hi lo : Nat) : Nat := v / 2 ^ lo % 2 ^ (hi - lo + 1)

/-- Set bit `i` of a mask. -/
def setBit (v i : Nat) : Nat := v ||| 2 ^ i

/-- Clear bit `i` of a mask. -/
def clrBit (v i : Nat) : Nat := if v.testBit i then v ^^^ 2 ^ i else v

/-- The number of set bits among the first `n`. -/
def popCount (n v : Nat) : Nat := ((List.range n).filter (fun i => v.testBit i)).length

/-! ## Frames -/

/-- Frame `a` lies after frame `b` (R109). -/
def later (a b : Nat) : Bool :=
  let dist := (a + 2 ^ 32 - b % 2 ^ 32) % 2 ^ 32
  decide (1 ≤ dist) && decide (dist ≤ 2 ^ 31 - 1)

/-- A frame number `n` frames on. -/
def frameAdd (f n : Nat) : Nat := (f + n) % 2 ^ 32

/-- The generation and the rank of a claim (R119). -/
def claimGen (c : Nat) : Nat := c / 256 % 2 ^ 24
def claimRank (c : Nat) : Nat := c % 256

/-- Claim `a` compared with reference claim `b` (R408): `gt` is HIGHER, `lt` is LOWER. -/
def claimCmp (a b : Nat) : Ordering :=
  if a = b then .eq
  else if a = 0 then .lt
  else if b = 0 then .gt
  else
    let d := (claimGen a + 2 ^ 24 - claimGen b) % 2 ^ 24
    if d = 0 then (if claimRank b < claimRank a then .gt else .lt)
    else if d ≤ 2 ^ 23 - 1 then .gt
    else .lt

/-- Claim `a` is higher than claim `b`. -/
def claimHigher (a b : Nat) : Bool := claimCmp a b == .gt
/-- Claim `a` is lower than claim `b`. -/
def claimLower (a b : Nat) : Bool := claimCmp a b == .lt

/-! ## Time -/

/-- The frame period in force, in 250 ps units (10 ns are 40 of them). -/
def Dev.periodQ (d : Dev) : Nat := d.g F.CAD_FRAME_PERIOD_PERIOD * 40

/-- Units of `Cad.frac` in one of 250 ps. -/
def rateUnit : Nat := 64 * 10 ^ 12

/-- How far the running clock goes in one count of REF, in units of `Cad.frac` (R80). -/
def Dev.pace (d : Dev) : Nat := ((rateUnit : Int) + d.cad.rate).toNat

/-- The running clock at REF count `t`: it goes faster than REF by the rate correction (R80, R86). A count that has passed gives the
present. -/
def Dev.clockAt (d : Dev) (t : Nat) : Nat :=
  if t ≤ d.cad.ref then d.cad.now else d.cad.now + ((t - d.cad.ref) * d.pace + d.cad.frac) / rateUnit

def Dev.fracAt (d : Dev) (t : Nat) : Nat :=
  if t ≤ d.cad.ref then d.cad.frac else ((t - d.cad.ref) * d.pace + d.cad.frac) % rateUnit

/-- Move to an event at REF count `t`; time never runs backwards (R80). Mark: DESIGN CHOICE, safe (log entry 12). -/
def Dev.at (d : Dev) (t : Nat) : Dev :=
  { d with cad := { d.cad with now := d.clockAt t, ref := max d.cad.ref t, frac := d.fracAt t } }

/-- REF counts until the running clock has gone on by `n`. -/
def Dev.refFor (d : Dev) (n : Nat) : Nat := (n * rateUnit - d.cad.frac + d.pace - 1) / max 1 d.pace

/-- Move to an event that falls at `c` on the running clock itself, as ticks and launches do (R96, R121). -/
def Dev.atClock (d : Dev) (c : Nat) : Dev :=
  if c ≤ d.cad.now then d
  else
    let n := c - d.cad.now
    let k := d.refFor n
    { d with cad := { d.cad with now := c, ref := d.cad.ref + k, frac := d.cad.frac + k * d.pace - n * rateUnit } }

/-- Global time (R79): the running clock plus the offset, 64 bits. -/
def Dev.global (d : Dev) : Nat := (((d.cad.now : Int) + d.cad.off) % 2 ^ 64).toNat

/-- Global time of the last tick. -/
def Dev.tickGlobal (d : Dev) : Nat := (((d.cad.tickAt : Int) + d.cad.off) % 2 ^ 64).toNat

/-- One second, one millisecond and one microsecond of global time. -/
def secQ : Nat := 4000000000
def msQ : Nat := 4000000
def usQ : Nat := 4000

/-- Position and unit of this head (R26). -/
def Dev.pos (d : Dev) : Nat := d.g F.GLB_BOOT_STATUS_POSITION
def Dev.unit (d : Dev) : Nat := d.g F.GLB_BOOT_STATUS_UNIT

/-- The lead is the head at position 0. -/
def Dev.isLead (d : Dev) : Bool := d.pos == 0

/-- The redundancy state (R437): 0 NONE, 1 DORMANT, 2 WAKING, 3 ACTIVE, 4 RELINQUISHED. -/
def Dev.redState (d : Dev) : Nat := d.g F.RED_STATE_STATE

/-- Ticks are being generated (R111). -/
def Dev.ticking (d : Dev) : Bool := d.b F.CAD_SYNC_STATE_TICKS

/-- The record of a cell port, and a change of it. -/
def Dev.port! (d : Dev) (l : Nat) : Port := mget d.port l
def Dev.portUpd (d : Dev) (l : Nat) (f : Port → Port) : Dev := { d with port := mupd d.port l f }

/-- A lane (0 to 71) is trained. -/
def Dev.laneUp (d : Dev) (i : Nat) : Bool := d.b (F.LANE_STATE_LANE_UP i)

/-! ## Blocks (R566) -/

/-- The base of the block that holds an address. -/
def blockOf (a : Nat) : Nat :=
  if a < 0x010000 then 0x000000
  else if a < 0x020000 then 0x010000
  else if a < 0x040000 then 0x020000
  else if a < 0x080000 then 0x040000
  else if a < 0x0C0000 then 0x080000
  else if a < 0x0E0000 then 0x0C0000
  else if a < 0x100000 then 0x0E0000
  else if a < 0x110000 then 0x100000
  else if a < 0x120000 then 0x110000
  else if a < 0x130000 then 0x120000
  else if a < 0x140000 then 0x130000
  else if a < 0x150000 then 0x140000
  else if a < 0x160000 then 0x150000
  else 0x160000

/-- The end of the register space (R43). -/
def busEnd : Nat := 0x170000

/-- Blocks of domain RB (R566). -/
def inRb (b : Nat) : Bool := b == 0x000000 || b == 0x010000 || b == 0x040000 || b == 0x110000

/-- The head holds an accepted configuration: the boot stage is CONFIGURED (R500, R374). -/
def Dev.confDone (d : Dev) : Bool := d.g F.GLB_BOOT_STATUS_STAGE == 7

/-- A halted head leaves HALTED by a power-on or RESET_N only (R500). -/
def Dev.halted (d : Dev) : Bool := d.g F.GLB_BOOT_STATUS_STAGE == 15

/-- The register bus reaches a block in the head's present state (R32, R501). Mark: DEDUCED, unsafe (log entry 26). -/
def Dev.served (d : Dev) (b : Nat) : Bool :=
  if d.halted then b == 0x000000 || b == 0x140000
  else if !d.confDone then
    b == 0x000000 || b == 0x010000 || b == 0x040000 || b == 0x110000 || b == 0x120000 || b == 0x130000 || b == 0x140000
  else if d.redState = 1 then b == 0x000000 || b == 0x120000 || b == 0x130000 || b == 0x140000
  else true

/-- A block has just gone off (R48): an access in progress whose block is no longer served ends with DOMAIN_OFF, even if the block comes on
again. -/
def Dev.hrpWatch (d : Dev) : Dev :=
  match d.hrp.reqs with
  | [] => d
  | r :: _ => if d.served (blockOf r.addr) then d else { d with hrp := { d.hrp with off := true } }

end Sys2Proof.Machine
end

