-- ==== Sys2Proof/Machine/Fault.lean ====
section
/-! DEFINITION. Raising a fault and requesting the Shutter: the one place where a fault's actions are applied
(R324, R329 to R344), the capture triggers that follow from them (R306), and the fault engine's record (R345 to
R347). Every other file raises faults through `Dev.raise`. -/
namespace Sys2Proof.Machine

/-! ## Capture triggers -/

/-- The converters rest from a tick until the first aperture of its window (R284). -/
def Dev.restQ (d : Dev) : Nat := d.periodQ % 400

/-- The slot of the window in progress whose code the present moment follows: apertures fall every 100 ns after the rest (R284). -/
def Dev.slotNow (d : Dev) : Nat := if d.ticking then (d.cad.now - d.cad.tickAt - d.restQ) / 400 else 0

/-- A trigger of the recorder in a slot of the window in progress, from a source (R306, R307): 0 host, 1 Shutter, 2 fault, 3 level. -/
def Dev.capTriggerIn (src slot : Nat) (d : Dev) : Dev :=
  let st := d.g F.CAP_STATE_STATE
  if st = 1 then
    let dec := d.g F.CAP_CTRL_DECIM + 1
    let m := d.cap.acc.length + (slot - d.cap.skip)
    let q := m / dec
    let pre := d.g F.CAP_CTRL_PRE
    let first := if q = 0 ∧ d.cap.acc ≠ [] then d.cap.first else (d.cad.frame, slot - m % dec)
    let d := { d with cap := { d.cap with left := q + 1 + (4095 - pre) } }
    let d := (d.p F.CAP_TRIG_FRAME_FRAME first.1).p F.CAP_TRIG_SLOT_SLOT first.2
    ((d.p F.CAP_STATE_STATE 2).p F.CAP_STATE_SOURCE src).p F.CAP_STATE_PRE_VALID
      (min (d.cap.samples.length + q) pre)
  else if 2 ≤ st ∨ src = 0 then d.inc F.CAP_IGNORED_COUNT
  else d

/-- A trigger of the recorder now. -/
def Dev.capTrigger (src : Nat) (d : Dev) : Dev := d.capTriggerIn src d.slotNow

/-! ## The Shutter -/

/-- The level of ball TRIP_OUT_N: driven low from an F4 until its reset (R328, R329). Mark: DEDUCED, safe (log entry 142). -/
def Dev.tripOut (d : Dev) : Bool := !d.b F.PROT_STATUS_TRIPPED

/-- SOURCE reasons of R127. -/
def reasonHard : Nat := 1
def reasonDc : Nat := 2
def reasonSafety : Nat := 3
def reasonHost : Nat := 4
def reasonOther : Nat := 5

/-- The claim that the head sends: 0 when its two claim registers differ (R410). Mark: DEDUCED, unsafe (log entry 52). -/
def Dev.claimSent (d : Dev) : Nat :=
  if d.g F.RED_CLAIM_CLAIM = d.claimB then d.claimB else 0

/-- Set the latches on a first request: both arms, the reason and the origin, one count (R324); and offer the
recorder its Shutter trigger (R306). -/
def Dev.latch (d : Dev) (reason origin : Nat) : Dev :=
  if d.b F.PROT_STATUS_LATCHED0 && d.b F.PROT_STATUS_LATCHED1 then d
  else
    let d := (d.pb F.PROT_STATUS_LATCHED0 true).pb F.PROT_STATUS_LATCHED1 true
    let d := (d.p F.PROT_STATUS_REASON reason).p F.PROT_STATUS_ORIGIN origin
    let d := d.inc F.PROT_SHUTTER_COUNT
    d.when (d.b F.CAP_CTRL_TRIG_SHUTTER) (Dev.capTrigger 1)

/-- Four SHUTTER ordered sets on every cell lane (R133), none from a DORMANT head (R123) or before a role is
taken. -/
def Dev.burst (d : Dev) (claim source : Nat) : Dev :=
  if d.redState ≤ 1 then d
  else (d.emit (.shutter claim source)).inc F.HCL_SHUTTER_COUNT

/-- One arm's quotas of a message. -/
def QuotaMsg.arm (q : QuotaMsg) (a : Nat) : QArm := if a = 0 then q.a0 else q.a1

/-- A Shutter request ends suppression (R250), but not the one of SUPPRESS_TIMEOUT that the lead relays: its SOURCE is that of the
lead's faults of no other reason. Mark: DEDUCED, unsafe (log entry 168). -/
def Dev.furtherStop (d : Dev) (source : Nat) : SMap Bool :=
  let stop (m : SMap Bool) (a : Nat) : SMap Bool :=
    if source = reasonOther * 32 && (d.bal.quota.arm a).suppress && d.pos != 0 then m else mset m a true
  stop (stop d.bal.suppStop 0) 1

/-- A Shutter request that reaches the link engine (R133, R323, R324), from this head or by relay: the burst,
the latch, the mark of a DC-side Shutter, the hold of a host source (R325, R327), and the relay round the ring
(R135). -/
def Dev.shutter (d : Dev) (claim source : Nat) : Dev :=
  let reason := source / 32
  let d := d.burst claim source
  let d := d.latch reason (source % 8)
  let d := d.when (reason == reasonDc) (fun d => d.pb F.PROT_STATUS_DCSIDE true)
  let d := d.when (reason == reasonHost) (fun d => d.pb F.PROT_STATUS_HOST_HELD true)
  let d := { d with prot := { d.prot with lastShutter := some d.cad.frame }, bal := { d.bal with suppStop := d.furtherStop source } }
  if d.conf.heads ≤ 1 then d else d.emit (.spanShutter claim source)

/-- A copy of a SHUTTER that this head has acted on is kept for its frame and the next one, by when the second has come round the ring
(R29). Mark: DESIGN CHOICE, unsafe (log entry 161). -/
def Dev.copied (d : Dev) (c : ShutCopy) : Dev :=
  if d.conf.heads ≤ 1 then d
  else
    let recent := d.prot.copies.filter (fun x => x.frame == d.cad.frame || frameAdd x.frame 1 == d.cad.frame)
    { d with prot := { d.prot with copies := recent ++ [c] } }

/-- A Shutter request of this head itself. -/
def Dev.shutterOwn (d : Dev) (reason : Nat) : Dev :=
  (d.shutter d.claimSent (reason * 32 + d.pos)).copied ⟨d.claimSent, reason * 32 + d.pos, none, d.cad.frame⟩

/-! ## Causes and status -/

/-- HOLD, WARN and DERATE follow the causes present (R325, R329, R576); an F4 holds HOLD until its reset. -/
def Dev.protStatus (d : Dev) : Dev :=
  let cs := d.prot.causes
  let d := d.pb F.PROT_STATUS_HOLD (d.b F.PROT_STATUS_TRIPPED || cs.any (fun c => c.cls == 3))
  let d := d.pb F.PROT_STATUS_WARN (cs.any (fun c => c.cls == 1))
  d.pb F.PROT_STATUS_DERATE (cs.any (fun c => c.derate))

/-- A fault that a DORMANT head keeps for its next wake has passed: there it is recorded as an event (R438, R576). -/
def Red.passed (r : Red) (p : Raise → Bool) : Red :=
  { r with deferred := r.deferred.map (fun x => if p x then { x with event := true } else x) }

/-- A cause ends. -/
def Dev.endCause (d : Dev) (src detail : Nat) : Dev :=
  let cs := d.prot.causes.filter (fun c => !(c.src == src && c.detail == detail))
  { d with prot := { d.prot with causes := cs }, red := d.red.passed (fun r => r.src == src && r.detail == detail) }.protStatus

/-- Every cause of a source ends. -/
def Dev.endSource (d : Dev) (src : Nat) : Dev :=
  { d with prot := { d.prot with causes := d.prot.causes.filter (fun c => c.src != src) },
           red := d.red.passed (fun r => r.src == src) }.protStatus

/-- Is a cause of a source present for a detail? Mark: DEDUCED, unsafe (log entry 87). -/
def Dev.hasCause (d : Dev) (src detail : Nat) : Bool :=
  d.prot.causes.any (fun c => c.src == src && c.detail == detail)

/-! ## Fault queues -/

/-- The queue of a source (R344). The protection sources that the table does not place (HOST_SHUTTER,
RESTART_LIMIT) go with the comparators. Mark: DEDUCED, unsafe (log entry 82). -/
def queueOf (src : Nat) : Nat :=
  let hi := src / 256
  if hi = 2 then 1
  else if hi = 1 then 2
  else if hi = 3 then 3
  else if hi = 4 then 4
  else if hi = 5 ∨ hi = 7 then 5
  else if hi = 8 ∨ hi = 9 then 6
  else if hi = 10 ∨ hi = 11 then 7
  else if src = 0x0610 then 6
  else if (0x0606 ≤ src ∧ src ≤ 0x060E) ∨ src = 0x0612 then 1
  else 0

/-- Queue the record of a fault; a full queue loses it (R344). -/
def Dev.enqueue (d : Dev) (e : FqEntry) : Dev :=
  let q := queueOf e.src
  let es := mget d.prot.fq q
  if es.length < 8 then { d with prot := { d.prot with fq := mset d.prot.fq q (es ++ [e]) } }
  else d.inc F.PROT_QUEUE_LOST_COUNT

/-! ## Raising a fault -/

/-- The action bits that a class brings (R329, R345). -/
def classActs (cls : Nat) : Nat := if cls = 3 then 0x101 else if cls = 4 then 0x103 else 0

/-- Raise a fault outside DORMANT: count it, note its cause, apply its actions at once (the Shutter of F3 and F4, the trip of
F4), offer the recorder its fault trigger, and queue the record (R329, R344). -/
def Dev.raiseNow (d : Dev) (r : Raise) : Dev :=
  let d := d.inc (F.PROT_CLASS_COUNT r.cls)
  let c : Cause := ⟨r.src, r.detail, r.cls, if r.event then some d.cad.frame else none, r.derate⟩
  let cs := d.prot.causes.filter (fun x => !(x.src == r.src && x.detail == r.detail && x.cls == r.cls))
  let d := { d with prot := { d.prot with causes := cs ++ [c] } }
  let d := d.when (decide (3 ≤ r.cls)) (fun d => d.shutterOwn r.reason)
  let d := d.when (r.cls == 4) (fun d => d.pb F.PROT_STATUS_TRIPPED true)
  let d := d.when (decide (3 ≤ r.cls)) (fun d => { d with prot := { d.prot with holdSeen := true } })
  let d := d.protStatus
  let d := d.when (d.b F.CAP_CTRL_TRIG_FAULT && decide (d.g F.CAP_CTRL_FAULT_CLASS ≤ r.cls)) (Dev.capTrigger 2)
  d.enqueue { src := r.src, cls := r.cls, detail := r.detail % 256, arms := r.arms,
              acts := classActs r.cls ||| r.extra ||| (if r.derate then 0x20 else 0), value := r.value,
              frame := d.cad.frame, epoch := d.cad.epoch, time := d.global, again := r.again }

/-- Raise a fault. A DORMANT head raises none: it is recorded at the next wake (R416, R438). Mark: DEDUCED, unsafe (log entry 93). -/
def Dev.raise (d : Dev) (r : Raise) : Dev :=
  if d.redState = 1 then { d with red := { d.red with deferred := d.red.deferred ++ [r] } }
  else d.raiseNow r

/-! ## The fault engine -/

/-- The first queue that holds an entry, from queue `q` on, in turn. -/
def nextQueue (fq : SMap (List FqEntry)) (q : Nat) : Option Nat :=
  (List.range 8).map (fun i => (q + i) % 8) |>.find? (fun i => !(mget fq i).isEmpty)

/-- The slot to write: the write index, or the next unpinned slot (R346). -/
def ringSlot (ring : SMap (Option FaultRec)) (i : Nat) : Nat :=
  (((List.range 256).map (fun k => (i + k) % 256)).find? (fun k =>
    match mget ring k with
    | some r => !r.pinned
    | none => true)).getD i

/-- Records that are pinned (R347). -/
def pinnedCount (ring : SMap (Option FaultRec)) : Nat :=
  (ring.filter (fun e => match e.2 with | some r => r.pinned | none => false)).length

/-- The highest class in handling. -/
def topClass (hs : List Handling) : Nat := hs.foldl (fun m h => max m h.cls) 0

/-- The SEQ of the earliest fault in handling of the highest class. -/
def parentOf (hs : List Handling) : Nat :=
  ((hs.find? (fun h => h.cls == topClass hs)).map Handling.seq).getD 0

/-- The record of an entry under the faults in handling (R330 to R332, R340, R345, R347): a cause that returns under its BLOCK action is
merged with the fault that called for it. Mark: DEDUCED, unsafe (log entry 172). -/
def mkRecord (d : Dev) (e : FqEntry) : FaultRec :=
  let hs := d.prot.handling
  let merged := e.again && hs.isEmpty || !hs.isEmpty && decide (e.cls ≤ topClass hs)
  let first := (((d.port! e.detail).blocks.find? (fun a => a.src == e.src)).map CellAct.seq).getD 0
  let pre := !hs.isEmpty && decide (topClass hs < e.cls)
  { seq := d.prot.seq, frame := e.frame, epoch := e.epoch, cls := e.cls,
    pinned := decide (3 ≤ e.cls) && decide (pinnedCount d.prot.ring < 32),
    merged := merged, preempt := pre, src := e.src, detail := e.detail, arms := e.arms,
    acts := e.acts ||| (if pre && topClass hs == 3 then 0x80 else 0),
    value := e.value, time := e.time % 2 ^ 32,
    parent := if !hs.isEmpty then parentOf hs else if e.again then first else 0, logged := false }

/-- Write a record to the ring (R346, R347): the slot, the overflow count, the count of records lost to the
flash log and LOG_MISSED (R531), the pin count. Mark: DEDUCED, unsafe (log entry 147). -/
def Dev.writeRecord (d : Dev) (r : FaultRec) : Dev :=
  let slot := ringSlot d.prot.ring d.prot.ringIdx
  let old := mget d.prot.ring slot
  let d := d.when old.isSome (fun d => d.inc F.PROT_RING_OVERFLOW_COUNT)
  let d := d.when (match old with | some o => !o.logged | none => false) (fun d =>
    let d := d.inc F.SVC_LOG_MISSED_COUNT
    d.when (!d.hasCause 0x0B12 0) (fun d => d.raise { src := 0x0B12, cls := 1 }))
  let d := d.when (decide (3 ≤ r.cls) && !r.pinned) (fun d => d.inc F.PROT_PIN_FULL_COUNT)
  { d with prot := { d.prot with ring := mset d.prot.ring slot (some r), ringIdx := (slot + 1) % 256,
                                 seq := (d.prot.seq + 1) % 2 ^ 32 } }

/-- The BLOCK action of a cell knows the record that called for it (R340). -/
def Dev.noteBlock (d : Dev) (e : FqEntry) (seq : Nat) : Dev :=
  if e.cls = 2 ∧ e.again = false then
    d.portUpd e.detail (fun p => { p with blocks := p.blocks.map (fun a => if a.src = e.src then { a with seq := seq } else a) })
  else d

/-- Does a fault just recorded enter handling? An F0 or F1 does only while its own frame lasts (R329).
Mark: DEDUCED, unsafe (log entry 84). -/
def entersHandling (d : Dev) (e : FqEntry) : Bool := decide (2 ≤ e.cls) || e.frame == d.cad.frame

/-- The fault engine takes one entry (R344): the record is written, and the fault merges, pre-empts or starts a
handling. Answers the record written, if any. -/
def Dev.engineTake (d : Dev) : Option FaultRec × Dev :=
  match nextQueue d.prot.fq d.prot.fqNext with
  | none => (none, d)
  | some q =>
    match mget d.prot.fq q with
    | [] => (none, d)
    | e :: rest =>
      let r := mkRecord d e
      let d := d.when r.merged (fun d => d.inc F.PROT_MERGE_COUNT)
      let d := d.when r.preempt (fun d => d.inc F.PROT_PREEMPT_COUNT)
      let hs := if r.preempt then [] else d.prot.handling
      let hs := if entersHandling d e then hs ++ [⟨r.seq, r.cls, e.frame⟩] else hs
      let d := { d with prot := { d.prot with fq := mset d.prot.fq q rest, fqNext := (q + 1) % 8,
                                              handling := hs } }
      (some r, (d.noteBlock e r.seq).writeRecord r)

/-- The words of a record (R345). -/
def recordWords (d : Dev) (r : FaultRec) : List Nat :=
  [r.seq, r.frame,
   r.epoch + r.cls * 2 ^ 16 + bit r.pinned * 2 ^ 19 + bit r.merged * 2 ^ 20 + bit r.preempt * 2 ^ 21
     + d.pos * 2 ^ 24 + d.unit * 2 ^ 27,
   r.src + r.detail * 2 ^ 16 + r.arms * 2 ^ 24, r.acts, r.value, r.time, r.parent]

/-- The handlings that end with the frame in which their fault was raised (R329). A Shutter request many frames old no longer counts
for a release (R326). -/
def Dev.endNotes (d : Dev) : Dev :=
  { d with prot := { d.prot with
      lastShutter := d.prot.lastShutter.filter (fun f => decide ((d.cad.frame + 2 ^ 32 - f) % 2 ^ 32 < 2 ^ 16)),
      handling := d.prot.handling.filter (fun h => decide (2 ≤ h.cls) || h.frame == d.cad.frame),
      causes := d.prot.causes.filter (fun c => match c.event with | some f => f == d.cad.frame | none => true) } }.protStatus

/-! ## Cell actions -/

/-- The arms of a lane, as a mask (R230: 0 arm 0, 1 arm 1, 3 none). -/
def Dev.armMask (d : Dev) (l : Nat) : Nat :=
  if d.g (F.armOfLane l) = 0 then 1 else if d.g (F.armOfLane l) = 1 then 2 else 0

/-- A SUSPECT action of protection on a cell (R343). -/
def Dev.actSuspect (d : Dev) (l src : Nat) : Dev :=
  d.portUpd l (fun p => { p with suspects := p.suspects.filter (fun a => a.src != src) ++ [⟨src, 0, 0⟩] })

/-- A BLOCK action holds a cell for a source (R340). -/
def Dev.blockedBy (d : Dev) (l src : Nat) : Bool := (d.port! l).blocks.any (fun a => a.src == src)

/-- A BLOCK action on a cell (R340); one that holds already begins to count its frames anew. -/
def Dev.actBlock (d : Dev) (l src : Nat) : Dev :=
  if d.blockedBy l src then
    d.portUpd l (fun p => { p with blocks := p.blocks.map (fun a => if a.src = src then { a with good := 0 } else a) })
  else d.portUpd l (fun p => { p with blocks := p.blocks ++ [⟨src, 0, 0⟩] })

/-- The bypass bit of a lane. -/
def Dev.bypassed (d : Dev) (l : Nat) : Bool :=
  if l < 32 then (d.g F.PROT_BYPASS_LO_MASK).testBit l else (d.g F.PROT_BYPASS_HI_MASK).testBit (l - 32)

/-- A BYPASS action on a cell (R341). -/
def Dev.actBypass (d : Dev) (l : Nat) : Dev :=
  let d := if l < 32 then d.p F.PROT_BYPASS_LO_MASK (setBit (d.g F.PROT_BYPASS_LO_MASK) l)
    else d.p F.PROT_BYPASS_HI_MASK (setBit (d.g F.PROT_BYPASS_HI_MASK) (l - 32))
  d.inc F.PROT_BYPASS_COUNT

/-- An F2 fault marked SUSPECT, with the lane in DETAIL and its last accepted VCAP in VALUE (R339, R343). -/
def Dev.raiseSuspect (d : Dev) (src l : Nat) : Dev :=
  (d.raise { src := src, cls := 2, detail := l, arms := d.armMask l, value := d.g (F.HCL_PORT_VCAP_VCAP l),
             extra := 0x10 }).actSuspect l src

end Sys2Proof.Machine
end

