-- ==== Sys2Proof/Machine/Crc.lean ====
section
/-! DEFINITION. The cyclic redundancy checks of the links: CRC-8 of the host port, ordered sets and span messages
(R41, R118), CRC-32 of frames, bulk segments and records (R118), CRC-32C where a chapter names it; and bytes to
numbers and back, most significant byte first (R114). -/
namespace Sys2Proof.Machine

/-- One bit of a CRC that shifts left: the register, its width, the polynomial. -/
def crcBitL (w poly r : Nat) : Nat :=
  if r.testBit (w - 1) then (2 * r % 2 ^ w) ^^^ poly else 2 * r % 2 ^ w

def iterBits (f : Nat → Nat) : Nat → Nat → Nat
  | 0, r => r
  | n + 1, r => iterBits f n (f r)

/-- CRC-8 of R41: polynomial 0x2F, initial value 0xFF, not reflected, no final XOR. -/
def crc8From (init : Nat) (bs : List Byte) : Nat :=
  bs.foldl (fun r b => iterBits (crcBitL 8 0x2F) 8 (r ^^^ b.toNat)) init

def crc8 (bs : List Byte) : Nat := crc8From 0xFF bs

/-- One bit of a reflected CRC: shifts right under the reflected polynomial. -/
def crcBitR (poly r : Nat) : Nat := if r % 2 = 1 then (r / 2) ^^^ poly else r / 2

def crcReflected (poly : Nat) (bs : List Byte) : Nat :=
  (bs.foldl (fun r b => iterBits (crcBitR poly) 8 (r ^^^ b.toNat)) 0xFFFFFFFF) ^^^ 0xFFFFFFFF

/-- CRC-32 of IEEE 802.3 (R118). -/
def crc32 (bs : List Byte) : Nat := crcReflected 0xEDB88320 bs

/-- CRC-32C (Castagnoli), reflected. -/
def crc32c (bs : List Byte) : Nat := crcReflected 0x82F63B78 bs

/-- The low `n` bytes of a number, most significant first. -/
def be : Nat → Nat → List Byte
  | 0, _ => []
  | n + 1, v => BitVec.ofNat 8 (v / 256 ^ n) :: be n v

/-- Bytes as a number, most significant first. -/
def ofBe (bs : List Byte) : Nat := bs.foldl (fun a b => a * 256 + b.toNat) 0

/-- The big-endian number in `n` bytes from an offset. -/
def beAt (bs : List Byte) (off n : Nat) : Nat := ofBe ((bs.drop off).take n)

end Sys2Proof.Machine
end

