-- ==== Sys2Proof/Machine/Line.lean ====
section
/-! DEFINITION. The line coding of a lane (R113 to R117, R127, R440): frames and ordered sets as the characters of 8b/10b or the blocks
of 64b/66b, what a receiver reads back out of them, and the line bits that either code gives them. -/
namespace Sys2Proof.Machine

/-- A character of 8b/10b (R115): the two control characters that are used, a data character, or one that is invalid. -/
inductive LChar where
  | k285
  | k277
  | data (b : Byte)
  | bad
  deriving DecidableEq, Repr

/-- A block of 64b/66b (R116): a data block of eight bytes, a control block of eight bytes, or one whose sync header is invalid. -/
inductive LBlock where
  | data (bytes : List Byte)
  | ctrl (bytes : List Byte)
  | bad
  deriving DecidableEq, Repr

/-- What passes on a lane, in the coding of its rate (R113). -/
inductive Line where
  | chars (cs : List LChar)
  | blocks (bs : List LBlock)
  deriving DecidableEq, Repr

/-- What passes on a lane, with the lane. -/
structure LaneLine where
  ln : Nat
  line : Line
  deriving DecidableEq, Repr

/-! ## Ordered sets and their lengths (R127) -/

def osIdle : Nat := 0x00
def osShutter : Nat := 0xE1
def osProbe : Nat := 0x2D
def osEcho : Nat := 0x4B
def osTrain : Nat := 0x78

/-- The content bytes of an ordered set, its CRC-8 among them; none where the type byte is not in the table. -/
def contentBytes (ty : Nat) : Option Nat :=
  if ty = osIdle then some 0
  else if ty = osShutter then some 6
  else if ty = osProbe then some 8
  else if ty = osEcho then some 13
  else if ty = osTrain then some 6
  else none

/-- The bytes of an ordered set's content with its CRC-8, which covers the type byte too (R118). -/
def sealOrdered (ty : Nat) (content : List Byte) : List Byte :=
  content ++ be 1 (crc8 (be 1 ty ++ content))

/-- A content passes its CRC-8 (R129). -/
def orderedOk (ty : Nat) (content : List Byte) : Bool :=
  match content.getLast? with
  | none => false
  | some c => crc8 (be 1 ty ++ content.dropLast) == c.toNat

/-! ## Sending (R115, R116) -/

/-- Zeros after a list of bytes up to a length. -/
def fillTo (n : Nat) (bs : List Byte) : List Byte := bs ++ List.replicate (n - bs.length) 0

/-- Bytes in blocks of eight, the last one filled with zeros. -/
def eights : Nat → List Byte → List (List Byte)
  | 0, _ => []
  | n + 1, bs => fillTo 8 (bs.take 8) :: eights n (bs.drop 8)

/-- A frame: K27.7 and its data characters, or a run of data blocks. -/
def frameLine (rate : Nat) (bytes : List Byte) : Line :=
  if rate < 3 then .chars (.k277 :: bytes.map .data)
  else .blocks ((eights ((bytes.length + 7) / 8) bytes).map .data)

/-- An ordered set: K28.5, its type byte and its content; or the control block 0xD2 with content bytes 0 to 5 and, where the type needs
it, the control block 0xD3 with content bytes 6 to 12. Unused content bytes are zero. -/
def setLine (rate ty : Nat) (content : List Byte) : Line :=
  if rate < 3 then .chars (.k285 :: .data (BitVec.ofNat 8 ty) :: content.map .data)
  else
    let first := LBlock.ctrl (0xD2 :: BitVec.ofNat 8 ty :: fillTo 6 (content.take 6))
    .blocks (if content.length ≤ 6 then [first] else [first, .ctrl (0xD3 :: fillTo 7 (content.drop 6))])

def idleLine (rate : Nat) : Line := setLine rate osIdle []

/-- One thing after another on the line. -/
def Line.then (a b : Line) : Line :=
  match a, b with
  | .chars x, .chars y => .chars (x ++ y)
  | .blocks x, .blocks y => .blocks (x ++ y)
  | x, _ => x

/-! ## Receiving (R115 to R117) -/

/-- What a receiver reads: a run of frame bytes that an ordered set ended, an ordered set, or what is neither. -/
inductive Got where
  | run (bytes : List Byte)
  | ordered (ty : Nat) (content : List Byte)
  | malformed
  deriving DecidableEq, Repr

/-- The leading data characters, and what follows them. -/
def dataChars : List LChar → List Byte × List LChar
  | .data b :: r => let x := dataChars r; (b :: x.1, x.2)
  | r => ([], r)

/-- The bytes of the leading data blocks, and what follows them. -/
def dataBlocks : List LBlock → List Byte × List LBlock
  | .data b :: r => let x := dataBlocks r; (b ++ x.1, x.2)
  | r => ([], r)

def readChars : List LChar → Got
  | .k277 :: r =>
    match dataChars r with
    | (bytes, .k285 :: _) => .run bytes
    | _ => .malformed
  | .k285 :: .data ty :: r =>
    let bytes := (dataChars r).1
    .ordered ty.toNat (bytes.take ((contentBytes ty.toNat).getD bytes.length))
  | _ => .malformed

def readBlocks : List LBlock → Got
  | .ctrl (h :: ty :: c) :: r =>
    if h = 0xD2 then
      let n := (contentBytes ty.toNat).getD 6
      let more := match r with
        | .ctrl (g :: c') :: _ => if g = 0xD3 then c' else []
        | _ => []
      .ordered ty.toNat ((c ++ (if 6 < n then more else [])).take n)
    else .malformed
  | bs =>
    match dataBlocks bs with
    | (b :: bytes, .ctrl _ :: _) => .run (b :: bytes)
    | _ => .malformed

/-- What the receiver of a lane at a rate reads; a line in the other coding is no run and no ordered set of its own. -/
def Line.read (rate : Nat) (x : Line) : Got :=
  match x with
  | .chars cs => if rate < 3 then readChars cs else .malformed
  | .blocks bs => if rate < 3 then .malformed else readBlocks bs

/-- The invalid characters and sync headers (R451). -/
def Line.bads (x : Line) : Nat :=
  match x with
  | .chars cs => (cs.filter (fun c => c == .bad)).length
  | .blocks bs => (bs.filter (fun b => b == .bad)).length

/-! ## The 8b/10b code with running disparity (R113) -/

/-- The 5b/6b code at negative running disparity, bits abcdei. Mark: PRESUMED, safe (log entry 164). -/
def code6 (x : Nat) : Nat :=
  ([0b100111, 0b011101, 0b101101, 0b110001, 0b110101, 0b101001, 0b011001, 0b111000,
    0b111001, 0b100101, 0b010101, 0b110100, 0b001101, 0b101100, 0b011100, 0b010111,
    0b011011, 0b100011, 0b010011, 0b110010, 0b001011, 0b101010, 0b011010, 0b111010,
    0b110011, 0b100110, 0b010110, 0b110110, 0b001110, 0b101110, 0b011110, 0b101011][x]?).getD 0

/-- The 3b/4b code at negative running disparity, bits fghj. -/
def code4 (y : Nat) : Nat := ([0b1011, 0b1001, 0b0101, 0b1100, 0b1101, 0b1010, 0b0110, 0b1110][y]?).getD 0

/-- The 3b/4b code of control characters at negative running disparity. -/
def code4k (y : Nat) : Nat := ([0b1011, 0b0110, 0b1010, 0b1100, 0b1101, 0b0101, 0b1001, 0b0111][y]?).getD 0

/-- The ones among the low bits of a number. -/
def ones (n v : Nat) : Nat := ((List.range n).filter (fun i => v.testBit i)).length

/-- A six-bit group at running disparity `rd` (true is positive), and the disparity after it. -/
def send6 (c : Nat) (rd : Bool) : Nat × Bool :=
  let flip := ones 6 c != 3 || c == 0b111000
  (if rd && flip then 63 - c else c, if ones 6 c = 3 then rd else !rd)

/-- A four-bit group at running disparity `rd`. -/
def send4 (c : Nat) (k rd : Bool) : Nat × Bool :=
  let flip := ones 4 c != 2 || c == 0b1100 || k
  (if rd && flip then 15 - c else c, if ones 4 c = 2 then rd else !rd)

/-- One character as ten line bits, a first, and the running disparity after it. The alternate code of x.7 keeps a run short. -/
def char10 (k : Bool) (b : Byte) (rd : Bool) : Nat × Bool :=
  let x := b.toNat % 32
  let y := b.toNat / 32
  let six := send6 (if k && x == 28 then 0b001111 else code6 x) rd
  let alt := y == 7 && ((!six.2 && (x == 17 || x == 18 || x == 20)) || (six.2 && (x == 11 || x == 13 || x == 14)))
  let four := send4 (if k then code4k y else if alt then 0b0111 else code4 y) k six.2
  (six.1 * 16 + four.1, four.2)

/-- The line bits of characters from a running disparity: ten each. -/
def charBits : Bool → List LChar → List Nat
  | _, [] => []
  | rd, c :: r =>
    let x := match c with
      | .k285 => char10 true 0xBC rd
      | .k277 => char10 true 0xFB rd
      | .data b => char10 false b rd
      | .bad => (0, rd)
    x.1 :: charBits x.2 r

/-- The character that ten line bits are at a running disparity, and the disparity after it (R113, R451). -/
def readChar (rd : Bool) (w : Nat) : LChar × Bool :=
  if (char10 true 0xBC rd).1 = w then (.k285, (char10 true 0xBC rd).2)
  else if (char10 true 0xFB rd).1 = w then (.k277, (char10 true 0xFB rd).2)
  else match (List.range 256).find? (fun b => (char10 false (BitVec.ofNat 8 b) rd).1 == w) with
    | some b => (.data (BitVec.ofNat 8 b), (char10 false (BitVec.ofNat 8 b) rd).2)
    | none => (.bad, if ones 10 w = 5 then rd else decide (5 < ones 10 w))

def readBits : Bool → List Nat → List LChar
  | _, [] => []
  | rd, w :: r => let x := readChar rd w; x.1 :: readBits x.2 r

/-! ## The 64b/66b code with its scrambler (R113) -/

/-- One payload bit through the scrambler x^58 + x^39 + 1, whose state holds the last 58 bits sent, the newest in bit 0. -/
def scrambleBit (st : Nat) (b : Bool) : Bool × Nat :=
  let o := (b != st.testBit 38) != st.testBit 57
  (o, (2 * st + (if o then 1 else 0)) % 2 ^ 58)

/-- The same for a receiver: what it received is what its state holds. -/
def descrambleBit (st : Nat) (o : Bool) : Bool × Nat :=
  ((o != st.testBit 38) != st.testBit 57, (2 * st + (if o then 1 else 0)) % 2 ^ 58)

def throughBits (f : Nat → Bool → Bool × Nat) : Nat → List Bool → List Bool × Nat
  | st, [] => ([], st)
  | st, b :: r =>
    let x := f st b
    let y := throughBits f x.2 r
    (x.1 :: y.1, y.2)

/-- The bits of bytes, each least significant bit first. -/
def byteBits (bs : List Byte) : List Bool := bs.flatMap (fun b => (List.range 8).map (fun i => b.toNat.testBit i))

/-- The line bits of blocks from a scrambler state: the sync header, 0b01 or 0b10, and the scrambled payload. -/
def blockBits : Nat → List LBlock → List Bool
  | _, [] => []
  | st, b :: r =>
    let h := match b with
      | .data _ => [false, true]
      | .ctrl _ => [true, false]
      | .bad => [false, false]
    let p := match b with
      | .data x => x
      | .ctrl x => x
      | .bad => List.replicate 8 0
    let y := throughBits scrambleBit st (byteBits p)
    h ++ y.1 ++ blockBits y.2 r

/-- The number of line bits that a line takes (R101, R127). -/
def Line.bitCount (x : Line) : Nat :=
  match x with
  | .chars cs => 10 * cs.length
  | .blocks bs => 66 * bs.length

end Sys2Proof.Machine
end

