-- ==== Sys2Proof/Machine/Cadence.lean ====
section
/-! DEFINITION. Cadence (chapter *Cadence: time base, frames and the frame budget*): the station PPS and its
discipline loop, the delay probes of every lane, alignment, and the frame budget. -/
namespace Sys2Proof.Machine

/-! ## Time of day and PPS -/

/-- A write of 1 to ARM in CAD_TOD_ARM (R81): arms the load, or refuses it. -/
def Dev.todArm (d : Dev) : Dev :=
  if d.b F.CAD_TOD_ARM_ARM then d
  else
    let v : Nat := d.g F.CAD_TOD_LOAD_HI_TOD * 2 ^ 32 + d.g F.CAD_TOD_LOAD_LO_TOD
    if d.isLead && v % secQ == 0 then d.pb F.CAD_TOD_ARM_ARM true
    else d.inc F.CAD_TOD_REJECT_COUNT

/-- The phase error of an edge at global time `g`: `g` less the nearest whole second. Exactly half a second lies
as near to either; which is taken is left free. -/
def phaseError (g : Nat) : Int :=
  let r : Int := ((g % secQ : Nat) : Int)
  if 2 * r < secQ then r
  else if (secQ : Int) < 2 * r then r - secQ
  else if Config.roundUp r secQ then r - secQ else r

/-- A rate correction goes in force, given 64 times over; the register shows r (R84). -/
def Dev.setRate (d : Dev) (r64 : Int) : Dev := { d with cad := { d.cad with rate := r64 } }.ps F.CAD_RATE_ADJ_RATE (qdiv r64 64)

/-- The rate update of R84 on an accepted edge; `rInt` holds 64 times r_int. -/
def Dev.rateUpdate (d : Dev) (e : Int) : Dev :=
  let lim : Int := 100000000 * 64
  let ri := clampInt (d.cad.rInt - 1000 * e) (-lim) lim
  let r := clampInt (ri - 8000 * e) (-lim) lim
  { d with cad := { d.cad with rInt := ri } }.setRate r

/-- The time that CAD_TOD_LOAD holds. -/
def Dev.todValue (d : Dev) : Nat := d.g F.CAD_TOD_LOAD_HI_TOD * 2 ^ 32 + d.g F.CAD_TOD_LOAD_LO_TOD

/-- The load of R81 at a PPS edge: global time is set at the edge, the state enters ACQUIRE. Under TICK_ALIGN 1 it
places T0 at the first whole second after it (R96). -/
def Dev.todLoad (d : Dev) : Dev :=
  let v := d.todValue
  let ri := if d.g F.CAD_SYNC_STATE_STATE = 0 then 0 else d.cad.rInt
  let d := { d with cad := { d.cad with off := (v : Int) - (d.cad.now : Int), rInt := ri,
                                        accepted := some d.cad.now, lastEdge := some d.cad.now,
                                        runLen := 1, tight := 0, loose := 0 } }
  let d := ((d.pb F.CAD_TOD_ARM_ARM false).p F.CAD_SYNC_STATE_STATE 1).inc F.CAD_STEP_COUNT
  if d.b F.CAD_CONFIG_TICK_ALIGN && !d.cad.t0Set then
    { d with cad := { d.cad with t0Set := true, started := false, tickAt := d.cad.now + secQ } }
  else d

/-- Is an edge accepted (R83)? `run` is the length of the run of edges 1 s apart that this edge makes.
Mark: DEDUCED, unsafe (log entry 40); DEDUCED, unsafe (log entry 156). -/
def Dev.ppsAccepts (d : Dev) (e : Int) (run : Nat) : Bool :=
  match d.g F.CAD_SYNC_STATE_STATE with
  | 1 => match d.cad.accepted with
    | none => true
    | some a => decide (a + 3996000000 ≤ d.cad.now)
  | 2 => decide (e.natAbs ≤ d.g F.CAD_PPS_WINDOW_WINDOW)
  | 3 => decide (3 ≤ run)
  | 4 => decide (3 ≤ run)
  | _ => false

/-- An accepted edge (R83 to R85): counted, the loop updated, HOLDOVER and UNQUALIFIED left for ACQUIRE. -/
def Dev.ppsAccept (d : Dev) (e : Int) : Dev :=
  let st := d.g F.CAD_SYNC_STATE_STATE
  let d := (d.inc F.CAD_PPS_COUNT).rateUpdate e
  let tight := if st = 1 ∧ e.natAbs ≤ 400 then d.cad.tight + 1 else 0
  let loose := if st = 2 ∧ 4000 < e.natAbs then d.cad.loose + 1 else 0
  let d := { d with cad := { d.cad with accepted := some d.cad.now, tight := tight, loose := loose } }
  d.when (decide (3 ≤ st)) (fun d => d.p F.CAD_SYNC_STATE_STATE 1)

/-- The configured edge of STN_PPS at time `t` (R83): on the lead a pending load applies, or is refused where the value is no whole
second any more (R81), or the edge is accepted or rejected; another head only shows its phase error (R88).
Mark: DEDUCED, unsafe (log entry 39); DEDUCED, unsafe (log entry 158). -/
def Dev.ppsEdge (t : Nat) (d : Dev) : Dev :=
  if !d.b F.CAD_CONFIG_PPS_EN then d
  else
    let d := d.at t
    let whole := d.todValue % secQ == 0
    let d := d.when (d.isLead && d.b F.CAD_TOD_ARM_ARM && !whole) (fun d => (d.pb F.CAD_TOD_ARM_ARM false).inc F.CAD_TOD_REJECT_COUNT)
    if d.isLead && d.b F.CAD_TOD_ARM_ARM then
      let d := d.todLoad
      d.ps F.CAD_PPS_ERROR_ERROR (phaseError d.global)
    else
      let e := phaseError d.global
      let run := match d.cad.lastEdge with
        | none => 1
        | some a => if a + 3996000000 ≤ d.cad.now ∧ d.cad.now ≤ a + 4004000000 then d.cad.runLen + 1 else 1
      let ok := d.ppsAccepts e run
      let d := { d with cad := { d.cad with lastEdge := some d.cad.now, runLen := run } }
      let d := d.ps F.CAD_PPS_ERROR_ERROR e
      if !d.isLead then d
      else if ok then d.ppsAccept e
      else d.inc F.CAD_PPS_REJECT_COUNT

/-- Four accepted edges within 100 ns: ACQUIRE to LOCKED (R85). Only the lead disciplines to PPS (R88), here and below. -/
def Dev.ppsLocked (d : Dev) : Dev :=
  if d.isLead = true ∧ d.g F.CAD_SYNC_STATE_STATE = 1 ∧ 4 ≤ d.cad.tight then
    { d with cad := { d.cad with tight := 0, loose := 0 } }.p F.CAD_SYNC_STATE_STATE 2
  else d

/-- Three accepted edges beyond 1 us: LOCKED to ACQUIRE, F1 (R85). -/
def Dev.ppsLockLost (d : Dev) : Dev :=
  if d.isLead = true ∧ d.g F.CAD_SYNC_STATE_STATE = 2 ∧ 3 ≤ d.cad.loose then
    ({ d with cad := { d.cad with tight := 0, loose := 0 } }.p F.CAD_SYNC_STATE_STATE 1).raise
      { src := 0x0107, cls := 1 }
  else d

/-- No accepted edge for 2.5 s: HOLDOVER, with r frozen at r_int (R84, R85). -/
def Dev.holdover (t : Nat) (d : Dev) : Dev :=
  let d := d.at t
  let st := d.g F.CAD_SYNC_STATE_STATE
  if d.isLead = true ∧ (st = 1 ∨ st = 2) ∧ d.cad.accepted.getD 0 + 10000000000 ≤ d.cad.now then
    let d := { d with cad := { d.cad with holdSince := d.cad.now, tight := 0, loose := 0 } }
    (d.p F.CAD_SYNC_STATE_STATE 3).setRate d.cad.rInt
  else d

/-- CAD_HOLDOVER_LIMIT seconds in HOLDOVER: UNQUALIFIED, F1 (R85). -/
def Dev.holdoverLimit (t : Nat) (d : Dev) : Dev :=
  let d := d.at t
  if d.isLead = true ∧ d.g F.CAD_SYNC_STATE_STATE = 3 ∧
     d.cad.holdSince + d.g F.CAD_HOLDOVER_LIMIT_SECONDS * secQ ≤ d.cad.now then
    (d.p F.CAD_SYNC_STATE_STATE 4).raise { src := 0x0108, cls := 1 }
  else d

/-! ## Rate terms (R101), in ns by rate code: 0 1.25, 1 2.5, 2 5.0, 3 10.3125 Gb/s -/

def byRate (r a b c e : Nat) : Nat := if r = 0 then a else if r = 1 then b else if r = 2 then c else e
def sUsf (r : Nat) : Nat := byRate r 520 260 130 52
def sDsf (r : Nat) : Nat := byRate r 776 388 194 77
def lHtx (r : Nat) : Nat := byRate r 50 30 20 18
def lHrx (r : Nat) : Nat := byRate r 70 40 26 18
def lCtx (r : Nat) : Nat := byRate r 60 40 30 20
/-- Mark: DEDUCED, unsafe (log entry 137). -/
def lCrx (r : Nat) : Nat := byRate r 55 35 20 15
def rateFloor (r : Nat) : Nat := byRate r 3000 1500 1000 1000
def spanHop (r : Nat) : Nat := byRate r 260 140 80 40
def spanK (r : Nat) : Nat := byRate r 1920 960 480 200

/-- The cell lanes that are enabled (R151). -/
def Dev.enabledLanes (d : Dev) : List Nat := (List.range 64).filter (fun l => d.b (F.HCL_PORT_CTRL_ENABLE l))

/-! ## Delay probes -/

/-- The probe record of a lane, and a change of it. -/
def Dev.probeOf (d : Dev) (i : Nat) : Probe := mget d.cad.probe i
def Dev.probeUpd (d : Dev) (i : Nat) (f : Probe → Probe) : Dev :=
  { d with cad := { d.cad with probe := mupd d.cad.probe i f } }

def sumInt (xs : List Int) : Int := xs.foldl (· + ·) 0

/-- Units of `Budget` in one of 250 ps: half of a mean over up to 16 round trips is a whole number of them. -/
def fine : Nat := 1441440

/-- The downstream and upstream delays of a lane with asymmetry `a`, exact, in the units of `Budget` (R90); the maximum of the topology
section while the lane has no mean (R89, R103). -/
def Dev.delaysX (d : Dev) (i : Nat) (a : Int) : Int × Int :=
  let p := d.probeOf i
  if p.rtts.isEmpty then ((d.conf.maxDelay * fine : Nat), (d.conf.maxDelay * fine : Nat))
  else
    let n := p.rtts.length
    let s := sumInt p.rtts
    let u : Nat := fine / 2 / n
    ((s + n * a) * u, (s - n * a) * u)

/-- The delays as probes carry them and registers show them, in whole units of 250 ps. Mark: DEDUCED, unsafe (log entry 43). -/
def Dev.delays (d : Dev) (i : Nat) (a : Int) : Int × Int :=
  let x := d.delaysX i a
  (qdiv x.1 fine, qdiv x.2 fine)

/-- The asymmetry in force of a cell lane, or of a span lane (64 to 69). -/
def Dev.asym (d : Dev) (i : Nat) : Int :=
  if i < 64 then d.gs (F.CAD_LANE_ASYM_ASYM i) else d.gs (F.CAD_SPAN_ASYM_ASYM (i - 64))

/-- CAD_LANE_DELAY of a cell lane (R111). Mark: DEDUCED, unsafe (log entry 159). -/
def Dev.showDelay (d : Dev) (i : Nat) : Dev :=
  let ds := d.delays i (d.asym i)
  (d.ps (F.CAD_LANE_DELAY_DN i) ds.1).ps (F.CAD_LANE_DELAY_UP i) ds.2

/-- CAD_LANE_DELAY of every cell lane. -/
def Dev.showDelays (d : Dev) : Dev := (List.range 64).foldl Dev.showDelay d

/-- Leaving UP discards the lane's averaging, abandons an exchange and restarts the counts of R95 (R572). -/
def Dev.probeReset (d : Dev) (i : Nat) : Dev :=
  let d := { d with cad := { d.cad with probe := mset d.cad.probe i default } }
  if i < 64 then (d.pb (F.CAD_LANE_RESIDUAL_ALIGNED i) false).showDelay i
  else { d with cad := { d.cad with headOutside := 0 } }

/-- The lanes that carry probes: cell lanes, and the first lane of each span bundle (R89, R93). -/
def probeLane (i : Nat) : Bool := decide (i < 64) || i == 64 || i == 67

/-- The probe interval count of a lane expires (R89): a probe becomes due, once one is no longer outstanding. -/
def Dev.probeInterval (i : Nat) (d : Dev) : Dev :=
  if probeLane i && d.laneUp i && decide (d.g F.CAD_PROBE_INTERVAL_FRAMES ≤ (d.probeOf i).count) then
    d.probeUpd i (fun p => { p with due := true, count := 0 })
  else d

/-- The time a TIME_PROBE takes on the line, in 250 ps units (R127: 10 characters, or two blocks). -/
def probeTime (r : Nat) : Nat := byRate r 320 160 80 52

/-- The next launch time after `t`, on the running clock. -/
def Dev.nextLaunch (d : Dev) (t : Nat) : Nat :=
  if t < d.cad.tickAt + d.cad.lQ then d.cad.tickAt + d.cad.lQ else d.cad.tickAt + d.periodQ + d.cad.lQ

/-- The head sends a due TIME_PROBE on a lane at `t`: after the DSF, its bulk segments and an IDLE, and where it ends at least 20 ns
before the next launch (R89, R131). -/
def Dev.timeProbe (i t : Nat) (d : Dev) : Dev :=
  let d := d.at t
  let p := d.probeOf i
  let ends := d.cad.now + probeTime (d.g (F.LANE_CFG_RATE i)) + 80
  if p.due && p.pending.isNone && d.laneUp i && decide (p.busy ≤ d.cad.now) && decide (ends ≤ d.nextLaunch d.cad.now) then
    let t1 : Nat := d.global % 2 ^ 40
    let dn := unsgn 16 (d.delays i (d.asym i)).1
    (d.probeUpd i (fun p => { p with due := false, pending := some (t1, 0) })).emit
      (.ordered i 0x2D (sealOrdered 0x2D (be 5 t1 ++ be 2 dn)))
  else d

/-- A cell lane is ALIGNED: 16 probes accepted, and the last three residuals within the limit (R92).
Mark: DEDUCED, unsafe (log entry 47). -/
def Dev.alignedNow (d : Dev) (p : Probe) : Bool :=
  let lim := d.g F.CAD_ALIGN_LIMIT_LIMIT
  decide (16 ≤ p.accepted) && decide (3 ≤ p.resid.length) &&
    (p.resid.take 3).all (fun x => decide (x.natAbs ≤ lim))

/-- The probe record after an echo with round trip `rtt` and residual `th` (R90, R92, R95). -/
def Dev.echoRecord (d : Dev) (p : Probe) (rtt th : Int) : Probe :=
  let lim := d.g F.CAD_ALIGN_LIMIT_LIMIT
  let p := { p with pending := none, resid := (th :: p.resid).take 3,
                    outside := if th.natAbs ≤ lim then 0 else p.outside + 1 }
  let n := p.rtts.length
  if n = 0 ∨ (rtt * n - sumInt p.rtts).natAbs ≤ 16 * n then
    { p with rtts := (rtt :: p.rtts).take 16, accepted := p.accepted + 1, rejects := 0 }
  else { p with rejects := p.rejects + 1 }

/-- The downstream path d(l) and the upstream path u(l) of a lane with asymmetry `a` (R102), in the units of `Budget`. -/
def Dev.downX (d : Dev) (i : Nat) (a : Int) : Int :=
  let r := d.g (F.LANE_CFG_RATE i)
  ((lHtx r + sDsf r + lCrx r) * 4 * fine : Nat) + (d.delaysX i a).1
def Dev.upX (d : Dev) (i : Nat) (a : Int) : Int :=
  let r := d.g (F.LANE_CFG_RATE i)
  ((lCtx r + sUsf r + lHrx r) * 4 * fine : Nat) + (d.delaysX i a).2

/-- What a cell lane shows after an echo: the delays, the residual, ALIGNED, and OUT_OF_BUDGET (R90, R92,
R105). -/
def Dev.showEcho (d : Dev) (i : Nat) (th : Int) : Dev :=
  let d := (d.ps (F.CAD_LANE_RESIDUAL_RESIDUAL i) th).showDelay i
  let d := d.pb (F.CAD_LANE_RESIDUAL_ALIGNED i) (d.alignedNow (d.probeOf i))
  let tooFar := !(d.probeOf i).rtts.isEmpty && d.b (F.HCL_PORT_CTRL_ENABLE i) &&
    decide (((d.periodQ * fine : Nat) : Int) - d.cad.lX < d.downX i (d.asym i))
  if tooFar && !d.b (F.CAD_LANE_RESIDUAL_OUT_OF_BUDGET i) then
    (d.pb (F.CAD_LANE_RESIDUAL_OUT_OF_BUDGET i) true).raiseSuspect 0x010B i
  else d

/-! ## What a lane receives (R117, R129, R151, R451) -/

/-- A line error at the head: an ordered set or a malformed run that is discarded (R129, R151). -/
def Dev.lineError (d : Dev) (i : Nat) : Dev := if i < 64 then d.inc (F.HCL_LINE_ERR_COUNT i) else d

/-- The invalid characters and sync headers of what a lane received are counted, on a cell lane that is UP in
HCL_LINE_ERR_COUNT as well (R451). -/
def Dev.heard (d : Dev) (i : Nat) (line : Line) : Dev :=
  let d := d.addTo (F.LANE_CODE_ERR_COUNT i) line.bads
  if i < 64 ∧ d.laneUp i = true then d.addTo (F.HCL_LINE_ERR_COUNT i) line.bads else d

/-- What the head reads at a lane's rate. -/
def Dev.got (d : Dev) (i : Nat) (line : Line) : Got := line.read (d.g (F.LANE_CFG_RATE i))

/-- The ordered sets that may come to the head on a lane (R127, R463). -/
def mayCome (i ty : Nat) : Bool :=
  ty == osIdle || ty == osTrain || (if i < 64 then ty == osEcho else if i < 70 then contentBytes ty != none else ty == osShutter)

/-- What is not of the kind that a command brings: an ordered set that is in no table or not allowed in its direction, and a malformed
run, are discarded and counted (R129, R151). A run that invalid characters broke counts as those (R451).
Mark: DEDUCED, unsafe (log entry 160). -/
def Dev.other (d : Dev) (i : Nat) (line : Line) : Dev :=
  match d.got i line with
  | .run _ => d
  | .ordered ty _ => if mayCome i ty then d else d.lineError i
  | .malformed => if line.bads = 0 ∧ d.laneUp i = true then d.lineError i else d

/-- A TIME_ECHO arrives on a lane at `t` with 13 content bytes (R90, R127, R129, R130). -/
def Dev.takeEcho (d : Dev) (i : Nat) (content : List Byte) : Dev :=
  if !(content.length == 13 && orderedOk 0x4B content) then d.lineError i
  else
    let p := d.probeOf i
    match p.pending with
    | none => d
    | some (t1, _) =>
      if beAt content 10 2 ≠ t1 % 2 ^ 16 then d
      else
        let t2 := beAt content 0 5
        let turn : Nat := (beAt content 5 3 + 2 ^ 24 - t2 % 2 ^ 24) % 2 ^ 24
        let rtt := sgn 40 (unsgn 40 ((d.global : Int) - t1 - turn))
        let th := sgn 16 (beAt content 8 2)
        let off := sgn 40 (unsgn 40 ((t2 : Int) - t1 - (d.delays i (d.asym i)).1))
        let p' := { d.echoRecord p rtt th with offset := off }
        let d := d.probeUpd i (fun _ => p')
        let d := d.when (decide (p.rejects < p'.rejects)) (fun d => d.inc F.CAD_PROBE_REJECT_COUNT)
        if i < 64 then d.showEcho i th else d

/-- What reaches lane `i` at `t`, where a TIME_ECHO may be. Mark: DEDUCED, unsafe (log entry 41). -/
def Dev.timeEcho (i t : Nat) (line : Line) (d : Dev) : Dev :=
  let d := (d.at t).heard i line
  match d.got i line with
  | .ordered 0x4B content => d.takeEcho i content
  | _ => d.other i line

/-- 16 consecutive rejections: the mean is discarded and averaging restarts (R90). -/
def Dev.probeRestart (i : Nat) (d : Dev) : Dev :=
  if 16 ≤ (d.probeOf i).rejects then
    let d := d.probeUpd i (fun p => { p with rtts := [], accepted := 0, rejects := 0 })
    if i < 64 then (d.pb (F.CAD_LANE_RESIDUAL_ALIGNED i) false).showDelay i else d
  else d

/-- Three residuals of a cell outside the limit: ALIGNED falls, F2 SUSPECT (R95). -/
def Dev.alignCell (l : Nat) (d : Dev) : Dev :=
  if l < 64 ∧ 3 ≤ (d.probeOf l).outside then
    let d := d.probeUpd l (fun p => { p with outside := 0 })
    ((d.pb (F.CAD_LANE_RESIDUAL_ALIGNED l) false).inc F.CAD_ALIGN_FAULT_COUNT).raiseSuspect 0x0109 l
  else d

/-- Three residuals of this head against the lead outside the limit: F1 (R95). -/
def Dev.alignHead (d : Dev) : Dev :=
  if 3 ≤ d.cad.headOutside then
    ({ d with cad := { d.cad with headOutside := 0 } }.inc F.CAD_ALIGN_FAULT_COUNT).raise { src := 0x010A, cls := 1 }
  else d

/-- Four frames without a matching echo: the exchange is abandoned (R131). -/
def Dev.echoLost (i : Nat) (d : Dev) : Dev :=
  match (d.probeOf i).pending with
  | some (_, n) =>
    if 4 ≤ n then
      let d := d.probeUpd i (fun p => { p with pending := none })
      if i < 64 then d.inc (F.HCL_ECHO_LOST_COUNT i) else d
    else d
  | none => d

/-- T0 from the lead (R96, R503): the global time of one of its ticks, with its frame number and epoch. A head that
ticks already has it. -/
def Dev.takeT0 (t0 : Option (Nat × Nat × Nat)) (d : Dev) : Dev :=
  match t0 with
  | some (g, f, e) =>
    if d.ticking then d
    else { d with cad := { d.cad with t0Set := true, started := true, tickAt := ((g : Int) - d.cad.off).toNat, frame := f,
                                      epoch := e } }
  | none => d

/-- The first span lane by which time comes to this head: eastward, and so by the West bundle, at positions 1 to H/2, by the East bundle
at the others (R27, R93). -/
def Dev.timeLane (d : Dev) : Nat := if d.pos ≤ d.conf.heads / 2 then 67 else 64

/-- A TIME_PROBE arrives on the first lane of a span bundle at `t`; the echo leaves at `t3`. On the lane by which time comes, the head
sets its time; `step` is the time step that the lead passes with the exchange, 0 when there is none, and `t0` its tick sequence (R82,
R88, R93, R96). The other lane is measured only. -/
def Dev.takeSpanProbe (d : Dev) (i t3 : Nat) (step : Int) (t0 : Option (Nat × Nat × Nat)) (content : List Byte) : Dev :=
  if d.isLead || !(i == 64 || i == 67) then d
  else if !(content.length == 8 && orderedOk 0x2D content) then d
  else
    let own := i == d.timeLane
    let d := d.when own (fun d => { d with cad := { d.cad with off := d.cad.off + step } })
    let t1 := beAt content 0 5
    let target := t1 + beAt content 5 2
    let t2 : Nat := d.global % 2 ^ 40
    let th := sgn 40 (unsgn 40 ((t2 : Int) - target))
    let t3v := (((d.clockAt t3 : Int) + d.cad.off) % 2 ^ 40).toNat
    let d := d.when own (fun d =>
      let tick := ((d.cad.tickAt : Int) + th).toNat
      let lim := d.g F.CAD_ALIGN_LIMIT_LIMIT
      let d := { d with cad := { d.cad with off := d.cad.off - th, tickAt := tick,
                                            headOutside := if th.natAbs ≤ lim then 0 else d.cad.headOutside + 1 } }
      let d := (d.ps F.CAD_SPAN_OFFSET_OFFSET th).pb F.CAD_SYNC_STATE_SPAN_ALIGNED (decide (th.natAbs ≤ lim))
      d.takeT0 t0)
    d.emit (.ordered i 0x4B (sealOrdered 0x4B
      (be 5 t2 ++ be 3 (t3v % 2 ^ 24) ++ be 2 (unsgn 16 th) ++ be 2 (t1 % 2 ^ 16))))

/-- What reaches a span lane at `t`, where a TIME_PROBE may be. Mark: DESIGN CHOICE, safe (log entry 42). -/
def Dev.spanTimeProbe (i t t3 : Nat) (step : Int) (t0 : Option (Nat × Nat × Nat)) (line : Line) (d : Dev) : Dev :=
  let d := (d.at t).heard i line
  match d.got i line with
  | .ordered 0x2D content => d.takeSpanProbe i t3 step t0 content
  | _ => d.other i line

/-! ## The frame budget -/

/-- The largest of some numbers none of which is negative; 0 of none. -/
def maxInt (xs : List Int) : Int := xs.foldl max 0

def hops (h : Nat) : Nat := h / 2

/-- Evaluate R102 for a gather margin (ns) and lane asymmetries. Mark: DEDUCED, safe (log entry 48). -/
def Dev.budget (d : Dev) (margin : Nat) (asym : Nat → Int) : Budget :=
  let ls := d.enabledLanes
  let c := (d.conf.cost + 7) / 8
  let g := maxInt (ls.map (fun l => d.upX l (asym l))) + (margin * 4 * fine : Nat)
  let q : Int := ((10 + c + 10 + hops d.conf.heads * spanHop (d.g F.LANE_SPAN_STATE_SPAN_RATE)) * 4 * fine : Nat)
  { g := g, q := q, l := max (g + (120 * fine : Nat)) q + (400 * fine : Nat), maxD := maxInt (ls.map (fun l => d.downX l (asym l))) }

/-- The reason a budget fails at a period, in the precedence of R103: 0 when it holds, else 0x80 BUDGET, 0x83
SPAN_LOAD, 0x81 RATE_FLOOR. -/
def Dev.budgetReason (d : Dev) (b : Budget) (period : Nat) : Nat :=
  let t : Int := ((period * 40 * fine : Nat) : Int)
  let c := (d.conf.cost + 7) / 8
  let h := d.conf.heads
  let sr := d.g F.LANE_SPAN_STATE_SPAN_RATE
  if !(decide (b.l + b.maxD ≤ t) &&
       decide (b.g + (((30 + hops h * spanHop sr) * 4 * fine : Nat) : Int) ≤ t + (((10 + c) * 4 * fine : Nat) : Int))) then 0x80
  else if period * 10 < (h - 1) * spanK sr then 0x83
  else if d.enabledLanes.any (fun l => decide (period * 10 < rateFloor (d.g (F.LANE_CFG_RATE l)))) then 0x81
  else 0

/-- The ASYM check of R91 on one lane's asymmetry. -/
def Dev.asymOk (d : Dev) (i : Nat) (a : Int) : Bool :=
  let p := d.probeOf i
  if p.rtts.isEmpty then decide (a.natAbs ≤ 2 * d.conf.maxDelay)
  else decide ((a.natAbs * p.rtts.length : Int) ≤ sumInt p.rtts)

/-- The asymmetry of a lane in a set. -/
def asymIn (s : SMap Nat) (i : Nat) : Int :=
  if i < 64 then sgn 16 (mget s (F.CAD_LANE_ASYM_ASYM i).key) else sgn 16 (mget s (F.CAD_SPAN_ASYM_ASYM (i - 64)).key)

/-- The evaluation of R102 with the values of a set, and with those in force. -/
def Dev.budgetIn (d : Dev) (s : SMap Nat) : Budget := d.budget (mget s F.CAD_GATHER_MARGIN_MARGIN.key) (asymIn s)
def Dev.budgetNow (d : Dev) : Budget := d.budget (d.g F.CAD_GATHER_MARGIN_MARGIN) d.asym

/-- The validator of CAD_LOCAL (R91, R99, R103, R112) on a staged set, at the period that will be in force. -/
def Dev.validateCad (d : Dev) (s : SMap Nat) (period : Nat) : Nat :=
  if !(List.range 70).all (fun i => d.asymOk i (asymIn s i)) then 0x82
  else d.budgetReason (d.budgetIn s) period

/-- The part of an AV4 set that a head validates (R98): the period's range, the head ACTIVE, the budget. -/
def Dev.validatePeriod (d : Dev) (period : Nat) : Nat :=
  if period < 100 ∨ 5000 < period then 0x01
  else if d.redState ≠ 3 then 0x04
  else d.budgetReason d.budgetNow period

/-- A time of a budget in whole ns, and in whole units of 250 ps. -/
def nsShown (x : Int) : Int := qdiv x (4 * fine)
def wholeQ (x : Int) : Nat := (qdiv x fine).toNat

/-- Put the deadlines of a successful evaluation in force (R103), and clear OUT_OF_BUDGET of the lanes it
includes (R105). -/
def Dev.putBudget (d : Dev) (b : Budget) : Dev :=
  let t : Int := ((d.periodQ * fine : Nat) : Int)
  let d := { d with cad := { d.cad with gQ := wholeQ b.g, qQ := wholeQ b.q, lQ := wholeQ b.l, ldQ := wholeQ (t - b.maxD), lX := b.l } }
  let d := (d.ps F.CAD_GATHER_DEADLINE_NS (nsShown b.g)).ps F.CAD_QUOTA_DEADLINE_NS (nsShown b.q)
  let d := (d.ps F.CAD_LAUNCH_TIME_NS (nsShown b.l)).ps F.CAD_LAUNCH_DEADLINE_NS (nsShown (t - b.maxD))
  let d := d.ps F.CAD_BUDGET_MARGIN_NS (nsShown (t - b.l - b.maxD))
  d.enabledLanes.foldl (fun d l => d.pb (F.CAD_LANE_RESIDUAL_OUT_OF_BUDGET l) false) d

/-- The evaluation at configuration (R103), and what the lanes then show. -/
def Dev.applyBudget (d : Dev) : Dev := (d.putBudget d.budgetNow).showDelays

/-! ## Missed deadlines -/

/-- The miss counter of a stage (R107): stage code plus 8 times the position. -/
def missKey (stage pos : Nat) : Nat := stage + 8 * pos

/-- A deadline other than the gather deadline was missed in this frame (R107). Mark: DEDUCED, unsafe (log entry 46). -/
def Dev.missed (d : Dev) (stage pos : Nat) : Dev :=
  { d with cad := { d.cad with miss := mupd d.cad.miss (missKey stage pos) (· + 1) } }

/-- The deadline was met: its consecutive count restarts (R107). -/
def Dev.deadlineMet (d : Dev) (stage pos : Nat) : Dev :=
  { d with cad := { d.cad with miss := mset d.cad.miss (missKey stage pos) 0,
                               missRaised := mset d.cad.missRaised (missKey stage pos) false } }

/-- The same deadline missed in CAD_MISS_LIMIT consecutive frames: F3 MISS_LIMIT (R107), once for the run. -/
def Dev.missLimit (stage pos : Nat) (d : Dev) : Dev :=
  let k := missKey stage pos
  if 1 ≤ stage ∧ stage ≤ 4 ∧ pos < 8 ∧ d.g F.CAD_MISS_LIMIT_LIMIT ≤ mget d.cad.miss k ∧
     1 ≤ mget d.cad.miss k ∧ mget d.cad.missRaised k = false then
    { d with cad := { d.cad with missRaised := mset d.cad.missRaised k true } }.raise
      { src := 0x0105, cls := 3, detail := stage + 16 * (if stage = 1 then pos else 0) }
  else d

/-! ## The tick sequence (R96, R97, R503) -/

/-- The ticks that fell while none were generated: T0 does not move, so the frame number goes on with them. -/
def Dev.catchUp (d : Dev) : Dev :=
  let q := max 1 d.periodQ
  if d.cad.started && !d.ticking && decide (d.cad.tickAt + q ≤ d.cad.now) then
    let n := (d.cad.now - d.cad.tickAt) / q
    let f := d.cad.frame + n
    { d with cad := { d.cad with tickAt := d.cad.tickAt + n * q, frame := f % 2 ^ 32,
                                 epoch := (d.cad.epoch + f / 2 ^ 32) % 2 ^ 16 } }
  else d

/-- The lead sets T0 when configuration completes, or under TICK_ALIGN 1 once time of day is loaded (R96).
Mark: DEDUCED, unsafe (log entry 44). -/
def Dev.setT0 (d : Dev) : Dev :=
  if !d.isLead || d.cad.t0Set then d
  else if !d.b F.CAD_CONFIG_TICK_ALIGN then
    { d with cad := { d.cad with t0Set := true, started := false, tickAt := d.cad.now } }
  else if 1 ≤ d.g F.CAD_SYNC_STATE_STATE then
    { d with cad := { d.cad with t0Set := true, started := false, tickAt := d.cad.now + (secQ - d.global % secQ) } }
  else d

/-- The counts that run in frames advance at a tick (R89, R110, R131): probe intervals and waiting echoes. -/
def Dev.probeTick (d : Dev) : Dev :=
  (((List.range 64) ++ [64, 67]).filter (fun i => d.laneUp i)).foldl (fun d i =>
    d.probeUpd i (fun p => { p with count := p.count + 1, pending := p.pending.map (fun (t, n) => (t, n + 1)) })) d

end Sys2Proof.Machine
end

