-- ==== Sys2Proof/Machine/Operands.lean ====
section
/-! DEFINITION. The forms that operands take on the wires: conversation segments (R156, R157), downstream frames
(R119, R120, R124), upstream frames (R126), each with an encoder and a decoder over bytes. -/
namespace Sys2Proof.Machine

/-! ## Segments (R156) -/

/-- `n` bytes of a list, padded with zero bytes. -/
def padTo (n : Nat) (bs : List Byte) : List Byte := (bs ++ List.replicate n 0#8).take n

/-- The 28 bytes of a segment. -/
def Seg.encode (s : Seg) : List Byte :=
  be 1 (s.ty * 16 + bit s.last * 8) ++ be 1 s.cnum ++ be 2 s.seq ++ padTo 24 s.payload

/-- A segment from its 28 bytes. -/
def segDecode (bs : List Byte) : Seg :=
  let b0 := beAt bs 0 1
  { ty := b0 / 16, last := b0 / 8 % 2 == 1, cnum := beAt bs 1 1, seq := beAt bs 2 2, payload := padTo 24 (bs.drop 4) }

/-- Segment types of R156. -/
def tyEmpty : Nat := 0
def tyOpen : Nat := 1
def tyAccept : Nat := 2
def tyData : Nat := 3
def tyAck : Nat := 4
def tyResult : Nat := 5
def tyAbort : Nat := 6

/-- A segment is malformed (R157): a type outside the table or not allowed from its sender, CNUM 0 outside EMPTY,
an OPEN or ACCEPT whose SEQ is not 0, LAST outside DATA. -/
def Seg.malformed (fromCell : Bool) (s : Seg) : Bool :=
  decide (6 < s.ty) ||
  (if fromCell then s.ty == tyOpen else s.ty == tyEmpty || s.ty == tyAccept || s.ty == tyResult) ||
  (s.cnum == 0 && s.ty != tyEmpty) ||
  ((s.ty == tyOpen || s.ty == tyAccept) && s.seq != 0) ||
  (s.last && s.ty != tyData)

/-- Is a segment sequenced (R156)? -/
def Seg.sequenced (s : Seg) : Bool :=
  s.ty == tyOpen || s.ty == tyAccept || s.ty == tyData || s.ty == tyResult

/-- An ABORT with a reason. -/
def abortSeg (cnum reason : Nat) : Seg := { ty := tyAbort, last := false, cnum := cnum, seq := 0, payload := padTo 24 (be 1 reason) }

/-- ACK_MAP of a receiver (R160). -/
def Rx.map (r : Rx) : Nat :=
  (List.range 31).foldl (fun m i => if r.held.any (fun s => s.seq == r.next + 1 + i) then m + 2 ^ i else m) 0

/-- The ACK of a receiver. -/
def ackSeg (cnum : Nat) (r : Rx) : Seg :=
  { ty := tyAck, last := false, cnum := cnum, seq := 0, payload := padTo 24 (be 2 r.next ++ be 4 r.map) }

/-! ## The receiver and the sender of a direction (R159 to R161) -/

/-- What a receiver does with a sequenced segment (R160). -/
inductive RxOut where
  | deliver
  | hole
  | dup
  | outside
  deriving DecidableEq, Repr

/-- Hand over the segments held in order from `next` on; at most `n` of them. -/
def Rx.drain : Nat → Rx → List Seg × Rx
  | 0, r => ([], r)
  | n + 1, r =>
    match r.held.find? (fun s => s.seq == r.next) with
    | none => ([], r)
    | some s =>
      let r' : Rx := ⟨r.next + 1, r.held.filter (fun x => x.seq != r.next)⟩
      let (ss, r'') := Rx.drain n r'
      (s :: ss, r'')

/-- A receiver takes a sequenced segment: what became of it, the segments now delivered in order, and the receiver
after it. -/
def Rx.take (r : Rx) (s : Seg) : RxOut × List Seg × Rx :=
  if s.seq < r.next ∨ r.held.any (fun x => x.seq == s.seq) then (.dup, [], r)
  else if r.next + 32 ≤ s.seq then (.outside, [], r)
  else if s.seq = r.next then
    let (ss, r') := Rx.drain 33 ⟨r.next, r.held ++ [s]⟩
    (.deliver, ss, r')
  else (.hole, [], ⟨r.next, r.held ++ [s]⟩)

/-- The lowest unacknowledged SEQ, or the next to send. -/
def lowestUnacked (next : Nat) (us : List Sent) : Nat := us.foldl (fun m u => min m u.seq) next

/-- May a new sequenced segment `next` be sent (R159)? -/
def windowOpen (next : Nat) (us : List Sent) : Bool :=
  decide (next < lowestUnacked next us + 32) && decide (us.length < 32)

/-- ACK_NEXT and ACK_MAP of an ACK. -/
def ackNextOf (s : Seg) : Nat := beAt s.payload 0 2
def ackMapOf (s : Seg) : Nat := beAt s.payload 2 4

/-- An ACK is malformed against what was sent (R161): it acknowledges a SEQ not yet sent, or its ACK_NEXT is
lower than one already received. -/
def ackBad (s : Seg) (next seen : Nat) : Bool :=
  decide (next < ackNextOf s) || decide (ackNextOf s < seen) ||
  (List.range 31).any (fun i => (ackMapOf s).testBit i && decide (next ≤ ackNextOf s + 1 + i))

/-- What stays unacknowledged after an ACK (R161). -/
def afterAck (s : Seg) (us : List Sent) : List Sent :=
  us.filter (fun u => !(decide (u.seq < ackNextOf s) ||
    (decide (ackNextOf s < u.seq) && (ackMapOf s).testBit (u.seq - ackNextOf s - 1))))

/-- A code of a channel at the time it is converted (R306). -/
structure ChanCode where
  k : Nat
  code : Int
  t : Nat
  deriving DecidableEq, Repr

/-! ## Downstream frames (R119, R120) -/

/-- An edge entry: LEVEL, SWITCH, OFFSET (R120). -/
structure Edge where
  level : Bool
  switch : Nat
  offset : Nat
  deriving DecidableEq, Repr, Inhabited

def Edge.word (e : Edge) : Nat := bit e.level * 2 ^ 31 + e.switch % 8 * 2 ^ 28 + e.offset % 2 ^ 28

def edgeOfWord (w : Nat) : Edge := ⟨w / 2 ^ 31 % 2 == 1, w / 2 ^ 28 % 8, w % 2 ^ 28⟩

/-- The fields of a DSF (R119). -/
structure Dsf where
  targetFrame : Nat
  claim : Nat
  tickTime : Nat
  run : Bool
  release : Bool
  bypass : Bool
  segValid : Bool
  cellType : Nat
  simmer : Bool
  edgeCount : Nat
  bulkCount : Nat
  epoch : Nat
  edges : List Edge
  segment : List Byte
  deriving DecidableEq, Repr, Inhabited

def Dsf.flags (f : Dsf) : Nat :=
  bit f.run + 2 * bit f.release + 4 * bit f.bypass + 8 * bit f.segValid + 16 * (f.cellType % 4) + 64 * bit f.simmer

/-- Bytes 0 to 91 of a DSF. -/
def Dsf.body (f : Dsf) : List Byte :=
  be 4 f.targetFrame ++ be 4 f.claim ++ be 4 f.tickTime ++ be 1 f.flags ++
  be 1 (f.edgeCount % 16 + 16 * f.bulkCount) ++ be 2 f.epoch ++
  (List.range 12).flatMap (fun i => be 4 (if i < f.edgeCount then ((f.edges[i]?).map Edge.word).getD 0 else 0)) ++
  padTo 28 f.segment

/-- The 96 bytes of a DSF, with its CRC-32. -/
def Dsf.encode (f : Dsf) : List Byte := f.body ++ be 4 (crc32 f.body)

/-- A DSF from its bytes; none where its length or its CRC is wrong. -/
def dsfDecode (bs : List Byte) : Option Dsf :=
  if bs.length = 96 ∧ crc32 (bs.take 92) = beAt bs 92 4 then
    let fl := beAt bs 12 1
    let cn := beAt bs 13 1
    some { targetFrame := beAt bs 0 4, claim := beAt bs 4 4, tickTime := beAt bs 8 4,
           run := fl % 2 == 1, release := fl / 2 % 2 == 1, bypass := fl / 4 % 2 == 1, segValid := fl / 8 % 2 == 1,
           cellType := fl / 16 % 4, simmer := fl / 64 % 2 == 1, edgeCount := cn % 16, bulkCount := cn / 16,
           epoch := beAt bs 14 2,
           edges := (List.range (cn % 16)).map (fun i => edgeOfWord (beAt bs (16 + 4 * i) 4)),
           segment := (bs.drop 64).take 28 }
  else none

/-- A bulk segment with its CRC-32 (R124). -/
def bulkEncode (s : Seg) : List Byte := s.encode ++ be 4 (crc32 s.encode)

def bulkDecode (bs : List Byte) : Option Seg :=
  if bs.length = 32 ∧ crc32 (bs.take 28) = beAt bs 28 4 then some (segDecode (bs.take 28)) else none

/-! ## Upstream frames (R126) -/

/-- Bytes 0 to 59 of a USF. -/
def Usf.body (u : Usf) : List Byte :=
  be 4 u.sampleFrame ++ be 4 u.frameEcho ++ be 4 u.claimEcho ++ be 2 u.status ++ be 2 u.gateFault ++ be 4 u.vcap ++
  be 2 u.temp ++ be 2 u.resCurrent ++ padTo 28 u.segment ++ be 2 u.sampleEpoch ++ be 6 0

/-- The 64 bytes of a USF, with its CRC-32. -/
def Usf.encode (u : Usf) : List Byte := u.body ++ be 4 (crc32 u.body)

/-- A USF from its bytes; none where its length or its CRC is wrong. -/
def usfDecode (bs : List Byte) : Option Usf :=
  if bs.length = 64 ∧ crc32 (bs.take 60) = beAt bs 60 4 then
    some { sampleFrame := beAt bs 0 4, frameEcho := beAt bs 4 4, claimEcho := beAt bs 8 4, status := beAt bs 12 2,
           gateFault := beAt bs 14 2, vcap := beAt bs 16 4, temp := beAt bs 20 2, resCurrent := beAt bs 22 2,
           segment := (bs.drop 24).take 28, sampleEpoch := beAt bs 52 2 }
  else none

end Sys2Proof.Machine
end

