-- ==== Sys2Proof/Machine/Conv.lean ====
section
/-! DEFINITION. Conversations at the head (chapter *Hokux Cell Link: conversations with cells*): slots, lane
queues, the segment exchange, and discovery, whose conversations run through the same slots (R155 to R173, R180
to R189, R577 to R579). -/
namespace Sys2Proof.Machine

/-! ## Results (R173) -/

def resOk : Nat := 0x01
def resTimeout : Nat := 0x10
def resRetx : Nat := 0x11
def resReboot : Nat := 0x12
def resLaneLost : Nat := 0x13
def resHostAbort : Nat := 0x14
def resStanddown : Nat := 0x15
def resProtocol : Nat := 0x16

/-- The result of a reason or STATUS that the cell sent (R173). -/
def cellResult (r : Nat) : Nat := if r = 0 ∨ (0x40 ≤ r ∧ r < 0x80) then resProtocol else if r < 0x40 then 0x40 + r else r

/-- A kind sends data from the cell to the head (R155, R170). -/
def upstreamKind (k : Nat) : Bool := k == 1 || k == 4 || k == 6

/-- The default whole timeout of a kind, in frames (R155). -/
def kindTimeout (k : Nat) : Nat :=
  if k = 3 then 4194304 else if k = 4 then 65536 else if k = 5 then 1048576 else 256

/-- KIND and arguments within R155. -/
def argsOk (k a0 a1 : Nat) : Bool :=
  match k with
  | 1 => decide (a0 ≤ 0xFFFF) && decide (1 ≤ a1) && decide (a1 ≤ 64) && decide (a0 + a1 ≤ 0x10000)
  | 2 => decide (a0 ≤ 0xFFFF) && decide (1 ≤ a1) && decide (a1 ≤ 64) && decide (a0 + a1 ≤ 0x10000)
  | 3 => decide (1 ≤ a0) && decide (a0 ≤ 262144) && a1 == 0
  | 4 => decide (1 ≤ a1) && decide (a1 ≤ 65536)
  | 5 => decide (a0 ≤ 0xFFFF) && a1 == 0
  | 6 => a0 == 0 && a1 == 0
  | _ => false

/-- Pool units a conversation takes (R182). -/
def poolUnits (k a1 : Nat) : Nat := if k = 1 ∨ k = 6 then 1 else if k = 4 then (a1 + 255) / 256 else 0

/-! ## Slots and lanes -/

def Dev.slotState (d : Dev) (s : Nat) : Nat := d.g (F.HCL_CONV_STATUS_STATE s)
def Dev.slotLane (d : Dev) (s : Nat) : Nat := d.g (F.HCL_CONV_STATUS_LANE s)
def Dev.slotKind (d : Dev) (s : Nat) : Nat := d.g (F.HCL_CONV_STATUS_KIND s)
def Dev.slotOf (d : Dev) (s : Nat) : Slot := mget d.slot s
def Dev.slotUpd (d : Dev) (s : Nat) (f : Slot → Slot) : Dev := { d with slot := mupd d.slot s f }
def Dev.cl (d : Dev) (l : Nat) : ConvLane := mget d.conv l
/-- The slots of a lane queue, by their seven-bit numbers. -/
def Dev.queueOf (d : Dev) (l : Nat) : List Nat := (d.cl l).queue.map (· % 128)
def Dev.clUpd (d : Dev) (l : Nat) (f : ConvLane → ConvLane) : Dev := { d with conv := mupd d.conv l f }

/-- A slot is active: OPENING, RUNNING or WAITRESULT (R170). -/
def Dev.slotActive (d : Dev) (s : Nat) : Bool := decide (2 ≤ d.slotState s) && decide (d.slotState s ≤ 4)

/-- The active slot of a lane. -/
def Dev.activeSlot (d : Dev) (l : Nat) : Option Nat :=
  if d.b (F.HCL_CONV_LANE_ACTIVE l) then some (d.g (F.HCL_CONV_LANE_ACTIVE_SLOT l)) else none

def Dev.freeSlots (d : Dev) : List Nat := (List.range 128).filter (fun s => d.slotState s == 0)

/-- Set a lane's queue, and the depth it shows. -/
def Dev.setQueue (d : Dev) (l : Nat) (q : List Nat) : Dev :=
  (d.clUpd l (fun c => { c with queue := q })).p (F.HCL_CONV_LANE_DEPTH l) q.length

/-- The place of a new slot in its lane's queue (R183): discovery and coast-limit writes directly behind the
active conversation, every other at the back. -/
def queuePlace (owner : Nat) (activeFirst : Bool) (q : List Nat) (s : Nat) : List Nat :=
  if owner = 1 ∨ owner = 2 then
    match q with
    | a :: r => if activeFirst then a :: s :: r else s :: a :: r
    | [] => [s]
  else q ++ [s]

/-- Open a conversation in one of the free slots (R180 to R183); the caller has made the checks of R181.
Mark: DEDUCED, unsafe (log entry 54); DESIGN CHOICE, safe (log entry 56). -/
def Dev.openIn (d : Dev) (owner l k a0 a1 timeout : Nat) (param data : List Byte) : Nat × Dev :=
  let fs := d.freeSlots
  let i := Config.slotPick d.free fs.length % fs.length
  let s := (fs[i]?).getD 0
  let d := { d with free := d.free + 1 }
  let u := poolUnits k a1
  let d := d.slotUpd s (fun _ =>
    { (default : Slot) with owner := owner, arg0 := a0, arg1 := a1, param := param, units := u, data := data,
                            timeout := if timeout = 0 then kindTimeout k else timeout,
                            len := if k = 2 then 4 * a1 else if k = 3 then a0 else 0 })
  let d := (((d.p (F.HCL_CONV_STATUS_STATE s) 1).p (F.HCL_CONV_STATUS_LANE s) l).p (F.HCL_CONV_STATUS_KIND s) k)
  let d := ((d.p (F.HCL_CONV_STATUS_RESULT s) 0).p (F.HCL_CONV_PROGRESS_BYTES s) 0).p (F.HCL_CONV_AGE_FRAMES s) 0
  let d := (d.p F.HCL_CONV_SLOTS_FREE (d.g F.HCL_CONV_SLOTS_FREE - 1)).p F.HCL_CONV_SLOTS_POOL_FREE
    (d.g F.HCL_CONV_SLOTS_POOL_FREE - u)
  (s, d.setQueue l (queuePlace owner (d.activeSlot l).isSome (d.cl l).queue s))

/-- The status of an open (R181): the first check that fails, 0 when all pass. -/
def Dev.openCheck (d : Dev) (l k a0 a1 : Nat) : Nat :=
  if !argsOk k a0 a1 then 1
  else if d.redState = 4 then 6
  else if !(d.b (F.HCL_PORT_CTRL_ENABLE l) && d.laneUp l) then 2
  else if d.freeSlots.isEmpty then 3
  else if 16 ≤ (d.cl l).queue.length then 4
  else if d.g F.HCL_CONV_SLOTS_POOL_FREE < poolUnits k a1 then 5
  else 0

/-- The first `n` words of HCL_CONV_WDATA as bytes. -/
def Dev.wdataBytes (d : Dev) (n : Nat) : List Byte := (List.range n).flatMap (fun i => be 4 (d.g (F.HCL_CONV_WDATA_WORD i)))

/-- A write of 1 to GO (R180, R181). -/
def Dev.convGo (d : Dev) : Dev :=
  let l := d.g F.HCL_CONV_REQ_LANE
  let k := d.g F.HCL_CONV_REQ_KIND
  let a0 := d.g F.HCL_CONV_ARG0_ARG0
  let a1 := d.g F.HCL_CONV_ARG1_ARG1
  let st := d.openCheck l k a0 a1
  let d := d.p F.HCL_CONV_OPEN_RESULT_STATUS st
  if st = 0 then
    let param := padTo 12 (if k = 5 then d.wdataBytes 3 else if k = 3 then d.wdataBytes 1 else [])
    let data := if k = 2 then d.wdataBytes a1 else []
    let (s, d) := d.openIn 0 l k a0 a1 (d.g F.HCL_CONV_TIMEOUT_FRAMES) param data
    (d.p F.HCL_CONV_OPEN_RESULT_SLOT s).inc F.HCL_CONV_OPEN_COUNT
  else if st = 3 then d.inc F.HCL_CONV_NOSLOT_COUNT
  else if st = 4 then d.inc F.HCL_CONV_QFULL_COUNT
  else d.inc F.HCL_CONV_REFUSE_COUNT

/-- A DONE slot goes FREE and its receive space returns (R170, R182, R578). -/
def Dev.slotFree (d : Dev) (s : Nat) : Dev :=
  let u := (d.slotOf s).units
  let d := (d.p F.HCL_CONV_SLOTS_FREE (d.g F.HCL_CONV_SLOTS_FREE + 1)).p F.HCL_CONV_SLOTS_POOL_FREE
    (d.g F.HCL_CONV_SLOTS_POOL_FREE + u)
  let d := d.p F.HCL_CONV_SLOTS_DONE (d.g F.HCL_CONV_SLOTS_DONE - 1)
  let d := { d with slot := mset d.slot s default }
  let d := (d.p (F.HCL_CONV_STATUS_STATE s) 0).pb (F.HCL_CONV_STATUS_ABORT s) false
  d

/-! ## Discovery (R185, R186, R578, R579) -/

def Dev.disc (d : Dev) (l : Nat) : Nat := d.g (F.HCL_CONV_LANE_DISC_STATE l)
def Dev.setDisc (d : Dev) (l v : Nat) : Dev := d.p (F.HCL_CONV_LANE_DISC_STATE l) v

/-- Step 1 of discovery: open an IDENTITY conversation, or defer it while no slot (or no place in the lane queue)
is free, counting the discovery once. Mark: DEDUCED, unsafe (log entry 55). -/
def Dev.discStart (d : Dev) (l : Nat) : Dev :=
  if d.freeSlots.isEmpty || decide (16 ≤ (d.cl l).queue.length) || d.g F.HCL_CONV_SLOTS_POOL_FREE == 0 then
    let d := d.setDisc l 1
    let d := d.when (!(d.cl l).deferred) (fun d => d.inc F.HCL_DISC_DEFER_COUNT)
    d.clUpd l (fun c => { c with deferred := true, retry := 0 })
  else
    let d := (d.clUpd l (fun c => { c with deferred := false, retry := 0 })).setDisc l 2
    (d.openIn 1 l 6 0 0 0 (padTo 12 []) []).2

/-- Write COAST_LIMIT on a lane (R185): 16 in the cell's register 0x0010. -/
def Dev.coastWrite (d : Dev) (l : Nat) : Dev :=
  if d.freeSlots.isEmpty || decide (16 ≤ (d.cl l).queue.length) then
    let d := d.setDisc l 1
    let d := d.when (!(d.cl l).deferred) (fun d => d.inc F.HCL_DISC_DEFER_COUNT)
    d.clUpd l (fun c => { c with deferred := true })
  else (d.openIn 2 l 2 0x10 1 0 (padTo 12 []) (be 4 (d.g F.RED_GAP_COAST))).2

/-- The checks of R185 on an identity record. -/
def Dev.identityOk (d : Dev) (l : Nat) (rec : List Byte) : Bool :=
  beAt rec 0 2 == 1 &&
  beAt rec 28 1 == d.g (F.HCL_PORT_CTRL_CELL_TYPE l) &&
  (beAt rec 29 1).testBit (d.g (F.LANE_CFG_RATE l)) &&
  decide (beAt rec 30 2 ≤ 200)

/-! ## Dead times of a lane (R259, R260) -/

/-- The legs of a lane's cell type (R120). -/
def Dev.legCount (d : Dev) (l : Nat) : Nat :=
  match d.g (F.HCL_PORT_CTRL_CELL_TYPE l) with
  | 0 => 1
  | 1 => 2
  | 2 => 4
  | _ => 0

/-- d_fall of a switch of a cell type (R281), in 250 ps units. -/
def Dev.fallQ (d : Dev) (ty s : Nat) : Nat :=
  40 * d.g (if ty = 0 then F.EDGE_DELAY_HB_FALL s else if ty = 1 then F.EDGE_DELAY_FB_FALL s else F.EDGE_DELAY_DX_FALL s)

/-- d_rise as committed. -/
def Dev.rise0Q (d : Dev) (ty s : Nat) : Nat :=
  40 * d.g (if ty = 0 then F.EDGE_DELAY_HB_RISE s else if ty = 1 then F.EDGE_DELAY_FB_RISE s else F.EDGE_DELAY_DX_RISE s)

/-- The other switch of a leg. -/
def partner (s : Nat) : Nat := if s % 2 = 0 then s + 1 else s - 1

/-- MIN_DEAD of a lane's cell, rounded up to 10 ns (R260); 0 before discovery. -/
def Dev.minDeadQ (d : Dev) (l : Nat) : Nat := ((d.cl l).minDead + 39) / 40 * 40

/-- d_rise of a switch of a lane, raised where its dead time would fall short of MIN_DEAD (R260). -/
def Dev.riseQ (d : Dev) (l s : Nat) : Nat :=
  let ty := d.g (F.HCL_PORT_CTRL_CELL_TYPE l)
  max (d.rise0Q ty s) (d.fallQ ty (partner s) + d.minDeadQ l)

/-- A dead time of the lane is raised (R260). -/
def Dev.deadRaised (d : Dev) (l : Nat) : Bool :=
  let ty := d.g (F.HCL_PORT_CTRL_CELL_TYPE l)
  decide (0 < (d.cl l).minDead) &&
    (List.range (2 * d.legCount l)).any (fun s => decide (d.rise0Q ty s < d.fallQ ty (partner s) + d.minDeadQ l))

/-- DEAD_RAISED of a lane (R260, R281). -/
def Dev.showDead (d : Dev) (l : Nat) : Dev := d.pb (F.laneDead l) (d.deadRaised l)

/-- The ending of a conversation of discovery (R185, R186, R579). A coast-limit write completes discovery when no conversation of it is
left on the lane. -/
def Dev.discEnd (d : Dev) (l owner res : Nat) (data : List Byte) : Dev :=
  if res = resOk then
    if owner = 1 then
      if d.identityOk l data then
        ((d.clUpd l (fun c => { c with minDead := beAt data 52 2 })).showDead l).coastWrite l
      else ((d.setDisc l 4).inc (F.HCL_DISC_FAIL_COUNT l)).raiseSuspect 0x0206 l
    else if d.disc l = 2 ∧ (d.queueOf l).all (fun s => (d.slotOf s).owner != 1 && (d.slotOf s).owner != 2) = true then d.setDisc l 3
    else d
  else if res = resReboot ∨ res = resLaneLost ∨ res = resStanddown then d.setDisc l 0
  else
    let d := ((d.setDisc l 1).inc (F.HCL_DISC_FAIL_COUNT l)).raiseSuspect 0x0207 l
    d.clUpd l (fun c => { c with retry := d.g F.HCL_DISC_RETRY_FRAMES })

/-! ## Endings -/

/-- A conversation reaches DONE (R170, R173, R189): it leaves its lane queue, becomes the lane's previous
conversation if it was active, and a conversation of discovery gives its slot back (R578). -/
def Dev.convEnd (d : Dev) (s res : Nat) : Dev :=
  let l := d.slotLane s
  let sl := d.slotOf s
  let act := d.slotActive s
  let d := (d.p (F.HCL_CONV_STATUS_STATE s) 5).p (F.HCL_CONV_STATUS_RESULT s) res
  let d := d.pb (F.HCL_CONV_STATUS_ABORT s) false
  let d := d.p F.HCL_CONV_SLOTS_DONE (d.g F.HCL_CONV_SLOTS_DONE + 1)
  let d := d.setQueue l ((d.cl l).queue.filter (fun x => x != s))
  let d := d.when act (fun d =>
    (d.pb (F.HCL_CONV_LANE_ACTIVE l) false).clUpd l (fun c =>
      { c with prevCnum := sl.cnum, prevOk := res == resOk, prevAck := sl.rx.next }))
  let d := d.when (res != resOk) (fun d => d.inc F.HCL_CONV_FAIL_COUNT)
  if sl.owner = 1 ∨ sl.owner = 2 then (d.slotFree s).discEnd l sl.owner res sl.data else d

/-- End with an ABORT to the cell (R170). -/
def Dev.convAbort (d : Dev) (s res reason : Nat) : Dev :=
  let l := d.slotLane s
  let c := (d.slotOf s).cnum
  (d.convEnd s res).clUpd l (fun x => { x with oweAbort := x.oweAbort ++ [abortSeg c reason], oweAck := none })

/-- A breach of R172: ABORT PROTOCOL and result PROTOCOL. -/
def Dev.convBreach (d : Dev) (s : Nat) : Dev :=
  (d.inc (F.HCL_SEG_ERR_COUNT (d.slotLane s))).convAbort s resProtocol 0x0B

/-- End every queued and active conversation of a lane, sending nothing (R171). -/
def Dev.endLane (d : Dev) (l res : Nat) : Dev :=
  let d := (d.queueOf l).foldl (fun d s => d.convEnd s res) d
  let d := d.when (d.disc l == 1) (fun d => d.setDisc l 0)
  d.clUpd l (fun c => { c with oweAbort := [], oweAck := none, owePrev := none, deferred := false, retry := 0 })

/-- Stand-down on every lane (R171). -/
def Dev.endAllLanes (d : Dev) (res : Nat) : Dev := (List.range 64).foldl (fun d l => d.endLane l res) d

/-! ## The host's commands on a slot (R184) -/

/-- A write of 1 to ABORT: taken at the next DSF build; without effect on a FREE or DONE slot. -/
def Dev.hostAbort (s : Nat) (d : Dev) : Dev :=
  if d.slotState s = 0 ∨ d.slotState s = 5 then d else d.pb (F.HCL_CONV_STATUS_ABORT s) true

/-- The host abort at a DSF build: a QUEUED conversation sends nothing. -/
def Dev.takeHostAbort (d : Dev) (s : Nat) : Dev :=
  if !d.b (F.HCL_CONV_STATUS_ABORT s) then d
  else if d.slotState s = 1 then d.convEnd s resHostAbort
  else if d.slotActive s then d.convAbort s resHostAbort 0x0D
  else d.pb (F.HCL_CONV_STATUS_ABORT s) false

/-- A write of 1 to RELEASE frees a DONE slot. -/
def Dev.hostRelease (s : Nat) (d : Dev) : Dev := if d.slotState s = 5 then d.slotFree s else d

/-! ## Opening and timers -/

/-- The next CNUM of a lane (R169): one more than the last, skipping 0. -/
def nextCnum (c : Nat) : Nat := if c % 256 = 255 then 1 else c % 256 + 1

/-- The first queued conversation of a lane becomes active (R170). -/
def Dev.convOpen (l : Nat) (d : Dev) : Dev :=
  match d.activeSlot l, d.queueOf l with
  | none, s :: _ =>
    let c := nextCnum (d.cl l).cnum
    let d := d.clUpd l (fun x => { x with cnum := c })
    let d := ((d.p (F.HCL_CONV_LANE_CNUM l) c).p (F.HCL_CONV_LANE_ACTIVE_SLOT l) s).pb (F.HCL_CONV_LANE_ACTIVE l) true
    (d.slotUpd s (fun x => { x with cnum := c })).p (F.HCL_CONV_STATUS_STATE s) 2
  | _, _ => d

/-- The sequenced segments of a lane's conversation that have waited HCL_SEG_TIMEOUT frames are due again, or the
conversation ends with RETX (R163). -/
def Dev.segTimeout (l : Nat) (d : Dev) : Dev :=
  match d.activeSlot l with
  | none => d
  | some s =>
    let n := d.g F.HCL_SEG_TIMEOUT_FRAMES
    let lim := d.g F.HCL_RETX_LIMIT_COUNT
    let us := (d.slotOf s).unacked
    let out (u : Sent) : Bool := decide (n ≤ u.since) && !u.due
    if us.any (fun u => out u && decide (lim ≤ u.resends)) then d.convAbort s resRetx 0x0A
    else d.slotUpd s (fun x => { x with unacked := us.map (fun u => if out u then { u with due := true } else u) })

/-- The whole timeout of a conversation passes (R184): a host abort pending at the same build comes first. -/
def Dev.wholeTimeout (s : Nat) (d : Dev) : Dev :=
  if d.slotActive s && decide (1 ≤ (d.slotOf s).sndNext) &&
     decide ((d.slotOf s).timeout ≤ d.g (F.HCL_CONV_AGE_FRAMES s)) then
    if d.b (F.HCL_CONV_STATUS_ABORT s) then d.takeHostAbort s
    else (d.inc (F.HCL_CONV_TIMEOUT_COUNT (d.slotLane s))).convAbort s resTimeout 0x0C
  else d

/-- The frame counts of every active conversation advance at a tick (R110, R165), and discovery's retry waits. -/
def Dev.convTick (d : Dev) : Dev :=
  (List.range 64).foldl (fun d l =>
    let d := d.when (decide (0 < (d.cl l).retry)) (fun d => d.clUpd l (fun c => { c with retry := c.retry - 1 }))
    match d.activeSlot l with
    | none => d
    | some s =>
      let d := d.when (decide (1 ≤ (d.slotOf s).sndNext)) (fun d => d.inc (F.HCL_CONV_AGE_FRAMES s))
      d.slotUpd s (fun x => { x with unacked := x.unacked.map (fun u => { u with since := u.since + 1 }) })) d

/-- A write of REDISCOVER (R185); discovery already running is left as it is (R570). -/
def Dev.rediscover (l : Nat) (d : Dev) : Dev :=
  if d.b (F.HCL_PORT_CTRL_ENABLE l) && d.laneUp l && d.disc l != 2 then d.discStart l else d

/-- A deferred discovery is tried again at a tick when a slot has become free (R185). -/
def Dev.discDefer (l : Nat) (d : Dev) : Dev :=
  if (d.cl l).deferred && d.disc l == 1 && !d.freeSlots.isEmpty then d.discStart l else d

/-- HCL_DISC_RETRY frames after a failed discovery it is repeated (R186). -/
def Dev.discRetry (l : Nat) (d : Dev) : Dev :=
  if d.disc l == 1 && !(d.cl l).deferred && (d.cl l).retry == 0 && d.laneUp l then d.discStart l else d

/-! ## Segments from the cell -/

/-- Data segments of `n` bytes (R158). -/
def dataSegs (n : Nat) : Nat := (n + 23) / 24

/-- Data bytes acknowledged so far of a downstream conversation. -/
def ackedBytes (sl : Slot) : Nat :=
  let sent := (List.range (sl.sndNext - 1)).map (· + 1)
  (sent.filter (fun q => !sl.unacked.any (fun u => u.seq == q))).foldl
    (fun a q => a + min 24 (sl.len - 24 * (q - 1))) 0

/-- After an acknowledgement: progress of a downstream kind, and RUNNING to WAITRESULT once every DATA segment is
acknowledged (R170). -/
def Dev.afterAcked (d : Dev) (s : Nat) : Dev :=
  let sl := d.slotOf s
  let k := d.slotKind s
  if upstreamKind k then d
  else
    let d := d.p (F.HCL_CONV_PROGRESS_BYTES s) (ackedBytes sl)
    d.when (d.slotState s == 3 && decide (dataSegs sl.len < sl.sndNext) && sl.unacked.isEmpty)
      (fun d => d.p (F.HCL_CONV_STATUS_STATE s) 4)

/-- One sequenced segment delivered in order to the active conversation `s` (R170, R172). -/
def Dev.deliver (d : Dev) (s : Nat) (sg : Seg) : Dev :=
  let sl := d.slotOf s
  let k := d.slotKind s
  let st := d.slotState s
  if !d.slotActive s then d
  else if sg.ty = tyAccept then
    let len := beAt sg.payload 0 4
    let bad := if k = 1 then len != 4 * sl.arg1 else if k = 6 then len != 96
      else if k = 4 then decide (sl.arg1 < len) else len != 0
    if st ≠ 2 then d
    else if bad then d.convBreach s
    else
      let d := d.slotUpd s (fun x => { x with unacked := x.unacked.filter (fun u => u.seq != 0),
                                              len := if upstreamKind k then len else x.len })
      if upstreamKind k then
        if len = 0 then d.convEnd s resOk else d.p (F.HCL_CONV_STATUS_STATE s) 3
      else if k = 5 then d.p (F.HCL_CONV_STATUS_STATE s) 4
      else d.p (F.HCL_CONV_STATUS_STATE s) 3
  else if sg.ty = tyData then
    if !upstreamKind k then d.convBreach s
    else
      let n := dataSegs sl.len
      if n < sg.seq ∨ (sg.last != (sg.seq == n)) then d.convBreach s
      else
        let got := sl.data ++ sg.payload.take (min 24 (sl.len - 24 * (sg.seq - 1)))
        let d := (d.slotUpd s (fun x => { x with data := got })).p (F.HCL_CONV_PROGRESS_BYTES s) got.length
        if sg.seq = n then d.convEnd s resOk else d
  else if sg.ty = tyResult then
    if upstreamKind k then d.convBreach s
    else
      let r := beAt sg.payload 0 1
      let d := d.slotUpd s (fun x => { x with status := r, value := (sg.payload.drop 4).take 16, unacked := [] })
      let d := d.afterAcked s
      if 0x40 ≤ r ∧ r < 0x80 then d.convBreach s
      else d.convEnd s (if r = 0 then resOk else cellResult r)
  else d

/-- DATA that breaks R172 for a LENGTH of `n` segments: beyond LENGTH, after LAST, or LAST in the wrong segment. -/
def dataBad (n : Nat) (x : Seg) : Bool := x.ty == tyData && (decide (n < x.seq) || x.last != (x.seq == n))

/-- The DATA segments of an upstream conversation as they are known when segments `ss` come into order: by the ACCEPT among them, or by
the one that has come before. -/
def segsKnown (st len : Nat) (ss : List Seg) : Option Nat :=
  match ss.find? (fun x => x.ty == tyAccept) with
  | some a => some (dataSegs (beAt a.payload 0 4))
  | none => if st = 3 then some (dataSegs len) else none

/-- A DATA segment that breaks R172 is judged as soon as LENGTH is known, also when it is held ahead of a gap. -/
def Dev.heldBad (d : Dev) (s : Nat) (ss : List Seg) (rx : Rx) : Bool :=
  upstreamKind (d.slotKind s) && (match segsKnown (d.slotState s) (d.slotOf s).len ss with
    | some n => (ss ++ rx.held).any (dataBad n)
    | none => false)

/-- A sequenced segment of the active conversation (R160, R162, R189). SEQ 0 is the ACCEPT's: a DATA that takes it lies outside LENGTH
(R172), a RESULT is discarded. The first ACCEPT of a REG_WRITE or FW_PUSH
owes no ACK. Mark: DEDUCED, unsafe (log entry 53). -/
def Dev.takeSequenced (d : Dev) (l s : Nat) (sg : Seg) : Dev :=
  let sl := d.slotOf s
  let k := d.slotKind s
  let (o, ss, rx) := sl.rx.take sg
  let ack (d : Dev) : Dev := d.clUpd l (fun c => { c with oweAck := some (ackSeg sl.cnum rx) })
  if sg.seq = 0 ∧ sg.ty = tyData then d.convBreach s
  else if sg.seq = 0 ∧ sg.ty = tyResult then d.inc (F.HCL_SEG_ERR_COUNT l)
  else match o with
  | .dup => (ack d).inc (F.HCL_SEG_DUP_COUNT l)
  | .outside => d.inc (F.HCL_SEG_ERR_COUNT l)
  | .hole =>
    let d := (ack (d.slotUpd s (fun x => { x with rx := rx }))).inc (F.HCL_SEG_HOLE_COUNT l)
    if d.heldBad s [] rx then d.convBreach s else d
  | .deliver =>
    let d := d.slotUpd s (fun x => { x with rx := rx })
    let d := if sg.ty = tyAccept ∧ (k = 2 ∨ k = 3) then d else ack d
    if d.heldBad s ss rx then d.convBreach s else ss.foldl (fun d x => d.deliver s x) d

/-- An ACK of the active conversation (R161). -/
def Dev.takeAck (d : Dev) (l s : Nat) (sg : Seg) : Dev :=
  let sl := d.slotOf s
  if ackBad sg sl.sndNext sl.ackSeen then d.inc (F.HCL_SEG_ERR_COUNT l)
  else
    let d := d.slotUpd s (fun x => { x with ackSeen := ackNextOf sg, unacked := afterAck sg x.unacked })
    d.afterAcked s

/-- An ABORT of the active conversation (R170, R172, R173). -/
def Dev.takeAbort (d : Dev) (l s : Nat) (sg : Seg) : Dev :=
  let r := beAt sg.payload 0 1
  let d := d.inc (F.HCL_CELL_ABORT_COUNT l)
  let d := d.when (cellResult r == resProtocol) (fun d => d.inc (F.HCL_SEG_ERR_COUNT l))
  d.convEnd s (cellResult r)

/-- The answer to a sequenced segment of the previous conversation (R169). -/
def prevAnswer (c : ConvLane) (sg : Seg) : Seg :=
  if c.prevOk then ackSeg c.prevCnum ⟨max c.prevAck (sg.seq + 1), []⟩ else abortSeg c.prevCnum 0x01

/-- The conversation engine takes a segment that R166 passes to it (R169, R189). -/
def Dev.convSegment (d : Dev) (l : Nat) (bs : List Byte) : Dev :=
  let sg := segDecode bs
  if sg.malformed true then d.inc (F.HCL_SEG_ERR_COUNT l)
  else if sg.ty = tyEmpty then d
  else
    let act := (d.activeSlot l).filter (fun s => (d.slotOf s).cnum == sg.cnum && decide (1 ≤ (d.slotOf s).sndNext))
    match act with
    | some s =>
      if sg.ty = tyAck then d.takeAck l s sg
      else if sg.ty = tyAbort then d.takeAbort l s sg
      else d.takeSequenced l s sg
    | none =>
      if (d.cl l).prevCnum = sg.cnum ∧ sg.cnum ≠ 0 then
        if sg.sequenced then d.clUpd l (fun c => { c with owePrev := some (prevAnswer c sg) }) else d
      else d.inc (F.HCL_SEG_ERR_COUNT l)

/-! ## Segments to the cell -/

/-- Byte `i` of window `w` (words hold their first byte in [31:24]). -/
def winByte (win : SMap Nat) (w i : Nat) : Byte :=
  BitVec.ofNat 8 (mget win (w * 2 ^ 20 + i / 4) / 256 ^ (3 - i % 4))

/-- The segment with a SEQ (R156, R158, R577): the OPEN, or the DATA of that number. -/
def Dev.segOf (d : Dev) (s seq : Nat) : Seg :=
  let sl := d.slotOf s
  let k := d.slotKind s
  if seq = 0 then
    { ty := tyOpen, last := false, cnum := sl.cnum, seq := 0,
      payload := be 1 k ++ be 1 (sl.segTimeout + 16 * sl.retxLimit) ++ be 2 0 ++ be 4 sl.arg0 ++ be 4 sl.arg1 ++
                 padTo 12 sl.param }
  else
    let off := 24 * (seq - 1)
    let n := min 24 (sl.len - off)
    let bs := if k = 3 then (List.range n).map (fun i => winByte d.win 2 (off + i)) else (sl.data.drop off).take n
    { ty := tyData, last := seq == dataSegs sl.len, cnum := sl.cnum, seq := seq, payload := padTo 24 bs }

/-- The next sequenced segment to send (R164): the lowest that is due again, else the OPEN or new DATA. -/
def Dev.nextSeq (d : Dev) (s : Nat) : Option (Nat × Bool) :=
  let sl := d.slotOf s
  let dues := sl.unacked.filter (fun u => u.due)
  if !dues.isEmpty then some (dues.foldl (fun m u => min m u.seq) (2 ^ 16), true)
  else if d.slotState s = 2 then (if sl.sndNext = 0 then some (0, false) else none)
  else if d.slotState s = 3 ∧ !upstreamKind (d.slotKind s) ∧ sl.sndNext ≤ dataSegs sl.len ∧
      windowOpen sl.sndNext sl.unacked = true then some (sl.sndNext, false)
  else none

/-- Send it: record when it was carried. -/
def Dev.markSent (d : Dev) (l s seq : Nat) (again : Bool) : Dev :=
  if again then
    (d.slotUpd s (fun x => { x with unacked := x.unacked.map (fun u =>
      if u.seq = seq then { u with since := 0, resends := u.resends + 1, due := false } else u) })).inc
        (F.HCL_SEG_RETX_COUNT l)
  else
    d.slotUpd s (fun x => { x with
      sndNext := seq + 1, unacked := x.unacked ++ [⟨seq, 0, 0, false⟩],
      segTimeout := if seq = 0 then d.g F.HCL_SEG_TIMEOUT_FRAMES else x.segTimeout,
      retxLimit := if seq = 0 then d.g F.HCL_RETX_LIMIT_COUNT else x.retxLimit })

/-- Up to `n` sequenced segments of a lane's active conversation, in order. -/
def Dev.takeSegs (l : Nat) : Nat → Dev → List Seg × Dev
  | 0, d => ([], d)
  | n + 1, d =>
    match d.activeSlot l with
    | none => ([], d)
    | some s =>
      match d.nextSeq s with
      | none => ([], d)
      | some (q, again) =>
        let d := d.markSent l s q again
        let sg := d.segOf s q
        let (ss, d) := Dev.takeSegs l n d
        (sg :: ss, d)

/-- The SEGMENT and the bulk segments of the DSF built for a lane (R124, R164, R169, R184): the host abort first,
then an ABORT, an ACK, an answer for the previous conversation, retransmissions, the OPEN or new DATA. The first
DSF after a reset or a wake carries none. -/
def Dev.convBuild (d : Dev) (l : Nat) : Option Seg × List Seg × Dev :=
  let d := (d.queueOf l).foldl (fun d s => d.takeHostAbort s) d
  let c := d.cl l
  if !c.started then (none, [], d.clUpd l (fun c => { c with started := true }))
  else
    let bulkMax := if d.g (F.LANE_CFG_RATE l) = 3 then d.g F.HCL_BULK_MAX_COUNT else 0
    let own : Option (Seg × (ConvLane → ConvLane)) :=
      match c.oweAbort, c.oweAck, c.owePrev with
      | a :: r, _, _ => some (a, fun c => { c with oweAbort := r })
      | [], some a, _ => some (a, fun c => { c with oweAck := none })
      | [], none, some a => some (a, fun c => { c with owePrev := none })
      | [], none, none => none
    match own with
    | some (a, f) =>
      let (ss, d) := Dev.takeSegs l bulkMax (d.clUpd l f)
      (some a, ss, d)
    | none =>
      let (ss, d) := Dev.takeSegs l (bulkMax + 1) d
      match ss with
      | [] => (none, [], d)
      | a :: r => (some a, r, d)

/-- After a reset or a wake every lane starts anew (R169). Mark: DEDUCED, unsafe (log entry 57). -/
def Dev.convRestart (d : Dev) : Dev :=
  (List.range 64).foldl (fun d l => (d.clUpd l (fun c =>
    { c with cnum := 0, prevCnum := 0, prevOk := false, prevAck := 0, started := false })).p (F.HCL_CONV_LANE_CNUM l) 0) d

end Sys2Proof.Machine
end

