-- ==== Sys2Proof/Machine/Cell.lean ====
section
/-! DEFINITION. The cell node of the cell contract (R140 to R150) and its conversation endpoints (R174 to R179).
Times of the node's running clock, and of its corrected time, are in 250 ps units; the corrected time is the running
clock plus `off`. -/
namespace Sys2Proof.Machine

/-! ## State -/

/-- A conversation endpoint of the cell (R174, R175). States: 0 IDLE, 1 RECEIVING, 2 WORKING, 3 SENDING, 4 CLOSING. -/
structure Endpoint where
  st : Nat
  cnum : Nat
  kind : Nat
  arg0 : Nat
  arg1 : Nat
  param : List Byte
  segTimeout : Nat
  retxLimit : Nat
  rx : Rx
  /-- data bytes received in order, or the bytes to send -/
  data : List Byte
  len : Nat
  /-- the next SEQ to send; 0 while the ACCEPT is still to be sent -/
  sndNext : Nat
  unacked : List Sent
  ackSeen : Nat
  oweAbort : List Seg
  oweAck : Bool
  /-- the reply to a duplicate OPEN is owed again -/
  again : Bool
  /-- ticks without a segment of the present CNUM -/
  idle : Nat
  status : Nat
  value : List Byte
  /-- a REBOOT was written: the cell reboots when the RESULT is acknowledged (R179) -/
  reboot : Bool
  deriving DecidableEq, Repr, Inhabited

/-- An edge that the cell will execute: its time of the cell, and its offset from the tick it was given for. -/
structure PendEdge where
  time : Int
  offset : Nat
  level : Bool
  switch : Nat
  deriving DecidableEq, Repr, Inhabited

/-- A port of the cell. -/
structure CellPort where
  trained : Bool
  rate : Nat
  /-- TARGET_FRAME of the last DSF accepted here (R142) -/
  last : Option Nat
  /-- the claim of the stream here, 0 when there is none, and the ticks since its last DSF -/
  claim : Nat
  quiet : Nat
  dsErr : Nat
  ep : Endpoint
  deriving DecidableEq, Repr, Inhabited

/-- A DSF accepted and waiting for its target tick: its port and the cell time of the tick. -/
structure Waiting where
  port : Nat
  tick : Int
  dsf : Dsf
  deriving DecidableEq, Repr, Inhabited

/-- What the USF of a tick shows of the node (R126, R149): STATUS of each port, GATE and INTERLOCK, and the echoes. -/
structure UsfStamp where
  status0 : Nat
  status1 : Nat
  gate : Nat
  frameEcho : Nat
  claimEcho : Nat
  deriving DecidableEq, Repr, Inhabited

/-- The cell node. -/
structure Cell where
  now : Nat
  off : Int
  corrected : Bool
  /-- the 96 bytes of the identity record (R187) and the log -/
  ident : List Byte
  log : List Byte
  coast : Nat
  vendor : SMap Nat
  segErr : Nat
  abandoned : Nat
  bank : Nat
  bootBank : Nat
  boot : Nat
  p0 : CellPort
  p1 : CellPort
  /-- the port of the stream obeyed, and its claim -/
  obeyed : Option (Nat × Nat)
  floor : Nat
  /-- when the cell stopped obeying -/
  since : Nat
  /-- a DSF has been accepted (R148) -/
  accepted : Bool
  /-- the port of the last valid DSF with a non-zero claim, and of the first probe (R140) -/
  dsfPort : Option Nat
  probePort : Option Nat
  waiting : List Waiting
  /-- the cell time of the last tick, its frame and epoch, and the TICK_TIMEs of the last two DSFs used (R141) -/
  tick : Option Int
  frame : Nat
  epoch : Nat
  used : List Nat
  frameEcho : Nat
  running : Bool
  shutter : Bool
  bypassed : Bool
  /-- RUN and GAP_SIMMER of the last obeyed DSF applied -/
  lastRun : Bool
  lastSimmer : Bool
  missed : Nat
  gapDue : Bool
  simmer : Bool
  gapAt : Int
  /-- switches that are on, when each last turned off, and the edges still to come -/
  sw : Nat
  offAt : List (Option Int)
  pend : List PendEdge
  /-- the edges executed since the last tick with the switches at it, and those of the interval before -/
  done : List PendEdge
  start : Nat
  rep : List PendEdge
  repStart : Nat
  interlock : Nat
  /-- the values at the tick, once something has happened after it (R149), and whether its USFs have been sent (R148) -/
  stamp : Option UsfStamp
  sent : Bool
  deriving DecidableEq, Repr, Inhabited

/-- What a node that is powered up is: its identity record and log, and its ports' training and rates.
Mark: DESIGN CHOICE, safe (log entry 132). -/
structure NodeSetup where
  ident : List Byte
  log : List Byte
  trained0 : Bool
  rate0 : Nat
  trained1 : Bool
  rate1 : Nat
  deriving DecidableEq, Repr, Inhabited

def Cell.port (c : Cell) (p : Nat) : CellPort := if p = 0 then c.p0 else c.p1

def Cell.portUpd (c : Cell) (p : Nat) (f : CellPort → CellPort) : Cell :=
  if p = 0 then { c with p0 := f c.p0 } else { c with p1 := f c.p1 }

def Cell.epUpd (c : Cell) (p : Nat) (f : Endpoint → Endpoint) : Cell := c.portUpd p (fun x => { x with ep := f x.ep })

/-- Discards at a port are counted modulo 16 (R126, R129, R142). -/
def Cell.discard (c : Cell) (p : Nat) : Cell := c.portUpd p (fun x => { x with dsErr := (x.dsErr + 1) % 16 })

def Cell.at (c : Cell) (t : Nat) : Cell := { c with now := max c.now t }

/-- The cell's own time. -/
def Cell.time (c : Cell) : Int := (c.now : Int) + c.off

/-- The cell's own type (R119, R187), and its number of switches (R120). -/
def Cell.type (c : Cell) : Nat := beAt c.ident 28 1 % 4
def switchCount (ty : Nat) : Nat := if ty = 0 then 2 else if ty = 1 then 4 else 8

/-- The hardware minimum dead time, in 250 ps units (R144, R187). -/
def Cell.minDead (c : Cell) : Nat := beAt c.ident 52 2

/-! ## Switches -/

/-- Turn one switch off. -/
def Cell.swOff (c : Cell) (t : Int) (s : Nat) : Cell :=
  if c.sw.testBit s then { c with sw := clrBit c.sw s, offAt := c.offAt.set s (some t) } else c

/-- Command every switch off. -/
def Cell.allOff (c : Cell) (t : Int) : Cell := (List.range 8).foldl (fun c s => c.swOff t s) c

/-- A switch turned off less than the hardware minimum dead time before `t` (R144). -/
def Cell.tooSoon (c : Cell) (t : Int) (q : Nat) : Bool :=
  match c.offAt[q]? with
  | some (some τ) => decide (t < τ + c.minDead)
  | _ => false

/-- One on edge of a switch, whose number has three bits (R120, R144): with the other switch of the leg on, or off for
less than the hardware minimum dead time, both switches of the leg are turned off, the edge is ignored and INTERLOCK
counts. -/
def Cell.swOn (c : Cell) (t : Int) (x : Nat) : Cell :=
  let s := x % 8
  let q := if s % 2 = 0 then s + 1 else s - 1
  if c.sw.testBit q || c.tooSoon t q then
    let c := (c.swOff t s).swOff t q
    { c with interlock := (c.interlock + 1) % 4 }
  else { c with sw := setBit c.sw s }

/-- Both ports carry equal non-zero claims (R142). -/
def Cell.claimTie (c : Cell) : Bool := c.p0.claim != 0 && c.p0.claim == c.p1.claim

/-- STATUS of a port's USF (R126). -/
def Cell.status (c : Cell) (p : Nat) : Nat :=
  let q := match c.obeyed with
    | some (q, _) => q
    | none => 0
  c.boot % 16 + 16 * c.type + 64 * bit c.running + 128 * bit c.shutter + 256 * bit c.simmer + 512 * bit c.bypassed +
    1024 * (q % 2) + 2048 * bit c.claimTie + 4096 * ((c.port p).dsErr % 16)

/-- The values of the node as they stand (R149). -/
def Cell.present (c : Cell) : UsfStamp :=
  ⟨c.status 0, c.status 1, c.sw % 256 + 256 * (c.interlock % 4), if c.obeyed.isSome then c.frameEcho else 0,
    match c.obeyed with | some (_, oc) => oc | none => 0⟩

/-- Something happens after the tick: what its USF shows is kept (R149). Mark: DESIGN CHOICE, unsafe (log entry 163). -/
def Cell.hold (c : Cell) : Cell := if c.tick.isSome && c.stamp.isNone then { c with stamp := some c.present } else c

/-- The cell executes the edges that come due next, all of one time together: off edges first (R144). Edges at the tick itself show in
its USF (R149). -/
def Cell.edge (c : Cell) : Cell :=
  match c.pend with
  | [] => c
  | e :: r =>
    let t := r.foldl (fun m x => min m x.time) e.time
    let due := c.pend.filter (fun x => x.time == t)
    let c := if c.tick = some t then c else c.hold
    let c := (c.at (t - c.off).toNat)
    let c := { c with pend := c.pend.filter (fun x => x.time != t), done := c.done ++ due }
    let c := (due.filter (fun x => !x.level)).foldl (fun c x => c.swOff t x.switch) c
    (due.filter (fun x => x.level)).foldl (fun c x => c.swOn t x.switch) c

/-! ## Segments at the cell (R156 to R165, R174 to R179) -/

def epIdle (e : Endpoint) : Endpoint :=
  { (default : Endpoint) with oweAbort := e.oweAbort }

/-- An ABORT is owed; the same one is owed once. -/
def oweAbort (a : Seg) (e : Endpoint) : Endpoint :=
  if e.oweAbort.contains a then e else { e with oweAbort := e.oweAbort ++ [a] }

/-- The endpoint ends its conversation with an ABORT. -/
def epAbort (reason : Nat) (e : Endpoint) : Endpoint := epIdle (oweAbort (abortSeg e.cnum reason) e)

/-- A segment that is discarded as malformed or out of window counts in SEG_ERR_COUNT (R179, R190). -/
def Cell.segBad (c : Cell) : Cell := { c with segErr := (c.segErr + 1) % 2 ^ 32 }

/-- A standard or vendor register as it reads (R179): none where the address is not implemented. -/
def Cell.reg (c : Cell) (a : Nat) : Option Nat :=
  if a = 0x0000 then some (beAt c.ident 0 4)
  else if a = 0x0010 then some c.coast
  else if a = 0x0011 then some c.segErr
  else if a = 0x0012 then some c.abandoned
  else if a = 0x0020 then some c.bootBank
  else if a = 0x0021 then some (Config.vendorRead a 0 % 2 ^ 32)
  else if a < 0x0100 then some 0
  else if Config.vendorHas a then some (Config.vendorRead a (mget c.vendor a) % 2 ^ 32)
  else none

/-- A bank holds an image: the running one does, the other by its version (R187). -/
def Cell.bankFull (c : Cell) (b : Nat) : Bool := b == c.bank || beAt c.ident 40 4 != 0

/-- Why a write of a register is refused (R179), 0 when it is not. -/
def Cell.regRefuse (c : Cell) (a w : Nat) : Nat :=
  if a = 0x0010 then 0
  else if a = 0x0020 then (if 1 < w then 3 else if c.bankFull w then 0 else 9)
  else if a = 0x0021 then (if w ≠ 0x5EB0 then 3 else if c.running then 9 else 0)
  else if a < 0x0100 then 3
  else if Config.vendorHas a then 0 else 3

/-- The registers of a REG_WRITE, with their words. -/
def regPairs (e : Endpoint) : List (Nat × Nat) := (List.range e.arg1).map (fun i => (e.arg0 + i, beAt e.data (4 * i) 4))

/-- Apply one word of a REG_WRITE. -/
def Cell.regApply (c : Cell) (p : Nat) (x : Nat × Nat) : Cell :=
  if x.1 = 0x0010 then { c with coast := min x.2 20000 }
  else if x.1 = 0x0020 then { c with bootBank := x.2 }
  else if x.1 = 0x0021 then c.epUpd p (fun e => { e with reboot := true })
  else if 0x0100 ≤ x.1 then { c with vendor := mset c.vendor x.1 x.2 }
  else c

/-- Why an OPEN is refused (R176, R177, R178), 0 when it is accepted. Mark: DEDUCED, unsafe (log entry 138). -/
def Cell.openRefuse (c : Cell) (p k a0 a1 : Nat) : Nat :=
  if k = 0 ∨ 6 < k then 2
  else if !argsOk k a0 a1 then 3
  else if k = 3 ∧ beAt c.ident 44 4 < a0 then 3
  else if k = 1 ∧ (List.range a1).any (fun i => (c.reg (a0 + i)).isNone) = true then 3
  else if k = 5 ∧ Config.calKnown a0 = false then 2
  else if (k = 2 ∨ k = 3 ∨ k = 5) ∧ (match c.obeyed with | some (q, _) => decide (q ≠ p) | none => false) = true then 5
  else if k = 3 ∧ (c.port (1 - p)).ep.st ≠ 0 ∧ (c.port (1 - p)).ep.kind = 3 then 4
  else 0

/-- The bytes that an upstream kind sends (R155): the words, the log from its offset, the identity record. -/
def Cell.upData (c : Cell) (k a0 a1 : Nat) : List Byte :=
  if k = 1 then (List.range a1).flatMap (fun i => be 4 ((c.reg (a0 + i)).getD 0))
  else if k = 4 then (c.log.drop a0).take a1
  else if k = 6 then padTo 96 c.ident
  else []

/-- An OPEN (R175): the same one again asks for the reply again; any other is handled as from IDLE.
Mark: DEDUCED, unsafe (log entry 139). -/
def Cell.takeOpen (c : Cell) (p : Nat) (s : Seg) : Cell :=
  let k := beAt s.payload 0 1
  let b := beAt s.payload 1 1
  let a0 := beAt s.payload 4 4
  let a1 := beAt s.payload 8 4
  let par := (s.payload.drop 12).take 12
  let e := (c.port p).ep
  if e.st ≠ 0 ∧ e.cnum = s.cnum ∧ e.kind = k ∧ e.arg0 = a0 ∧ e.arg1 = a1 ∧ e.param = par then
    c.epUpd p (fun e => { e with again := true, idle := 0 })
  else
    let c := if e.st = 0 then c else
      { (c.epUpd p epIdle) with abandoned := (c.abandoned + 1) % 2 ^ 32 }
    let r := c.openRefuse p k a0 a1
    if r ≠ 0 then c.epUpd p (oweAbort (abortSeg s.cnum r))
    else
      let up := upstreamKind k
      let data := c.upData k a0 a1
      c.epUpd p (fun e =>
        { (default : Endpoint) with
          st := if up then 3 else if k = 5 then 2 else 1,
          cnum := s.cnum, kind := k, arg0 := a0, arg1 := a1, param := par,
          segTimeout := b % 16, retxLimit := b / 16, rx := ⟨1, []⟩, data := data,
          len := if up then data.length else if k = 2 then 4 * a1 else if k = 3 then a0 else 0,
          oweAbort := e.oweAbort })

/-- Work starts when every data byte is held; on a port that is then not obeyed nothing is applied (R175, R176). -/
def Cell.startWork (c : Cell) (p : Nat) : Cell :=
  let other := match c.obeyed with
    | some (q, _) => decide (q ≠ p)
    | none => false
  c.epUpd p (fun e =>
    let e := { e with data := e.data.take e.len }
    if other then { e with st := 4, status := 5, value := padTo 16 [] } else { e with st := 2 })

/-- A DATA of the present conversation (R158, R160, R161). One that no kind expects, beyond the length, or with LAST
in the wrong place is discarded as malformed. -/
def Cell.takeData (c : Cell) (p : Nat) (s : Seg) : Cell :=
  let e := (c.port p).ep
  if !(e.kind == 2 || e.kind == 3) || s.seq == 0 || decide (dataSegs e.len < s.seq) ||
     s.last != (s.seq == dataSegs e.len) then c.segBad
  else
    let c := c.epUpd p (fun e => { e with idle := 0, unacked := e.unacked.filter (fun u => u.seq != 0) })
    let (o, ss, rx) := e.rx.take s
    match o with
    | .outside => c.segBad
    | .dup => c.epUpd p (fun e => { e with oweAck := true })
    | _ =>
      let c := c.epUpd p (fun e =>
        { e with rx := rx, oweAck := true, data := e.data ++ ss.flatMap (fun x => x.payload) })
      if (c.port p).ep.st = 1 ∧ dataSegs e.len < rx.next then c.startWork p else c

/-! ## A boot (R147, R175, R179) -/

/-- The identity record with its two firmware versions exchanged. -/
def swapBanks (r : List Byte) : List Byte :=
  r.take 36 ++ (r.drop 40).take 4 ++ (r.drop 36).take 4 ++ r.drop 44

/-- A port after a boot: its lane stays trained. -/
def CellPort.fresh (p : CellPort) : CellPort := { (default : CellPort) with trained := p.trained, rate := p.rate }

/-- The node restarts: endpoints IDLE, floor cleared, bypass released, BOOT advanced; its time counter runs on.
Mark: DEDUCED, unsafe (log entry 131). -/
def Cell.restart (c : Cell) : Cell :=
  { (default : Cell) with
    now := c.now, off := c.off, ident := if c.bootBank = c.bank then c.ident else swapBanks c.ident, log := c.log,
    coast := 10000, bank := c.bootBank, bootBank := c.bootBank, boot := (c.boot + 1) % 16,
    p0 := c.p0.fresh, p1 := c.p1.fresh, since := c.now, shutter := c.shutter,
    offAt := List.replicate 8 none }

/-- The identity record of a node (R187): the high bits of RATES and bytes 54 and 55 are 0, and LOG_BYTES is the log's length. -/
def identOf (n : NodeSetup) : List Byte :=
  let b := padTo 96 n.ident
  b.take 29 ++ be 1 (beAt b 29 1 % 16) ++ (b.drop 30).take 18 ++ be 4 n.log.length ++ (b.drop 52).take 2 ++ [0, 0] ++ b.drop 56

/-- A node powered up, as `n` says it is. -/
def Cell.powerUp (n : NodeSetup) (c : Cell) : Cell :=
  { (default : Cell) with
    now := c.now, ident := identOf n, log := n.log, coast := 10000, boot := (c.boot + 1) % 16,
    p0 := { (default : CellPort) with trained := n.trained0, rate := n.rate0 % 4 },
    p1 := { (default : CellPort) with trained := n.trained1, rate := n.rate1 % 4 },
    since := c.now, offAt := List.replicate 8 none }

/-- A cell node boots: powered up, or restarted where no set-up is given. -/
def Cell.nodeBoot (n : Option NodeSetup) (c : Cell) : Cell :=
  match n with
  | some s => c.powerUp s
  | none => c.restart

/-- An ACK of the present conversation (R161, R175). -/
def Cell.takeAck (c : Cell) (p : Nat) (s : Seg) : Cell :=
  let e := (c.port p).ep
  let c := c.epUpd p (fun e => { e with idle := 0 })
  if ackBad s e.sndNext e.ackSeen then c.segBad
  else
    let us := afterAck s e.unacked
    let c := c.epUpd p (fun e => { e with unacked := us, ackSeen := ackNextOf s })
    if us.isEmpty && e.st == 3 && decide (dataSegs e.len < e.sndNext) then c.epUpd p epIdle
    else if us.isEmpty && e.st == 4 && decide (2 ≤ e.sndNext) then
      if e.reboot then c.restart else c.epUpd p epIdle
    else c

/-- A segment reaches the endpoint of port `p` (R157, R175). Mark: DESIGN CHOICE, safe (log entry 141). -/
def Cell.segment (p : Nat) (bytes : List Byte) (c : Cell) : Cell :=
  let s := segDecode bytes
  let e := (c.port p).ep
  if s.ty = tyEmpty then c
  else if s.malformed false then c.segBad
  else if s.ty = tyOpen then c.takeOpen p s
  else if e.st = 0 ∨ e.cnum ≠ s.cnum then
    if s.ty = tyData then c.epUpd p (oweAbort (abortSeg s.cnum 1)) else c
  else if s.ty = tyAbort then c.epUpd p epIdle
  else if s.ty = tyAck then c.takeAck p s
  else c.takeData p s

/-- A segment of the cell unacknowledged for SEG_TIMEOUT ticks is due again, or ends the conversation with RETX (R163). -/
def Cell.retxTimeout (p : Nat) (c : Cell) : Cell :=
  let e := (c.port p).ep
  let out (u : Sent) : Bool := decide (e.segTimeout ≤ u.since) && !u.due
  if e.st = 0 then c
  else if e.unacked.any (fun u => out u && decide (e.retxLimit ≤ u.resends)) then c.epUpd p (epAbort 0x0A)
  else c.epUpd p (fun e => { e with unacked := e.unacked.map (fun u => if out u then { u with due := true } else u) })

/-- 4,096 ticks without a segment of the present CNUM end a RECEIVING or SENDING conversation (R175). -/
def Cell.idleTimeout (p : Nat) (c : Cell) : Cell :=
  let e := (c.port p).ep
  if (e.st = 1 ∨ e.st = 3) ∧ 4096 ≤ e.idle then c.epUpd p (epAbort 0x08) else c

/-- May a RESULT carry the status (R178)? -/
def statusOk (st : Nat) : Bool := decide (st < 0x40) || (decide (0x80 ≤ st) && decide (st < 0x100))

/-- What the work of a conversation gives: its STATUS, its VALUE, and the cell after it. `stored` and `version` are
the outcome of storing an image and its version, `status` and `value` that of a calibration. -/
def Cell.work (c : Cell) (p status : Nat) (value : List Byte) (stored : Bool) (version : Nat) : Nat × List Byte × Cell :=
  let e := (c.port p).ep
  if e.kind = 2 then
    match (regPairs e).find? (fun x => c.regRefuse x.1 x.2 != 0) with
    | some x => (c.regRefuse x.1 x.2, [], c)
    | none => (0, [], (regPairs e).foldl (fun c x => c.regApply p x) c)
  else if e.kind = 3 then
    if crc32 e.data ≠ beAt e.param 0 4 then (6, [], c)
    else if !stored then (7, [], c)
    else (0, be 4 (crc32 e.data) ++ be 4 version,
          { c with ident := c.ident.take 40 ++ be 4 version ++ c.ident.drop 44 })
  else (status, value, c)

/-- The work of a conversation is complete: CLOSING, and the RESULT is to be sent (R175 to R179, R188). -/
def Cell.workDone (p status : Nat) (value : List Byte) (stored : Bool) (version : Nat) (c : Cell) : Cell :=
  if (c.port p).ep.st = 2 ∧ statusOk status = true then
    let (st, v, c) := c.work p status value stored version
    c.epUpd p (fun e => { e with st := 4, status := st, value := padTo 16 v })
  else c

/-- The sequenced segment with a SEQ (R156, R158). -/
def epSeg (e : Endpoint) (seq : Nat) : Seg :=
  if seq = 0 then
    { ty := tyAccept, last := false, cnum := e.cnum, seq := 0,
      payload := padTo 24 (be 4 (if upstreamKind e.kind then e.len else 0)) }
  else if e.st = 4 then
    { ty := tyResult, last := false, cnum := e.cnum, seq := seq,
      payload := padTo 24 (be 1 e.status ++ be 3 0 ++ padTo 16 e.value) }
  else
    { ty := tyData, last := seq == dataSegs e.len, cnum := e.cnum, seq := seq,
      payload := padTo 24 ((e.data.drop (24 * (seq - 1))).take 24) }

/-- The segment of a USF, in the order of R164: an ABORT, an ACK, a retransmission, a new sequenced segment, EMPTY. -/
def epTake (e : Endpoint) : Seg × Endpoint :=
  match e.oweAbort with
  | a :: r => (a, { e with oweAbort := r })
  | [] =>
    let dues := e.unacked.filter (fun u => u.due)
    let top := if e.st = 3 then dataSegs e.len else if e.st = 4 then 1 else 0
    if e.st = 0 then (⟨tyEmpty, false, 0, 0, padTo 24 []⟩, e)
    else if e.oweAck then (ackSeg e.cnum e.rx, { e with oweAck := false })
    else if e.again && decide (1 ≤ e.sndNext) then (epSeg e 0, { e with again := false })
    else if !dues.isEmpty then
      let q := dues.foldl (fun m u => min m u.seq) (2 ^ 16)
      (epSeg e q, { e with unacked := e.unacked.map (fun u =>
        if u.seq = q then { u with since := 0, resends := u.resends + 1, due := false } else u) })
    else if e.sndNext ≤ top ∧ windowOpen e.sndNext e.unacked = true then
      (epSeg e e.sndNext, { e with sndNext := e.sndNext + 1, again := false,
                                   unacked := e.unacked ++ [⟨e.sndNext, 0, 0, false⟩] })
    else (⟨tyEmpty, false, 0, 0, padTo 24 []⟩, e)

/-- The counts of an endpoint advance at a tick (R163, R165, R175). -/
def epTick (e : Endpoint) : Endpoint :=
  if e.st = 0 then e
  else { e with idle := min (e.idle + 1) 4096, unacked := e.unacked.map (fun u => { u with since := u.since + 1 }) }

/-! ## Accepting a DSF (R140 to R142) -/

/-- The port from which the cell takes time corrections (R140). -/
def Cell.timePort (c : Cell) : Option Nat :=
  match c.obeyed with
  | some (q, _) => some q
  | none => if c.floor ≠ 0 then none else match c.dsfPort with
    | some q => some q
    | none => c.probePort

/-- Would the cell obey a claim that arrives on a port, when it obeys what it does (R142, R408, R409)? -/
def Cell.obeys (c : Cell) (p claim : Nat) : Bool :=
  claim != 0 && (match c.obeyed with
    | some (q, oc) => claimHigher claim oc && !(q != p && c.claimTie)
    | none => !claimLower claim c.floor && !c.claimTie)

/-- Does a DSF on a port matter to the cell's ticks or switches, in the state it is in (R141, R142)? -/
def Cell.relevant (c : Cell) (p claim : Nat) : Bool :=
  c.obeys p claim || (match c.obeyed with
    | some (q, oc) => q == p && (claim == oc || claim == 0)
    | none => c.floor == 0 && c.timePort == some p)

/-- What waits and no longer matters is dropped: the stream is not obeyed. -/
def Cell.prune (c : Cell) : Cell := { c with waiting := c.waiting.filter (fun w => c.relevant w.port w.dsf.claim) }

/-- Edge offsets do not decrease. -/
def offsetsRise : List Edge → Bool
  | a :: b :: r => decide (a.offset ≤ b.offset) && offsetsRise (b :: r)
  | _ => true

/-- The checks of R142 on a DSF that has ended, in its order; the distance to the target tick when all pass.
Mark: DEDUCED, unsafe (log entry 135). -/
def Cell.dsfCheck (c : Cell) (p : Nat) (bytes : List Byte) (bulk : List (List Byte)) : Option (Dsf × Int) :=
  match dsfDecode bytes with
  | none => none
  | some f =>
    let r := (c.port p).rate
    let ahead : Int := ((f.tickTime : Int) - c.time) % 2 ^ 32
    let stale := match (c.port p).last with
      | some x => !later f.targetFrame x
      | none => false
    if bulk.length ≠ f.bulkCount ∨ bulk.any (fun b => b.length != 32) = true then none
    else if f.cellType ≠ c.type then none
    else if stale then none
    else if ahead ≤ (lCrx r * 4 : Nat) ∨ 400000 < ahead then none
    else if 12 < f.edgeCount ∨ 8 < f.bulkCount ∨ (f.bulkCount ≠ 0 ∧ r ≠ 3) ∨ offsetsRise f.edges = false ∨
        f.edges.any (fun e => decide (switchCount c.type ≤ e.switch)) = true then none
    else some (f, c.time + ahead)

/-- A bulk segment: one that fails its CRC is discarded alone and counted (R168). -/
def Cell.bulk (p : Nat) (c : Cell) (b : List Byte) : Cell :=
  match bulkDecode b with
  | none => c.discard p
  | some _ => c.segment p (b.take 28)

/-- A whole DSF has come on port `p` (R142). The segments of a valid one reach the port's endpoint at once (R167). -/
def Cell.dsfRun (c : Cell) (p : Nat) (bytes : List Byte) (bulk : List (List Byte)) : Cell :=
  match c.dsfCheck p bytes bulk with
  | none => c.discard p
  | some (f, tick) =>
    let c := c.portUpd p (fun x => { x with last := some f.targetFrame, claim := f.claim, quiet := 0 })
    let c := if f.claim = 0 then c else { c with dsfPort := some p }
    let c := if c.relevant p f.claim then { c with accepted := true, waiting := c.waiting ++ [⟨p, tick, f⟩] } else c
    let c := if f.segValid then c.segment p f.segment else c
    bulk.foldl (fun c b => c.bulk p b) c

/-- What is of no kind that a command of the cell brings: an ordered set that is in no table or not sent to a cell, and a malformed run,
are discarded and counted (R129, R142). -/
def Cell.other (c : Cell) (p : Nat) (g : Got) : Cell :=
  match g with
  | .run _ => c
  | .ordered ty _ => if ty == osIdle || ty == osTrain || ty == osShutter || ty == osProbe then c else c.discard p
  | .malformed => c.discard p

/-- A run ended before its frame did (R117, R125). Mark: DEDUCED, unsafe (log entry 162). -/
def cutOff (rate : Nat) (bytes : List Byte) : Bool :=
  decide (bytes.length < 96) || (rate == 3 && (match dsfDecode (bytes.take 96) with
    | some f => decide (bytes.length < 96 + 32 * f.bulkCount)
    | none => false))

/-- The bulk segments behind a DSF (R124). -/
def bulkParts : Nat → List Byte → List (List Byte)
  | 0, _ => []
  | n + 1, bs => if bs.isEmpty then [] else bs.take 32 :: bulkParts n (bs.drop 32)

/-- What reaches port `p` at `t`, where a DSF may be (R142). A DSF that an ordered set interrupts is discarded and not counted. -/
def Cell.dsf (t p : Nat) (line : Line) (c : Cell) : Cell :=
  let c := (c.at t).hold
  let r := (c.port p).rate
  match line.read r with
  | .run bytes => if cutOff r bytes then c else c.dsfRun p (bytes.take 96) (bulkParts 9 (bytes.drop 96))
  | g => c.other p g

/-! ## Ticks (R141, R143, R146) -/

/-- The period of the ticks (R141). -/
def Cell.period (c : Cell) : Int :=
  match c.used with
  | a :: b :: _ => ((a : Int) - b) % 2 ^ 32
  | [a] => (Config.cellPeriod a : Nat)
  | [] => 0

/-- The earliest target tick that waits. -/
def Cell.nextTarget (c : Cell) : Option Waiting :=
  c.waiting.foldl (fun m w => match m with
    | none => some w
    | some x => if w.tick < x.tick then some w else m) none

/-- The cell time of the next tick (R141): the earliest target tick that waits; but a tick that no DSF has come for,
one period after the last, where that is earlier and the DSF is for a later frame than the next. Mark: DEDUCED, unsafe (log entry 134). -/
def Cell.nextTick (c : Cell) : Option Int :=
  match c.nextTarget, c.tick with
  | some w, none => some w.tick
  | some w, some x =>
    if later w.dsf.targetFrame (frameAdd c.frame 1) && decide (x + c.period ≤ w.tick) then some (x + c.period)
    else some w.tick
  | none, some x => some (x + c.period)
  | none, none => none

/-- The DSF that the cell obeys at a tick, out of those due there (R142): the last one that takes the command or
carries on the stream. -/
def Cell.choose (c : Cell) (due : List Waiting) : Option Waiting :=
  (due.foldl (fun (m : Cell × Option Waiting) w =>
    let own := match m.1.obeyed with
      | some (q, oc) => q == w.port && (w.dsf.claim == oc || w.dsf.claim == 0)
      | none => false
    if own || m.1.obeys w.port w.dsf.claim then
      ((if w.dsf.claim = 0 then m.1 else { m.1 with obeyed := some (w.port, w.dsf.claim) }), some w)
    else m) (c, none)).2

/-- The tick itself: its time, frame and epoch, and the interval of edges that it closes. -/
def Cell.openTick (c : Cell) (t : Int) (f e : Nat) : Cell :=
  let c := c.at (t - c.off).toNat
  let tp (p : CellPort) : CellPort :=
    let q := p.quiet + 1
    { p with ep := epTick p.ep, quiet := min q 4, claim := if 4 ≤ q then 0 else p.claim }
  { c with tick := some t, frame := f, epoch := e, rep := c.done, repStart := c.start, done := [], start := c.sw,
           stamp := none, sent := false, p0 := tp c.p0, p1 := tp c.p1 }

def Cell.useDsf (c : Cell) (f : Dsf) : Cell := { c with used := (f.tickTime :: c.used).take 2 }

/-- The cell obeys a DSF from tick `t` on: its stream, frame, RUN and GAP_SIMMER; edges of earlier DSFs are dropped. -/
def Cell.heed (c : Cell) (t : Int) (w : Waiting) : Cell :=
  { c with obeyed := some (w.port, w.dsf.claim), frameEcho := w.dsf.targetFrame, missed := 0, gapDue := false,
           simmer := false, lastRun := w.dsf.run, lastSimmer := w.dsf.simmer,
           pend := c.pend.filter (fun e => decide (e.time < t)) }

/-- BYPASS, then RELEASE. -/
def Cell.latches (c : Cell) (t : Int) (f : Dsf) : Cell :=
  let c := if f.bypass then { (c.allOff t) with bypassed := true } else c
  if f.release then { c with shutter := false } else c

/-- The DSF obeyed is applied at its target tick (R143). -/
def Cell.apply (c : Cell) (t : Int) (w : Waiting) : Cell :=
  let f := w.dsf
  let c := (c.heed t w).latches t f
  if !f.run || c.shutter || c.bypassed then { (c.allOff t) with running := false, pend := [] }
  else { c with running := true,
                pend := c.pend ++ f.edges.map (fun e => ⟨t + e.offset, e.offset, e.level, e.switch⟩) }

/-- In SIMMER the edges of the interval before the gap are repeated from each tick (R146). -/
def Cell.repeatEdges (c : Cell) (t : Int) (edges : List PendEdge) (start : Nat) : Cell :=
  let c := (List.range 8).foldl (fun c s => if start.testBit s then c else c.swOff t s) c
  { c with sw := start, start := start, pend := edges.map (fun e => { e with time := t + e.offset }) }

/-- The DSFs whose target tick is `t`. -/
def Cell.dueAt (c : Cell) (t : Int) : List Waiting := c.waiting.filter (fun w => w.tick == t)

/-- The DSF that gives a tick its frame: the one obeyed; or, for a cell that obeys none and has no floor, the one on the
port that it takes its time from (R140, R141). -/
def Cell.tickSource (c : Cell) (t : Int) : Option Waiting :=
  match c.choose (c.dueAt t) with
  | some w => some w
  | none => if c.obeyed.isNone && c.floor == 0 then (c.dueAt t).find? (fun w => c.timePort == some w.port) else none

/-- The frame and the epoch of a tick: its DSF's, or the next ones. -/
def Cell.tickStamp (c : Cell) (t : Int) : Nat × Nat :=
  match c.tickSource t with
  | some w => (w.dsf.targetFrame, w.dsf.epoch)
  | none =>
    let nf := frameAdd c.frame 1
    (nf, if nf = 0 then (c.epoch + 1) % 2 ^ 16 else c.epoch)

/-- The cell with tick `t` begun, before what a DSF commands. -/
def Cell.begin (c : Cell) (t : Int) : Cell :=
  let c' := { (c.openTick t (c.tickStamp t).1 (c.tickStamp t).2) with waiting := c.waiting.filter (fun w => decide (t < w.tick)) }
  match c.tickSource t with
  | some w => c'.useDsf w.dsf
  | none => c'

/-- A tick of the cell (R141, R143, R146): the target tick of a DSF that waits, or one that no DSF came for. -/
def Cell.targetTick (c : Cell) : Cell :=
  match c.nextTick with
  | none => c
  | some t =>
    let d := c.begin t
    match c.choose (c.dueAt t) with
    | some w => if w.dsf.claim = 0 then { d with gapDue := true } else (d.apply t w).prune
    | none =>
      if c.obeyed.isSome then { d with missed := min (c.missed + 1) 4, gapDue := c.gapDue || decide (3 ≤ c.missed) }
      else if c.simmer then { (d.repeatEdges t c.rep c.repStart) with rep := c.rep, repStart := c.repStart }
      else d

/-- Every switch off and no edge to come. -/
def Cell.block (c : Cell) (t : Int) : Cell :=
  { (c.allOff t) with pend := [], simmer := false, running := false }

/-- The gap starts (R146, R409): the floor is the claim obeyed; BLOCK, or SIMMER from this tick on.
Mark: DEDUCED, unsafe (log entry 136). -/
def Cell.gap (c : Cell) : Cell :=
  match c.obeyed, c.tick with
  | some (_, oc), some t =>
    if !c.gapDue then c
    else
      let loop := c.rep
      let loopStart := c.repStart
      let c := { c with floor := oc, obeyed := none, since := c.now, frameEcho := 0, missed := 0, gapDue := false,
                        gapAt := t, running := false }
      let c := c.prune
      if c.lastSimmer && c.lastRun && !c.shutter && !c.bypassed then
        { (c.repeatEdges t loop loopStart) with simmer := true }
      else c.block t
  | _, _ => c

/-- The coast limit has run at a tick in SIMMER: the cell blocks (R146). -/
def Cell.simmerEnd (c : Cell) : Cell :=
  match c.tick with
  | none => c
  | some t => if c.simmer && decide (c.gapAt + ((min c.coast 20000 * usQ : Nat) : Int) ≤ t) then c.block t else c

/-- After 1 s without an obeyed stream the floor is cleared (R147). -/
def Cell.floorClear (t : Nat) (c : Cell) : Cell :=
  let c := c.at t
  if c.obeyed.isNone && decide (c.since + secQ ≤ c.now) then { c with floor := 0 } else c

/-! ## Ordered sets (R140, R145) -/

/-- A SHUTTER is accepted: the cell blocks and latches (R145). -/
def Cell.latch (c : Cell) : Cell := { (c.block c.time) with shutter := true }

/-- A SHUTTER reaches port `p` (R129, R145). -/
def Cell.takeShutter (c : Cell) (p : Nat) (content : List Byte) : Cell :=
  if !(content.length == 6 && orderedOk 0xE1 content) then c.discard p
  else
    let ok := match c.obeyed with
      | some (_, oc) => !claimLower (beAt content 0 4) oc
      | none => true
    if ok then c.latch else c

/-- What reaches port `p` at `t`, where a SHUTTER may be. -/
def Cell.shutterSet (t p : Nat) (line : Line) (c : Cell) : Cell :=
  let c := (c.at t).hold
  match line.read (c.port p).rate with
  | .ordered 0xE1 content => c.takeShutter p content
  | g => c.other p g

/-- A TIME_PROBE reaches port `p`; its echo leaves at `t3` (R89, R140). The cell corrects its time only from
the port that R140 names; the answer of every port carries the time error. -/
def Cell.takeProbe (c : Cell) (t3 p : Nat) (content : List Byte) : Cell × List Out :=
  if !(content.length == 8 && orderedOk 0x2D content) then (c.discard p, [])
  else
    let c := if c.probePort.isNone then { c with probePort := some p } else c
    let t1 := beAt content 0 5
    let t2 := unsgn 40 c.time
    let th := sgn 40 (unsgn 40 ((t2 : Int) - (t1 + beAt content 5 2 : Nat)))
    let t3v := unsgn 24 ((t3 : Int) + c.off)
    let c := if c.timePort = some p then { c with off := c.off - th, corrected := true } else c
    (c, [.cellOrdered p 0x4B (sealOrdered 0x4B (be 5 t2 ++ be 3 t3v ++ be 2 (unsgn 16 th) ++ be 2 (t1 % 2 ^ 16)))])

/-- What reaches port `p` at `t`, where a TIME_PROBE may be. -/
def Cell.probe (t t3 p : Nat) (line : Line) (c : Cell) : Cell × List Out :=
  let c := (c.at t).hold
  match line.read (c.port p).rate with
  | .ordered 0x2D content => c.takeProbe t3 p content
  | g => (c.other p g, [])

/-! ## Upstream frames (R148, R149) -/

/-- The USF of the tick on one port (R126, R149): the values at the tick, and the six fault bits. -/
def Cell.usfOf (c : Cell) (p vcap temp res faults : Nat) (seg : Seg) : List Byte :=
  let x := c.stamp.getD c.present
  Usf.encode
    { sampleFrame := c.frame, frameEcho := x.frameEcho, claimEcho := x.claimEcho,
      status := if p = 0 then x.status0 else x.status1, gateFault := x.gate + 1024 * (faults % 64), vcap := vcap, temp := temp,
      resCurrent := if c.type = 2 then res else 0, segment := seg.encode, sampleEpoch := c.epoch }

/-- One USF on each trained port at a tick, once a time correction has been applied and a DSF accepted (R148). -/
def Cell.usfSend (vcap temp res faults : Nat) (c : Cell) : Cell × List Out :=
  if !(c.corrected && c.accepted && c.tick.isSome && !c.sent) then (c, [])
  else
    [0, 1].foldl (fun (m : Cell × List Out) p =>
      if (m.1.port p).trained then
        let (seg, e) := epTake (m.1.port p).ep
        (m.1.epUpd p (fun _ => e), m.2 ++ [.usf p (m.1.usfOf p vcap temp res faults seg)])
      else m) ({ c with sent := true }, [])

end Sys2Proof.Machine
end

