-- ==== Sys2Proof/Syntax.lean ====
section
/-! DEFINITION. The commands of the block: one constructor for each row of spec/opcode_table.json, in the table's order. The table
gives its rows no bits, so an operand is what the row's rule names: a lane, a slot, a channel or a queue; a written word; the bytes
that arrive; what a message carries; the outcome of something that happens outside the model. A time `t` is a count of REF, in
250 ps units. -/
namespace Sys2Proof
open Sys2Proof.Machine

/-- Mark: DESIGN CHOICE, safe (log entry 144). -/
inductive Instr where
  /-- RD (R42). -/
  | rd (rest : Nat) (segs : List Nat)
  /-- WR (R54). -/
  | wr (rest : Nat) (segs : List Nat)
  /-- RD_INC (R55). -/
  | rdInc (rest : Nat) (segs : List Nat)
  /-- WR_INC (R55). -/
  | wrInc (rest : Nat) (segs : List Nat)
  /-- RD_PORT (R54). -/
  | rdPort (rest : Nat) (segs : List Nat)
  /-- WR_PORT (R54). -/
  | wrPort (rest : Nat) (segs : List Nat)
  /-- NOP (R47). -/
  | nop (hdr : Nat) (segs : List Nat)
  /-- ACCESS_COMPLETE (R47). -/
  | accessComplete (t : Nat)
  /-- DOMAIN_OFF (R48). -/
  | domainOff (t : Nat)
  /-- HRP_ABORT (R49). -/
  | hrpAbort (complete : Bool)
  /-- PLAIN_REGISTER_WRITE (R51). -/
  | plainRegisterWrite (a w bm : Nat)
  /-- COMMIT (R56). -/
  | commit (g : Nat)
  /-- COMMIT_CUTOFF (R56). -/
  | commitCutoff
  /-- COMMIT_OUTCOME (R571). -/
  | commitOutcome
  /-- AV_COMMIT (R65). -/
  | avCommit (k : Nat)
  /-- STAGE (R65). -/
  | stage (h : SpanHdr) (k target : Nat) (set : SMap Nat)
  /-- VERDICT (R66). -/
  | verdict (h : SpanHdr) (k target reason : Nat)
  /-- AV_COMMIT_APPLY (R65). -/
  | avCommitApply
  /-- MBX_REQUEST (R69). -/
  | mbxRequest (m item : Nat) (atFrame : Bool)
  /-- MBX_CAPTURE (R69). -/
  | mbxCapture (m t : Nat)
  /-- MBX_DATA_READ (R69). -/
  | mbxDataRead (m : Nat)
  /-- SNAP_PART (R75). -/
  | snapPart (h : SpanHdr) (frame : Nat) (words : List Nat)
  /-- SNAPSHOT_TIMEOUT (R75). -/
  | snapshotTimeout
  /-- DW_DATA_WRITE (R77). -/
  | dwDataWrite (k w : Nat)
  /-- DW_RESULT_READ (R76). -/
  | dwResultRead (k : Nat)
  /-- TOD_ARM (R81). -/
  | todArm
  /-- PPS_EDGE (R83). -/
  | ppsEdge (t : Nat)
  /-- PPS_LOCKED (R85). -/
  | ppsLocked
  /-- PPS_LOCK_LOST (R85). -/
  | ppsLockLost
  /-- HOLDOVER (R85). -/
  | holdover (t : Nat)
  /-- HOLDOVER_LIMIT (R85). -/
  | holdoverLimit (t : Nat)
  /-- FRAME_TICK (R96). -/
  | frameTick (codes : List (List Int))
  /-- PROBE_INTERVAL (R89). -/
  | probeInterval (ln : Nat)
  /-- TIME_PROBE (R131). -/
  | timeProbe (ln t : Nat)
  /-- TIME_ECHO (R90). -/
  | timeEcho (ln t : Nat) (line : Line)
  /-- PROBE_AVERAGE_RESTART (R90). -/
  | probeAverageRestart (ln : Nat)
  /-- ALIGN_CELL (R95). -/
  | alignCell (l : Nat)
  /-- ALIGN_HEAD (R95). -/
  | alignHead
  /-- ECHO_LOST (R131). -/
  | echoLost (ln : Nat)
  /-- CE_PASS (R194). -/
  | cePass (corr : Nat) (uncorr : Bool)
  /-- NONFINITE_LIMIT (R209). -/
  | nonfiniteLimit (inst : Nat)
  /-- INIT (R217). -/
  | init
  /-- CE_INITIALISE (R216). -/
  | ceInitialise
  /-- SPAN_OUT (R204). -/
  | spanOut (h : SpanHdr) (frame : Nat) (vals : List Nat)
  /-- GATHER_DEADLINE (R106). -/
  | gatherDeadline
  /-- SORT_END (R238). -/
  | sortEnd
  /-- QUOTA_COMPUTE (R235). -/
  | quotaCompute
  /-- QUOTA_LATE (R106). -/
  | quotaLate
  /-- CE_OVERRUN (R106). -/
  | ceOverrun
  /-- CELL_SELECTION (R242). -/
  | cellSelection
  /-- DSF_LAUNCH (R121). -/
  | dsfLaunch
  /-- LAUNCH_LATE (R106). -/
  | launchLate
  /-- MISS_LIMIT (R107). -/
  | missLimit (code pos : Nat)
  /-- TB_UNLOCK (R106). -/
  | tbUnlock
  /-- USF (R136). -/
  | usf (l : Nat) (line : Line)
  /-- SUSPECT_LIMIT (R137). -/
  | suspectLimit (l : Nat)
  /-- CELL_LOST (R339). -/
  | cellLost (l : Nat)
  /-- SUSPECT_CLEAR (R137). -/
  | suspectClear (l : Nat)
  /-- GO (R181). -/
  | go
  /-- CONV_OPEN (R170). -/
  | convOpen (l : Nat)
  /-- CONV_SEG_TIMEOUT (R163). -/
  | convSegTimeout (l : Nat)
  /-- CONV_WHOLE_TIMEOUT (R184). -/
  | convWholeTimeout (slot : Nat)
  /-- CONV_ABORT (R184). -/
  | convAbort (slot : Nat)
  /-- CONV_RELEASE (R184). -/
  | convRelease (slot : Nat)
  /-- REDISCOVER (R185). -/
  | rediscover (l : Nat)
  /-- DISCOVERY_DEFER (R185). -/
  | discoveryDefer (l : Nat)
  /-- DISC_RETRY (R186). -/
  | discRetry (l : Nat)
  /-- SUMMARY (R238). -/
  | summary (h : SpanHdr) (r : Report)
  /-- QUOTA (R241). -/
  | quota (h : SpanHdr) (q : QuotaMsg)
  /-- SUPPRESS_END (R250). -/
  | suppressEnd (arm : Nat)
  /-- SUPPRESS_TIMEOUT (R250). -/
  | suppressTimeout (arm : Nat)
  /-- TEST_FAIL (R291). -/
  | testFail (k : Nat)
  /-- TEST_FAIL_CLEAR (R291). -/
  | testFailClear (k : Nat)
  /-- MET_GO (R296). -/
  | metGo (c t : Nat)
  /-- MET_INTEGRATION_START (R296). -/
  | metIntegrationStart (c : Nat)
  /-- MET_CONVERSION_END (R296). -/
  | metConversionEnd (c t : Nat) (x : Int) (ovr : Bool)
  /-- LSYNC_EDGE (R294). -/
  | lsyncEdge (t : Nat)
  /-- LSYNC_LOSS (R294). -/
  | lsyncLoss (t : Nat)
  /-- NOREF (R299). -/
  | noref (c t : Nat)
  /-- CAP_ARM (R306). -/
  | capArm
  /-- CAP_TRIGGER (R306). -/
  | capTrigger
  /-- CAP_DONE (R306). -/
  | capDone
  /-- HARD_OC (R315). -/
  | hardOc (k : Nat) (code : Int) (t : Nat)
  /-- SOFT_OC (R316). -/
  | softOc (k : Nat) (code : Int) (t : Nat)
  /-- PENDING_EVALUATE (R318). -/
  | pendingEvaluate (k : Nat) (code : Int) (t : Nat)
  /-- SPAN_SHUTTER (R135). -/
  | spanShutter (x : LaneLine)
  /-- RELEASE (R325). -/
  | release
  /-- RELEASE_APPLY (R326). -/
  | releaseApply
  /-- HOST_SHUTTER (R327). -/
  | hostShutter
  /-- AV_HOST_SHUTTER (R327). -/
  | avHostShutter
  /-- F4_RESET (R328). -/
  | f4Reset
  /-- UNPIN (R347). -/
  | unpin
  /-- UNPIN_ALL (R347). -/
  | unpinAll
  /-- CLEAR_BYPASS (R341). -/
  | clearBypass
  /-- FAULT_ENGINE_TAKE (R344). -/
  | faultEngineTake
  /-- SENSOR_SUBST (R334). -/
  | sensorSubst (k : Nat)
  /-- SENSOR_TIMEOUT (R337). -/
  | sensorTimeout (k : Nat)
  /-- SENSOR_RESTORE (R338). -/
  | sensorRestore (k : Nat)
  /-- BLOCK_END (R340). -/
  | blockEnd (l : Nat)
  /-- DX_NO_RES (R342). -/
  | dxNoRes (l : Nat)
  /-- TEMP_CONVERSION (R354). -/
  | tempConversion (k : Nat) (x : Int)
  /-- SENSOR_BROKEN (R356). -/
  | sensorBroken (k : Nat)
  /-- BROKEN_CLEAR (R356). -/
  | brokenClear (k : Nat)
  /-- SAFETY_CYCLE (R370). -/
  | safetyCycle (t found ecc : Nat)
  /-- LIMITED_FUNCTION_DEMAND (R387). -/
  | limitedFunctionDemand (k : Nat)
  /-- INPUT_DEMAND (R377). -/
  | inputDemand (k : Nat)
  /-- INPUT_CLEAR (R377). -/
  | inputClear (k : Nat)
  /-- TEST_PULSE (R380). -/
  | testPulse (k low touched : Nat)
  /-- HARDWARE_MONITOR_FAULT (R371). -/
  | hardwareMonitorFault (clock : Bool)
  /-- ISLAND_WATCHDOG (R371). -/
  | islandWatchdog
  /-- ACK_STUCK (R372). -/
  | ackStuck
  /-- SAFE_ACK (R398). -/
  | safeAck (t ms : Nat)
  /-- SAF_ARM (R400). -/
  | safArm (w : Nat)
  /-- ARMED_EXPIRY (R400). -/
  | armedExpiry (t : Nat)
  /-- SELECTION_CONFIRM (R401). -/
  | selectionConfirm (w : Nat)
  /-- HOST_BLOCK (R402). -/
  | hostBlock
  /-- START_WINDOW (R378): at the time of the state. -/
  | startWindow
  /-- SELFTEST_DONE (R374): at the time of the state. -/
  | selftestDone
  /-- PERMIT_IN_EDGE (R390). -/
  | permitInEdge (t : Nat) (high : Bool)
  /-- CLOSING_ATTEMPT (R391). -/
  | closingAttempt (t : Nat)
  /-- CHAIN_CLOSED (R391). -/
  | chainClosed (t : Nat)
  /-- CLOSING_ATTEMPT_TIMEOUT (R391). -/
  | closingAttemptTimeout (t : Nat)
  /-- SAFETY (R394). -/
  | safety (t : Nat) (h : SpanHdr) (bytes : List Byte)
  /-- MSG_LOSS (R394). -/
  | msgLoss (t p : Nat)
  /-- CHAIN (R395). -/
  | chain (t : Nat)
  /-- DARK_PULSE (R376). -/
  | darkPulse (so : Nat) (good : Bool)
  /-- ESTABLISH_END (R413). -/
  | establishEnd (t : Nat)
  /-- COLD_WAKE (R414). -/
  | coldWake (t : Nat)
  /-- RELINQUISH (R420). -/
  | relinquish
  /-- HANDOVER (R420). -/
  | handover
  /-- STANDBY (R420). -/
  | standby
  /-- TAKE (R420). -/
  | take
  /-- WAKE (R420). -/
  | wake
  /-- CLAIM_NOT_TAKEN (R417). -/
  | claimNotTaken
  /-- LEAD_LOST (R417). -/
  | leadLost
  /-- LOCKSTEP (R417). -/
  | lockstep
  /-- NOTICE (R423). -/
  | notice (bytes : List Byte)
  /-- HATCH_BLOCK (R422). -/
  | hatchBlock (bytes : List Byte)
  /-- CHECKPOINT_CAPTURE (R424). -/
  | checkpointCapture
  /-- CHECKPOINT_SENT (R424). -/
  | checkpointSent
  /-- SETTINGS_SEND (R426). -/
  | settingsSend
  /-- CHECKPOINT_WATCHDOG (R428). -/
  | checkpointWatchdog (t : Nat)
  /-- WAKE_BEACON (R431). -/
  | wakeBeacon
  /-- RESTORE_DONE (R430). -/
  | restoreDone (t : Nat) (crcOk : Bool)
  /-- OPEN_DONE (R430). -/
  | openDone (t : Nat)
  /-- TIME_DONE (R432). -/
  | timeDone (t : Nat)
  /-- LOAD_DONE (R433). -/
  | loadDone (t : Nat)
  /-- WAKE_PHASE_TIMEOUT (R430). -/
  | wakePhaseTimeout (t : Nat)
  /-- LOADED (R434). -/
  | loaded (h : SpanHdr) (gen : Nat)
  /-- CLAIM_NAME_TIMEOUT (R434). -/
  | claimNameTimeout (t : Nat)
  /-- CLAIM_TICK (R434). -/
  | claimTick
  /-- RESUME (R435). -/
  | resume
  /-- RESUME_LATE (R435). -/
  | resumeLate
  /-- LANE_POWER (R454). -/
  | lanePower (ln w : Nat)
  /-- PLL_LOCK (R447). -/
  | pllLock (ln : Nat)
  /-- SIGNAL_DETECT (R447). -/
  | signalDetect (ln : Nat)
  /-- ALIGN_LOCK (R447). -/
  | alignLock (ln : Nat)
  /-- TRAIN (R447). -/
  | train (ln : Nat) (line : Line) (inverted : Bool)
  /-- TRAIN_ATTEMPT_LIMIT (R447). -/
  | trainAttemptLimit (ln : Nat)
  /-- LANE_DOWN (R451). -/
  | laneDown (ln errors : Nat)
  /-- LANE_EQ_WRITE (R445). -/
  | laneEqWrite (ln w : Nat)
  /-- MODE_WRITE (R465). -/
  | modeWrite (ln mode : Nat)
  /-- INJECT_ONE (R466). -/
  | injectOne (ln : Nat)
  /-- INJECT_BURST (R466). -/
  | injectBurst (ln : Nat)
  /-- CHECKER_LOCK (R464). -/
  | checkerLock (ln : Nat) (inverted : Bool)
  /-- CHECKER_LOSS (R464). -/
  | checkerLoss (ln wrong kbits : Nat)
  /-- ENUM_SEND (R460). -/
  | enumSend
  /-- ENUM (R460). -/
  | enum (h : SpanHdr) (admitted ring : Nat) (full spectator : Bool)
  /-- ENUM_REPLY (R460). -/
  | enumReply (h : SpanHdr) (position : Nat)
  /-- STATION (R461). -/
  | station
  /-- UL_SHUTTER (R463). -/
  | ulShutter (ln : Nat) (line : Line)
  /-- UL_SHUTTER_CLEAR (R463). -/
  | ulShutterClear
  /-- POR_AON (R498). -/
  | porAon (t : Nat)
  /-- POR_CORE (R498). -/
  | porCore (t : Nat)
  /-- POR_SAFE (R498). -/
  | porSafe (t : Nat)
  /-- RESET_N (R498). -/
  | resetN (t : Nat)
  /-- SOFT (R499). -/
  | soft
  /-- SUP_WDT (R498). -/
  | supWdt (t : Nat)
  /-- RESET_RELEASE (R500). -/
  | resetRelease (t position unit : Nat)
  /-- OTP_STAGE (R500). -/
  | otpStage (corr : Nat) (unc : List Nat)
  /-- REF_STAGE (R500). -/
  | refStage (t : Nat) (locked : Bool)
  /-- BIST_STAGE (R500). -/
  | bistStage (pass : Bool)
  /-- SLOTS_STAGE (R485). -/
  | slotsStage (t : Nat)
  /-- CONFIGURATION_COMPLETE (R502). -/
  | configurationComplete (t : Nat)
  /-- LOAD (R487). -/
  | load
  /-- LOAD_COMPLETE (R487). -/
  | loadComplete (t : Nat)
  /-- PROGRAM_SLOT (R487). -/
  | programSlot
  /-- PROGRAM_SLOT_COMPLETE (R487). -/
  | programSlotComplete (good : Bool)
  /-- TOKEN (R492). -/
  | token
  /-- ATTEST (R493). -/
  | attest
  /-- ATTEST_COMPLETE (R494). -/
  | attestComplete
  /-- ADVANCE_SVN (R484). -/
  | advanceSvn
  /-- PROVISION (R489). -/
  | provision
  /-- PROVISION_COMPLETE (R489). -/
  | provisionComplete
  /-- DEPLOY (R490). -/
  | deploy
  /-- LOCK (R492). -/
  | lock
  /-- UNLOCK_EXPIRY (R492). -/
  | unlockExpiry (t : Nat)
  /-- START (R508). -/
  | start
  /-- CONFIRM (R508). -/
  | confirm
  /-- ABORT (R511). -/
  | abort
  /-- DISCHARGED (R513). -/
  | discharged
  /-- ENG_STEP_TIMEOUT (R508). -/
  | engStepTimeout
  /-- SUBMIT (R520). -/
  | submit
  /-- ENERGY_START (R526). -/
  | energyStart (q t : Nat)
  /-- ENERGY_STOP (R526). -/
  | energyStop (q : Nat)
  /-- MET_CHECK (R527). -/
  | metCheck (q : Nat) (zero ref : Int)
  /-- FW_DISTRIBUTE (R528). -/
  | fwDistribute (q : Nat)
  /-- LOG_FAULTS (R529). -/
  | logFaults (q : Nat) (good : Bool)
  /-- LOG_CHECKPOINT (R529). -/
  | logCheckpoint (q : Nat) (good : Bool)
  /-- LOG_READ (R529). -/
  | logRead (q : Nat)
  /-- LOG_ERASE (R525). -/
  | logErase (q : Nat) (good : Bool)
  /-- SERVICE_END (R522). -/
  | serviceEnd (q : Nat)
  /-- NEXT (R522). -/
  | next
  /-- CANCEL (R523). -/
  | cancel (ticket : Nat)
  /-- MON_HELP (R534). -/
  | monHelp
  /-- MON_INFO (R534). -/
  | monInfo
  /-- MON_RD (R535). -/
  | monRd (a n : Nat)
  /-- MON_STATE (R534). -/
  | monState
  /-- MON_FAULTS (R534). -/
  | monFaults (n : Nat)
  /-- MON_LANES (R534). -/
  | monLanes
  /-- MON_WR (R535). -/
  | monWr (a w bm : Nat)
  /-- MON_SVC (R534). -/
  | monSvc (code : Nat) (args : List Nat)
  /-- MON_RESET (R534). -/
  | monReset
  /-- ERR_LINE (R533). -/
  | errLine
  /-- CELL_DSF (R142): what passes on the lane, in the pieces dsf, bulk and rest, in this order. -/
  | cellDsf (t p : Nat) (dsf bulk rest : Line)
  /-- CELL_TARGET_TICK (R143). -/
  | cellTargetTick
  /-- CELL_EDGE (R144). -/
  | cellEdge
  /-- CELL_SHUTTER (R145). -/
  | cellShutter (t p : Nat) (line : Line)
  /-- CELL_PROBE (R140). -/
  | cellProbe (t t3 p : Nat) (line : Line)
  /-- CELL_GAP (R146). -/
  | cellGap
  /-- CELL_SIMMER_END (R146). -/
  | cellSimmerEnd
  /-- CELL_FLOOR_CLEAR (R147). -/
  | cellFloorClear (t : Nat)
  /-- CELL_USF_SEND (R149). -/
  | cellUsfSend (vcap temp res faults : Nat)
  /-- CELL_SEGMENT (R175). -/
  | cellSegment (p : Nat) (bytes : List Byte)
  /-- CELL_RETX_TIMEOUT (R163). -/
  | cellRetxTimeout (p : Nat)
  /-- CELL_IDLE_TIMEOUT (R175). -/
  | cellIdleTimeout (p : Nat)
  /-- CELL_WORK_DONE (R175). -/
  | cellWorkDone (p status : Nat) (value : List Byte) (stored : Bool) (version : Nat)
  /-- SPAN_TIME_PROBE (R93). -/
  | spanTimeProbe (ln t t3 : Nat) (shift : Int) (t0 : Option (Nat × Nat × Nat)) (line : Line)
  /-- TICKS_RESUME (R217). -/
  | ticksResume
  /-- CELL_NODE_BOOT (R147). -/
  | cellNodeBoot (setup : Option NodeSetup)
  /-- CAP_LEVEL_TRIGGER (R306). -/
  | capLevelTrigger (x : ChanCode)
  deriving DecidableEq, Repr

end Sys2Proof
end

