-- ==== Sys2Proof/Decode.lean ====
section
/-! DEFINITION. The words of the opcode table. Every row of spec/opcode_table.json has an empty list of fields: no row gives bits, so no
word spells a command. -/
namespace Sys2Proof

/-- The command that a table word spells: none. Mark: DESIGN CHOICE, safe (log entry 3). -/
def decodeTableWord (_nbits _w : Nat) : Option Instr := none

end Sys2Proof
end

