-- ==== Sys2Proof/Machine/Float.lean ====
section
/-! DEFINITION. Binary floating point, exactly: a pattern is read as a sign, an integer and a power of two; an
operation is computed exactly and rounded ONCE, to nearest with ties to even (R207, R263, R285, R302, R358: the
arithmetic the spec names). binary32 is what registers, frames and the control engine hold; binary64 is where
the spec asks for it. Nothing here chooses a value: a NaN is the one quiet pattern `Fmt.qnan`. -/
namespace Sys2Proof.Machine

/-- A binary interchange format: fraction bits and exponent bits. -/
structure Fmt where
  frac : Nat
  ebits : Nat
  deriving DecidableEq, Repr

/-- IEEE 754 binary32. -/
def f32 : Fmt := ⟨23, 8⟩
/-- IEEE 754 binary64. -/
def f64 : Fmt := ⟨52, 11⟩

/-- What a pattern stands for: `fin s m e` is (-1)^s * m * 2^e. -/
inductive FVal where
  | fin (neg : Bool) (m : Nat) (e : Int)
  | inf (neg : Bool)
  | nan
  deriving DecidableEq, Repr

def Fmt.bias (f : Fmt) : Nat := 2 ^ (f.ebits - 1) - 1
def Fmt.emask (f : Fmt) : Nat := 2 ^ f.ebits - 1
/-- The exponent of the last place of a subnormal. -/
def Fmt.emin (f : Fmt) : Int := 1 - (f.bias : Int) - (f.frac : Int)
def Fmt.qnan (f : Fmt) : Nat := f.emask * 2 ^ f.frac + 2 ^ (f.frac - 1)
def Fmt.infBits (f : Fmt) (neg : Bool) : Nat :=
  f.emask * 2 ^ f.frac + (if neg then 2 ^ (f.frac + f.ebits) else 0)

/-- Read a pattern. -/
def Fmt.unpack (f : Fmt) (b : Nat) : FVal :=
  let s := b / 2 ^ (f.frac + f.ebits) % 2 == 1
  let e := b / 2 ^ f.frac % 2 ^ f.ebits
  let m := b % 2 ^ f.frac
  if e = f.emask then (if m = 0 then .inf s else .nan)
  else if e = 0 then .fin s m f.emin
  else .fin s (m + 2 ^ f.frac) (f.emin + ((e : Int) - 1))

/-- m / 2^k rounded to nearest, ties to even. -/
def rneShift (m k : Nat) : Nat :=
  let q := m / 2 ^ k
  let r := m % 2 ^ k
  if k = 0 then m
  else if 2 * r > 2 ^ k then q + 1
  else if 2 * r = 2 ^ k then q + q % 2
  else q

/-- Round (-1)^s * m * 2^e to a pattern of the format, to nearest with ties to even. -/
def Fmt.pack (f : Fmt) (neg : Bool) (m : Nat) (e : Int) : Nat :=
  let sb := if neg then 2 ^ (f.frac + f.ebits) else 0
  if m = 0 then sb
  else
    let bl : Int := (Nat.log2 m : Int) + 1
    -- exponent of the last place kept
    let le : Int := max (e + bl - ((f.frac : Int) + 1)) f.emin
    let q := if le ≤ e then m * 2 ^ (e - le).toNat else rneShift m (le - e).toNat
    -- rounding may carry into the next binade
    let c := 2 ^ (f.frac + 1) ≤ q
    let q' := if c then q / 2 else q
    let le' := if c then le + 1 else le
    if q' < 2 ^ f.frac then sb + q'
    else
      let be := (le' - f.emin).toNat + 1
      if f.emask ≤ be then f.infBits neg
      else sb + be * 2 ^ f.frac + (q' - 2 ^ f.frac)

/-- The format's pattern of a value. -/
def Fmt.ofVal (f : Fmt) : FVal → Nat
  | .fin s m e => f.pack s m e
  | .inf s => f.infBits s
  | .nan => f.qnan

/-- m * 2^e as an integer multiple of 2^e0, where e0 is at most e. -/
def scaleTo (neg : Bool) (m : Nat) (e e0 : Int) : Int :=
  let v : Int := ((m * 2 ^ (e - e0).toNat : Nat) : Int)
  if neg then -v else v

def FVal.neg : FVal → FVal
  | .fin s m e => .fin (!s) m e
  | .inf s => .inf (!s)
  | .nan => .nan

def FVal.abs : FVal → FVal
  | .fin _ m e => .fin false m e
  | .inf _ => .inf false
  | .nan => .nan

/-- The exact sum, its zero signed as IEEE 754 gives it under round to nearest. -/
def FVal.add : FVal → FVal → FVal
  | .fin s m e, .fin s' m' e' =>
    let e0 := min e e'
    let v := scaleTo s m e e0 + scaleTo s' m' e' e0
    if v = 0 then .fin (s && s') 0 e0 else .fin (decide (v < 0)) v.natAbs e0
  | .inf s, .inf s' => if s = s' then .inf s else .nan
  | .nan, _ => .nan
  | _, .nan => .nan
  | .inf s, _ => .inf s
  | _, .inf s => .inf s

def FVal.mul : FVal → FVal → FVal
  | .fin s m e, .fin s' m' e' => .fin (s != s') (m * m') (e + e')
  | .nan, _ => .nan
  | _, .nan => .nan
  | .inf s, .inf s' => .inf (s != s')
  | .inf s, .fin s' m _ => if m = 0 then .nan else .inf (s != s')
  | .fin s m _, .inf s' => if m = 0 then .nan else .inf (s != s')

/-- The quotient, to `p` bits beyond the larger operand, its last bit sticky: rounding it to a format of fewer
than `p` bits rounds the exact quotient. -/
def FVal.div (p : Nat) : FVal → FVal → FVal
  | .fin s m e, .fin s' m' e' =>
    if m' = 0 then (if m = 0 then .nan else .inf (s != s'))
    else
      let k := p + Nat.log2 m' + 2
      let q := m * 2 ^ k / m'
      let r := m * 2 ^ k % m'
      .fin (s != s') (2 * q + (if r = 0 then 0 else 1)) (e - e' - (k : Int) - 1)
  | .nan, _ => .nan
  | _, .nan => .nan
  | .inf _, .inf _ => .nan
  | .inf s, .fin s' _ _ => .inf (s != s')
  | .fin s _ _, .inf s' => .fin (s != s') 0 0

/-- The integer square root by bits, from the highest: `r` is the root found so far. -/
def isqrtGo (n : Nat) : Nat → Nat → Nat
  | 0, r => r
  | k + 1, r =>
    let r' := r + 2 ^ k
    isqrtGo n k (if r' * r' ≤ n then r' else r)

def isqrt (n : Nat) : Nat := isqrtGo n (Nat.log2 n / 2 + 1) 0

/-- The square root, to at least `p` bits, its last bit sticky. -/
def FVal.sqrt (p : Nat) : FVal → FVal
  | .fin s m e =>
    if m = 0 then .fin s 0 e
    else if s then .nan
    else
      -- make the exponent even and the integer long enough
      let odd := e % 2 = 1
      let m1 := if odd then 2 * m else m
      let e1 := if odd then e - 1 else e
      let n := m1 * 2 ^ (2 * p)
      let r := isqrt n
      .fin false (2 * r + (if r * r = n then 0 else 1)) (e1 / 2 - (p : Int) - 1)
  | .inf s => if s then .nan else .inf false
  | .nan => .nan

/-- Is a value finite? -/
def FVal.isFin : FVal → Bool
  | .fin _ _ _ => true
  | _ => false

/-- a < b; false where either is a NaN. -/
def FVal.lt : FVal → FVal → Bool
  | .fin s m e, .fin s' m' e' =>
    let e0 := min e e'
    decide (scaleTo s m e e0 < scaleTo s' m' e' e0)
  | .nan, _ => false
  | _, .nan => false
  | .inf s, .inf s' => s && !s'
  | .inf s, _ => s
  | _, .inf s => !s

def FVal.eqv : FVal → FVal → Bool
  | .nan, _ => false
  | _, .nan => false
  | a, b => !FVal.lt a b && !FVal.lt b a

def FVal.le (a b : FVal) : Bool := FVal.lt a b || FVal.eqv a b

/-- An integer as a value. -/
def FVal.ofInt (i : Int) : FVal := .fin (decide (i < 0)) i.natAbs 0

/-- The value rounded to an integer, ties to even (0 for what is not finite). -/
def FVal.roundInt : FVal → Int
  | .fin s m e =>
    let q := if 0 ≤ e then m * 2 ^ e.toNat else rneShift m (-e).toNat
    if s then -(q : Int) else q
  | _ => 0

/-- The value rounded down to an integer (0 for what is not finite). -/
def FVal.floorInt : FVal → Int
  | .fin s m e =>
    if 0 ≤ e then (if s then -((m * 2 ^ e.toNat : Nat) : Int) else ((m * 2 ^ e.toNat : Nat) : Int))
    else
      let q := m / 2 ^ (-e).toNat
      let r := m % 2 ^ (-e).toNat
      if s then (if r = 0 then -(q : Int) else -(q : Int) - 1) else (q : Int)
  | _ => 0

/-- One operation of a format: operands read, computed exactly, rounded once. -/
def Fmt.op2 (f : Fmt) (g : FVal → FVal → FVal) (a b : Nat) : Nat :=
  f.ofVal (g (f.unpack a) (f.unpack b))

def Fmt.add (f : Fmt) (a b : Nat) : Nat := f.op2 FVal.add a b
def Fmt.sub (f : Fmt) (a b : Nat) : Nat := f.op2 (fun x y => FVal.add x y.neg) a b
def Fmt.mul (f : Fmt) (a b : Nat) : Nat := f.op2 FVal.mul a b
def Fmt.div (f : Fmt) (a b : Nat) : Nat := f.op2 (FVal.div (2 * f.frac + 8)) a b
def Fmt.sqrt (f : Fmt) (a : Nat) : Nat := f.ofVal (FVal.sqrt (2 * f.frac + 8) (f.unpack a))
def Fmt.lt (f : Fmt) (a b : Nat) : Bool := FVal.lt (f.unpack a) (f.unpack b)
def Fmt.le (f : Fmt) (a b : Nat) : Bool := FVal.le (f.unpack a) (f.unpack b)
def Fmt.feq (f : Fmt) (a b : Nat) : Bool := FVal.eqv (f.unpack a) (f.unpack b)
def Fmt.isFin (f : Fmt) (a : Nat) : Bool := (f.unpack a).isFin
/-- An integer converted to the format, rounded to nearest even. -/
def Fmt.ofInt (f : Fmt) (i : Int) : Nat := f.ofVal (FVal.ofInt i)
/-- A pattern converted from one format to another, rounded to nearest even. -/
def Fmt.conv (g : Fmt) (f : Fmt) (a : Nat) : Nat := f.ofVal (g.unpack a)
/-- m * 2^e, exactly rounded. -/
def Fmt.ofDyadic (f : Fmt) (i : Int) (e : Int) : Nat := f.pack (decide (i < 0)) i.natAbs e
/-- n / d for integers, rounded to nearest even. -/
def Fmt.ofRatio (f : Fmt) (n : Int) (d : Nat) : Nat :=
  f.ofVal (FVal.div (2 * f.frac + 8) (FVal.ofInt n) (FVal.ofInt (d : Int)))

/-- 1.0 in binary32. -/
def f32one : Nat := 0x3F800000

end Sys2Proof.Machine
end

