-- ==== Sys2Proof/Machine/Approx.lean ====
section
/-! DEFINITION. Functions that the spec bounds and gives no bits for (R207, R220, R221, R354): a free value where it lies inside the bound, and
otherwise the value itself, computed in fixed point to 2^-128 and rounded once. -/
namespace Sys2Proof.Machine

/-! ## Fixed point -/

/-- A value in units of 2^-128, cut to whole ones; 0 for what is not finite. -/
def fixOf : FVal → Int
  | .fin s m e =>
    let n : Nat := if -128 ≤ e then m * 2 ^ (e + 128).toNat else m / 2 ^ (-128 - e).toNat
    if s then -(n : Int) else n
  | _ => 0

def fixPi : Int := 0x3243f6a8885a308d313198a2e03707345
def fixLn10 : Int := 0x24d763776aaa2b05ba95b58ae0b4c28a4

/-- The terms of sine or cosine after `t`, the one of degree `k`. -/
def trigTerms (x2 : Int) : Nat → Nat → Int → Int → Int
  | 0, _, _, sum => sum
  | n + 1, k, t, sum =>
    let t' := -(t * x2 / 2 ^ 128) / (((k + 1) * (k + 2) : Nat) : Int)
    trigTerms x2 n (k + 2) t' (sum + t')

def sinFix (x : Int) : Int := trigTerms (x * x / 2 ^ 128) 40 1 x x
def cosFix (x : Int) : Int := trigTerms (x * x / 2 ^ 128) 40 0 (2 ^ 128) (2 ^ 128)

/-- The whole turns in an angle, and the angle of [0, 2 pi) and of [-pi, pi) that it is. -/
def turnsOf (x : Int) : Int := x / (2 * fixPi)
def angleOf (x : Int) : Int := x % (2 * fixPi)
def angleAbout (x : Int) : Int := angleOf (x + fixPi) - fixPi

def expTerms (z : Int) : Nat → Nat → Int → Int → Int
  | 0, _, _, sum => sum
  | n + 1, k, t, sum =>
    let t' := t * z / 2 ^ 128 / ((k + 1 : Nat) : Int)
    expTerms z n (k + 1) t' (sum + t')

def sqFix (x : Int) : Int := x * x / 2 ^ 128

/-- e^z for a `z` of small size. -/
def expFix (z : Int) : Int := sqFix (sqFix (sqFix (sqFix (expTerms (z / 16) 40 0 (2 ^ 128) (2 ^ 128)))))

/-- A free value where it lies within `tol` of `x`, and otherwise `x` rounded. -/
def Fmt.near (f : Fmt) (v : Nat) (x : Int) (tol : Nat) : Nat :=
  let v := v % 2 ^ (f.frac + f.ebits + 1)
  if f.isFin v && decide ((fixOf (f.unpack v) - x).natAbs ≤ tol) then v else f.ofDyadic x (-128)

def atanhTerms (y2 : Int) : Nat → Nat → Int → Int → Int
  | 0, _, _, sum => sum
  | n + 1, k, t, sum =>
    let t' := t * y2 / 2 ^ 128
    atanhTerms y2 n (k + 2) t' (sum + t' / ((k + 2 : Nat) : Int))

/-- 2 artanh(p / q) for a quotient of at most one third. -/
def atanh2 (p q : Int) : Int :=
  let y := p * 2 ^ 128 / q
  2 * atanhTerms (sqFix y) 45 1 y y

/-- ln(p / q) for whole numbers above 0. -/
def lnFix (p q : Nat) : Int :=
  let k : Int := (p.log2 : Int) - q.log2
  let p' : Int := ((p * 2 ^ (-k).toNat : Nat) : Int)
  let q' : Int := ((q * 2 ^ k.toNat : Nat) : Int)
  k * atanh2 1 3 + atanh2 (p' - q') (p' + q')

/-! ## Temperatures (R354), in units of 0.0625 degrees -/

/-- The resistance of a PT1000 in ohms by IEC 60751, times 10^15 * 16^4. Mark: PRESUMED, safe (log entry 80). -/
def ptOhms (n : Int) : Int :=
  1000 * (10 ^ 15 * 16 ^ 4 + 39083 * 10 ^ 8 * 16 ^ 3 * n - 5775 * 10 ^ 5 * 16 ^ 2 * n ^ 2 -
    (if n < 0 then 4183 * (n - 1600) * n ^ 3 else 0))

/-- The PT1000 gives at most the resistance that shows as `uv` microvolts at 100 uA. -/
def ptBelow (n : Int) (uv : Nat) : Bool := decide (100 * ptOhms n ≤ uv * (10 ^ 15 * 16 ^ 4))

/-- The highest temperature from `lo`, in steps of halves of `2 ^ k`, at which a PT1000 gives at most `uv`. -/
def ptFind (uv : Nat) : Nat → Int → Int
  | 0, lo => lo
  | k + 1, lo => ptFind uv k (if ptBelow (lo + 2 ^ k) uv then lo + 2 ^ k else lo)

/-- The temperature of a PT1000: a free value within 0.5 degrees of the law, and otherwise what the law gives. -/
def ptTemp (v : Int) (uv : Nat) : Int :=
  if -1600 ≤ v ∧ v ≤ 4800 ∧ ptBelow (v - 8) uv ∧ (uv : Int) * (10 ^ 15 * 16 ^ 4) ≤ 100 * ptOhms (v + 8) then v else ptFind uv 13 (-1600)

/-- The temperature of an NTC, by the B-parameter equation: a free value within 0.5 degrees of it, and otherwise what it gives. Where the
equation has no value the temperature is free. -/
def ntcTemp (v : Int) (r25 b : Nat) (uv : Nat) : Int :=
  let r := fixOf (f32.unpack r25)
  let bb := fixOf (f32.unpack b)
  if r ≤ 0 ∨ bb = 0 ∨ uv = 0 then v
  else
    let inv := 2 ^ 128 * 20 / 5963 + lnFix (uv * 2 ^ 128) (100 * r.toNat) * 2 ^ 128 / bb
    if inv ≤ 0 then v
    else
      let t := 16 * 2 ^ 256 / inv - 43704 * 2 ^ 128 / 10
      if (v * 2 ^ 128 - t).natAbs ≤ 8 * 2 ^ 128 then v else (t + 2 ^ 127) / 2 ^ 128

/-- The temperature of an external sensor from its terminal voltage in microvolts, by its type (0 PT1000, 1 NTC). -/
def extTemp (ty r25 b uv : Nat) : Int :=
  let v := Config.thTemp ty r25 b uv
  if ty = 0 then ptTemp v uv else ntcTemp v r25 b uv

/-! ## The control engine -/

/-- An angle reduced to [0, 2 pi) (R207, R220): within one rounding for each turn of the angle that it is. -/
def ceReduce (a : Nat) : Nat :=
  let x := fixOf (f32.unpack a)
  let v := Config.ceReduce a % 2 ^ 32
  let y := fixOf (f32.unpack v)
  if f32.isFin v && decide (v < 2 ^ 31) && decide (y < 2 * fixPi) &&
     decide ((angleAbout (y - x)).natAbs ≤ (1 + (turnsOf x).natAbs) * 2 ^ 107) then v
  else
    let r := f32.ofDyadic (angleOf x) (-128)
    if fixOf (f32.unpack r) < 2 * fixPi then r else 0

/-- The angle whose sine or cosine is taken: beyond 64 rad R207 gives no bound for its reduction. -/
def ceAngle (a : Nat) : Int :=
  let x := fixOf (f32.unpack a)
  if x.natAbs ≤ 64 * 2 ^ 128 then angleAbout x else fixOf (f32.unpack (ceReduce a))

/-- Sine and cosine of a finite angle, within 2^-22 up to 64 rad (R207). -/
def ceSin (a : Nat) : Nat := if f32.isFin a then f32.near (Config.ceSin a) (sinFix (ceAngle a)) (2 ^ 106) else f32.qnan
def ceCos (a : Nat) : Nat := if f32.isFin a then f32.near (Config.ceCos a) (cosFix (ceAngle a)) (2 ^ 106) else f32.qnan

/-! ## Notch coefficients -/

/-- tan of an angle between 0 and pi / 2 in binary64 (R221). -/
def notchTan (a : Nat) : Nat :=
  let x := fixOf (f64.unpack a)
  if x < 2 ^ 98 then
    let v := Config.tan64 a % 2 ^ 64
    if f64.isFin v && f64.le (f64.mul a 0x3FEFFFFFFFFFE000) v && f64.le v (f64.mul a 0x3FF0000000001000) then v else a
  else
    let t := sinFix x * 2 ^ 128 / cosFix x
    f64.near (Config.tan64 a) t (t.natAbs / 2 ^ 40)

/-- 10 to a power between -4 and 0, in binary64 (R219, R221). -/
def notchExp10 (a : Nat) : Nat :=
  let t := expFix (fixOf (f64.unpack a) * fixLn10 / 2 ^ 128)
  f64.near (Config.exp10 a) t (t.natAbs / 2 ^ 40)

end Sys2Proof.Machine
end

