-- ==== Sys2Proof/Machine/Claim.lean ====
section
/-! DEFINITION. The head's claim and its relinquishment (R407 to R411, R417 to R419, R524): one operation that every
cause goes through. -/
namespace Sys2Proof.Machine

/-! ## Cause codes of R417 -/

def relqClaimHigh : Nat := 0x01
def relqClaimCheck : Nat := 0x02
def relqNotTaken : Nat := 0x03
def relqTbUnlock : Nat := 0x04
def relqMissLimit : Nat := 0x05
def relqLockstep : Nat := 0x06
def relqLeadLost : Nat := 0x07
def relqGroup : Nat := 0x08
def relqHost : Nat := 0x09
def relqThermal : Nat := 0x0A
def relqSafety : Nat := 0x0B
def relqWakeFail : Nat := 0x0C

/-- An optional cause acts only when its bit of RELQ_MASK is set (R417): bit 0 MISS_LIMIT, 1 THERMAL, 2 SAFETY. -/
def Dev.relqMask (d : Dev) (i : Nat) : Bool := (d.g F.RED_START_RELQ_MASK).testBit i

/-! ## The generation record (R411) -/

/-- A generation that the record takes when it is the highest so far. -/
def Dev.noteGen (d : Dev) (claim : Nat) : Dev :=
  if claim = 0 then d
  else if !d.red.genSet || claimHigher (claimGen claim * 256 + 1) (d.g F.RED_GEN_RECORD_GENERATION * 256 + 1) then
    { d with red := { d.red with genSet := true } }.p F.RED_GEN_RECORD_GENERATION (claimGen claim)
  else d

/-! ## Services stand down (R524) -/

/-- Running requests end with STANDDOWN at their next boundary; queued requests end with it at once. -/
def Dev.svcStandDown (d : Dev) : Dev :=
  { d with svc := { d.svc with reqs := d.svc.reqs.map (fun r =>
      if r.ended.isSome then r
      else if r.running then { r with standdown := true }
      else { r with ended := some 9 }) } }

/-! ## Relinquishment (R418) -/

/-- The seven characters of a NOTICE after its control character: TYPE, claim, CRC-8 (R422). -/
def noticeBytes (claim : Nat) : List Byte :=
  let b := be 1 0x5A ++ be 4 claim
  b ++ be 1 (crc8 b)

/-- The RELINQUISH notice, eight times (R418). -/
def Dev.sendNotices (d : Dev) (claim : Nat) : Dev :=
  (List.range 8).foldl (fun d _ => d.emit (.hatch 2 (noticeBytes claim))) d

/-- The sequence of a lead that stands down while ENERGIZING ends with STANDDOWN (R514). -/
def Dev.engStandDown (d : Dev) : Dev :=
  if d.isLead && d.g F.AV_ENG_STATUS_STATE == 1 then
    let d := ((d.p F.AV_ENG_STATUS_STATE 3).p F.AV_ENG_STATUS_STEP 0).pb F.AV_ENG_STATUS_WAIT_HOST false
    let d := (d.p F.AV_ENG_STATUS_RESULT 0x0A).p F.AV_ENG_STATUS_DETAIL 0
    let d := ((d.pb F.AV_ENG_CMD_START false).pb F.AV_ENG_CMD_CONFIRM false).pb F.AV_ENG_CMD_ABORT false
    { d with eng := { d.eng with confirm := false, abort := false } }
  else d

/-- Relinquish with a cause (R417, R418): from an ACTIVE or WAKING head, nothing from any other. The claim becomes
0, the conversations end with STANDDOWN, the notices go out and cut off a checkpoint, the report to the lead is
owed, and fault RELINQUISH is raised with the cause in DETAIL. -/
def Dev.relinquish (cause : Nat) (d : Dev) : Dev :=
  if d.redState = 2 ∨ d.redState = 3 then
    let old := d.claimSent
    let d := ((d.p F.RED_STATE_STATE 4).p F.RED_STATE_PHASE 7).p F.RED_STATE_CAUSE cause
    let d := { d with claimB := 0 }.p F.RED_CLAIM_CLAIM 0
    let d := d.endAllLanes resStanddown
    let d := { d with red := { d.red with sending := [], settings := [], hold := false, handing := false,
                                          handover := none, handoverAt := none, claimAt := none, resumeAt := none, notTaken := none, relqNext := false,
                                          report := true, groupRelq := d.red.groupRelq <|> some d.cad.frame } }
    let d := ((d.pb F.RED_CMD_HANDOVER false).sendNotices old).svcStandDown.engStandDown
    (d.raise { src := 0x0901, cls := 3, detail := cause }).inc F.RED_RELINQUISH_COUNT
  else d

/-- The head's two claim registers are compared at every DSF build (R410): true when they differ. -/
def Dev.claimDiffers (d : Dev) : Bool := d.g F.RED_CLAIM_CLAIM != d.claimB

end Sys2Proof.Machine
end

