-- ==== Sys2Proof/Machine/Hcl.lean ====
section
/-! DEFINITION. Upstream frames at the head (R136 to R139) and the cell failures found in them (R339 to R342). -/
namespace Sys2Proof.Machine

/-! ## Cell failures (R339) -/

def cellLost : Nat := 0x0606
def cellOpen : Nat := 0x0607
def cellDesat : Nat := 0x0608
def cellGateUv : Nat := 0x0609
def cellOvertemp : Nat := 0x060A
def cellOvervolt : Nat := 0x060B
def cellTrip : Nat := 0x060C
def vcapTrip : Nat := 0x060D
def dxNoRes : Nat := 0x060E
def cellInterlock : Nat := 0x0612

/-- One cell failure: the F2 with its lane, its VCAP and its action. -/
def Dev.cellFault (d : Dev) (src l acts : Nat) : Dev :=
  d.raise { src := src, cls := 2, detail := l, arms := d.armMask l, value := d.g (F.HCL_PORT_VCAP_VCAP l),
            extra := acts, event := false }

/-- A failure of a cell that asks for a BYPASS (R341). -/
def Dev.cellBypass (d : Dev) (src l : Nat) : Dev := (d.cellFault src l 0x4).actBypass l

/-- A failure of a cell that asks for a BLOCK (R340). -/
def Dev.cellBlock (d : Dev) (src l : Nat) : Dev :=
  (d.raise { src := src, cls := 2, detail := l, arms := d.armMask l, value := d.g (F.HCL_PORT_VCAP_VCAP l), extra := 0x8,
             event := false, again := d.blockedBy l src }).actBlock l src

/-- Follow one condition of a cell: raised when it appears, its cause ended when it goes (R576). -/
def Dev.follow (d : Dev) (src l : Nat) (now : Bool) (act : Dev → Dev) : Dev :=
  if now then (if d.hasCause src l then d else act d) else if d.hasCause src l then d.endCause src l else d

/-- The cell bits of GATE_FAULT (R126, R339): 10 DESAT, 11 GATE_UV, 12 OVERVOLT, 13 OVERTEMP, 14 OPEN_FAIL, 15
CELL_TRIP. A DESAT raises its F2 and, with DESAT_SHUTTER, an F3 of the same source. -/
def Dev.cellBits (d : Dev) (l gf : Nat) : Dev :=
  let b (i : Nat) : Bool := gf.testBit i
  let d := d.follow cellOpen l (b 14) (fun d => d.cellBypass cellOpen l)
  let d := d.follow cellDesat l (b 10) (fun d =>
    (d.cellBypass cellDesat l).when (d.b F.PROT_CFG_DESAT_SHUTTER) (fun d =>
      d.raise { src := cellDesat, cls := 3, detail := l, arms := d.armMask l,
                value := d.g (F.HCL_PORT_VCAP_VCAP l), event := false }))
  let d := d.follow cellOvervolt l (b 12) (fun d => d.cellBypass cellOvervolt l)
  let d := d.follow cellGateUv l (b 11) (fun d => d.cellBlock cellGateUv l)
  let d := d.follow cellOvertemp l (b 13) (fun d => d.cellBlock cellOvertemp l)
  d.follow cellTrip l (b 15 && !(b 10 || b 11 || b 12 || b 13 || b 14)) (fun d => d.cellBlock cellTrip l)

/-- Does GATE_FAULT show the cause of a BLOCK action? Mark: DEDUCED, unsafe (log entry 86). -/
def blockCause (gf src : Nat) : Bool :=
  if src = cellGateUv then gf.testBit 11 else if src = cellOvertemp then gf.testBit 13
  else if src = cellTrip then gf.testBit 15 else false

/-! ## The reported state (R139) -/

/-- STATE of HCL_PORT_STATE: the first that applies of ABSENT 6, BYPASSED 2, SUSPECT 5, BLOCKED 3, SIMMER 4,
INSERTED 1, READY 0. -/
def Dev.portState (d : Dev) (l : Nat) : Nat :=
  let p := d.port! l
  if !(d.b (F.HCL_PORT_CTRL_ENABLE l) && d.laneUp l) then 6
  else if d.b (F.HCL_PORT_CTRL_HOST_BYPASS l) || p.status.testBit 9 then 2
  else if !p.suspects.isEmpty then 5
  else if !p.blocks.isEmpty || !d.b (F.HCL_PORT_STATE_RUN_SENT l) then 3
  else if p.status.testBit 8 then 4
  else if p.inserted then 1
  else 0

/-- Show the state of a port. -/
def Dev.showPort (d : Dev) (l : Nat) : Dev := d.p (F.HCL_PORT_STATE_STATE l) (d.portState l)

/-! ## Outcomes of R136 -/

/-- The frame is not usable: the runs of good frames restart (R137, R340, R343). -/
def Port.spoil (p : Port) : Port :=
  { p with usable := false, blocks := p.blocks.map (fun a => { a with good := 0 }),
           suspects := p.suspects.map (fun a => { a with good := 0 }) }

/-- STATUS and GATE_FAULT are taken, and the cell bits acted on. -/
def Dev.takeStatus (d : Dev) (l : Nat) (u : Usf) : Dev :=
  ((d.portUpd l (fun p => { p with status := u.status })).p (F.HCL_PORT_CELL_GATE_FAULT l) u.gateFault).cellBits l
    u.gateFault

/-- BOOT of the cell changed (R136): newly attached. Mark: DEDUCED, unsafe (log entry 50). -/
def Dev.cellReboot (d : Dev) (l : Nat) (u : Usf) : Dev :=
  let d := d.inc (F.HCL_REBOOT_COUNT l)
  let d := d.p (F.HCL_PORT_STATE_CELL_STATUS l) u.status
  let d := d.portUpd l (fun p => { p.spoil with boot := some (u.status % 16), status := u.status, haveCounts := false })
  let d := d.endLane l resReboot
  (d.raiseSuspect 0x0201 l).discStart l

/-- VCAP or TEMP implausible (R136). -/
def Dev.implausible (d : Dev) (l : Nat) (u : Usf) : Bool :=
  let t := sgn 16 u.temp
  !f32.isFin u.vcap || f32.lt u.vcap (d.g F.HCL_VCAP_MIN_VOLTS) || f32.lt (d.g F.HCL_VCAP_MAX_VOLTS) u.vcap ||
  ((d.port! l).haveVcap &&
    FVal.lt (f32.unpack (d.g F.HCL_VCAP_STEP_VOLTS))
      (FVal.add (f32.unpack u.vcap) (f32.unpack (d.g (F.HCL_PORT_VCAP_VCAP l))).neg).abs) ||
  decide (t < -800) || decide (3200 < t)

/-- The differences of DS_ERR and INTERLOCK since the last usable USF (R136), and the F1 of an INTERLOCK (R339). -/
def Dev.cellCounts (d : Dev) (l : Nat) (u : Usf) : Dev :=
  let p := d.port! l
  let ds := u.status / 4096 % 16
  let il := u.gateFault / 256 % 4
  let d := d.portUpd l (fun p => { p with dsErr := ds, interlock := il, haveCounts := true })
  if !p.haveCounts then d
  else
    let di := (il + 4 - p.interlock) % 4
    let d := (d.addTo (F.HCL_CELL_DS_ERR_COUNT l) ((ds + 16 - p.dsErr) % 16)).addTo (F.HCL_INTERLOCK_COUNT l) di
    d.when (decide (0 < di)) (fun d =>
      d.raise { src := cellInterlock, cls := 1, detail := l, arms := d.armMask l,
                value := d.g (F.HCL_PORT_VCAP_VCAP l) })

/-- A usable USF (R136, R137, R139, R340, R343). The first one since the lane was ABSENT starts discovery, unless it has ended in
MISMATCH (R185, R186). -/
def Dev.usfUsable (d : Dev) (l : Nat) (u : Usf) : Dev :=
  let d := (d.p (F.HCL_PORT_VCAP_VCAP l) u.vcap).p (F.HCL_PORT_CELL_TEMP l) u.temp
  let d := (d.p (F.HCL_PORT_STATE_CELL_STATUS l) u.status).p (F.HCL_PORT_LAST_FRAME_FRAME l) u.sampleFrame
  let al := d.b (F.CAD_LANE_RESIDUAL_ALIGNED l)
  let d := d.portUpd l (fun p =>
    { p with usable := true, bad := 0, lostRaised := false, suspectRaised := false, haveVcap := true,
             boot := some (u.status % 16), gate := u.gateFault % 256, resCurrent := u.resCurrent,
             blocks := p.blocks.map (fun a => { a with good := if blockCause u.gateFault a.src then 0 else a.good + 1 }),
             suspects := p.suspects.map (fun a => { a with good := if al then a.good + 1 else 0 }) })
  let d := (d.p (F.HCL_PORT_STATE_CONSEC_BAD l) 0).endCause cellLost l
  let d := (d.cellCounts l u).takeStatus l u
  let d := d.follow vcapTrip l (f32.lt (d.g F.PROT_VCAP_TRIP_VOLTS) u.vcap) (fun d => d.cellBypass vcapTrip l)
  let first := !(d.cl l).seen
  let d := d.clUpd l (fun c => { c with seen := true })
  let d := d.convSegment l u.segment
  d.when (first && d.disc l != 2 && d.disc l != 4) (fun d => d.discStart l)

/-- The CLAIM_HIGH row: while the head's own claim is still 0 in a wake it only counts and reports (R413);
otherwise it is an F3 and the head relinquishes (R417). Mark: DEDUCED, unsafe (log entry 51). -/
def Dev.usfClaimHigh (d : Dev) (l : Nat) : Dev :=
  let d := (d.inc (F.HCL_CLAIM_HIGH_COUNT l)).portUpd l Port.spoil
  let d := { d with red := { d.red with highAt := some d.cad.frame } }
  if d.redState = 2 ∧ d.g F.RED_CLAIM_CLAIM = 0 then { d with red := { d.red with echoSeen := true } }
  else (d.raise { src := 0x0203, cls := 3, detail := l, arms := d.armMask l }).relinquish relqClaimHigh

/-- The checks of R136 from the BOOT row on. -/
def Dev.usfChecks (d : Dev) (l : Nat) (u : Usf) : Dev :=
  let p := d.port! l
  let own := d.g F.RED_CLAIM_CLAIM
  let n := d.cad.frame
  match p.boot.filter (fun b => b != u.status % 16) with
  | some _ => d.cellReboot l u
  | none =>
    if u.status / 16 % 4 ≠ d.g (F.HCL_PORT_CTRL_CELL_TYPE l) then
      ((d.inc (F.HCL_TYPE_ERR_COUNT l)).portUpd l Port.spoil).raiseSuspect 0x0202 l
    else
      let d := (d.noteGen u.claimEcho).pb (F.HCL_PORT_STATE_CLAIM_OK l) (u.claimEcho == own)
      if claimHigher u.claimEcho own then d.usfClaimHigh l
      else if u.claimEcho ≠ own then
        let d := (d.inc (F.HCL_CLAIM_LAG_COUNT l)).portUpd l Port.spoil
        let d := (d.p (F.HCL_PORT_CELL_TEMP l) u.temp).takeStatus l u
        d.convSegment l u.segment
      else if later u.frameEcho n && !(u.claimEcho == 0 && u.frameEcho == 0) then
        (d.inc (F.HCL_BAD_FRAME_COUNT l)).portUpd l Port.spoil
      else
        let lost := later n u.frameEcho && !(u.claimEcho == 0 && u.frameEcho == 0)
        let d := d.when lost (fun d => d.inc (F.HCL_DSF_LOST_COUNT l))
        if d.implausible l u then
          let d := (d.inc (F.HCL_IMPLAUSIBLE_COUNT l)).portUpd l Port.spoil
          (d.takeStatus l u).convSegment l u.segment
        else d.usfUsable l u

/-- The 64 bytes of a USF arrive on lane `l` (R136). -/
def Dev.takeUsf (d : Dev) (l : Nat) (bytes : List Byte) : Dev :=
    match usfDecode bytes with
    | none => d.inc (F.HCL_CRC_ERR_COUNT l)
    | some u =>
      let d := d.portUpd l (fun p => { p with sample := some (u.sampleFrame, u.sampleEpoch, d.cad.now) })
      if d.cad.work.gathered then d
      else if (d.port! l).got then d.inc (F.HCL_DUP_COUNT l)
      else
        let d := d.portUpd l (fun p => { p with got := true })
        let n := d.cad.frame
        let d :=
          if u.sampleFrame = (n + 2 ^ 32 - 1) % 2 ^ 32 then (d.inc (F.HCL_STALE_COUNT l)).portUpd l Port.spoil
          else if u.sampleFrame ≠ n ∨ u.sampleEpoch ≠ d.cad.epoch then
            (d.inc (F.HCL_BAD_FRAME_COUNT l)).portUpd l Port.spoil
          else d.usfChecks l u
        d.showPort l

/-- What reaches lane `l`, where a USF may be: a run that an ordered set cut off is discarded and not counted, a longer one is malformed
(R117, R151). A lane that is disabled or not trained is ABSENT, and nothing is counted under R136 (R138, R151). -/
def Dev.usf (l : Nat) (line : Line) (d : Dev) : Dev :=
  let d := d.heard l line
  if !(decide (l < 64) && d.b (F.HCL_PORT_CTRL_ENABLE l) && d.laneUp l) then d
  else match d.got l line with
    | .run bytes => if bytes.length < 64 then d else if bytes.length = 64 then d.takeUsf l bytes else d.lineError l
    | _ => d.other l line

/-! ## The gather deadline (R106, R136, R137, R138) -/

/-- The DX check of R342 for one frame of a lane: the DSF of each frame but the last launched has run the carrier until the sample. -/
def Dev.dxCheck (d : Dev) (l : Nat) : Dev :=
  if d.g (F.HCL_PORT_CTRL_CELL_TYPE l) ≠ 2 then d
  else
    let p := d.port! l
    let pc := d.g F.EDGE_DX_STATE_P_CELL
    let ok := d.b (F.HCL_PORT_STATE_RUN_SENT l) && p.usable && decide (2 * pc * 40 ≤ (p.dxFrames - 1) * d.periodQ) &&
      decide (pc ≤ d.g F.PROT_DX_LOAD_PERIOD)
    d.portUpd l (fun p => { p with dxLow := if ok && decide (p.resCurrent < d.g F.PROT_DX_IMIN_CURRENT) then p.dxLow + 1 else 0 })

/-- One enabled lane at the gather deadline: missing or otherwise not usable counts one (R137); a count that reaches
HCL_SUSPECT_LIMIT while the lane is untrained makes no SUSPECT (R138). Mark: DEDUCED, unsafe (log entry 49). -/
def Dev.gatherLane (d : Dev) (l : Nat) : Dev :=
  let p := d.port! l
  let up := d.laneUp l
  let d := d.when (up && !p.got) (fun d => d.inc (F.HCL_LATE_COUNT l))
  let d := if p.usable then d else
    let past := p.suspectRaised || (!up && decide (d.g F.HCL_SUSPECT_LIMIT_LIMIT ≤ p.bad + 1))
    (d.portUpd l (fun p => { p.spoil with bad := p.bad + 1, suspectRaised := past })).p (F.HCL_PORT_STATE_CONSEC_BAD l)
      (min 15 (p.bad + 1))
  d.dxCheck l

/-- The gather deadline of the present frame passes. -/
def Dev.gatherDeadline (d : Dev) : Dev :=
  if d.cad.work.gathered || !d.ticking then d
  else
    let d := { d with cad := { d.cad with work := { d.cad.work with gathered := true } } }
    d.enabledLanes.foldl (fun d l => d.gatherLane l) d

/-- The count of R137 reaches HCL_SUSPECT_LIMIT: SUSPECT, F2, once for the run. -/
def Dev.suspectLimit (l : Nat) (d : Dev) : Dev :=
  let p := d.port! l
  if l < 64 ∧ d.laneUp l = true ∧ d.b (F.HCL_PORT_CTRL_ENABLE l) = true ∧ p.suspectRaised = false ∧
     1 ≤ p.bad ∧ d.g F.HCL_SUSPECT_LIMIT_LIMIT ≤ p.bad then
    ((d.portUpd l (fun p => { p with suspectRaised := true })).raiseSuspect 0x0204 l).showPort l
  else d

/-- The count reaches HCL_LOST_LIMIT: the cell is bypassed (R339), unless R506 exempts the lane. -/
def Dev.cellLostAt (l : Nat) (d : Dev) : Dev :=
  let p := d.port! l
  if l < 64 ∧ d.b (F.HCL_PORT_CTRL_ENABLE l) = true ∧ p.lostRaised = false ∧ 1 ≤ p.bad ∧
     d.g F.HCL_LOST_LIMIT_LIMIT ≤ p.bad ∧ (p.ever || d.eng.cellsUp) = true then
    ((d.portUpd l (fun p => { p with lostRaised := true })).cellBypass cellLost l).showPort l
  else d

/-- 1,024 consecutive usable frames with ALIGNED high end the SUSPECT actions of a cell (R137, R343). -/
def Dev.suspectClear (l : Nat) (d : Dev) : Dev :=
  if (d.port! l).suspects.any (fun a => decide (1024 ≤ a.good)) then
    (d.portUpd l (fun p => { p with suspects := p.suspects.filter (fun a => decide (a.good < 1024)) })).showPort l
  else d

/-- 1,024 consecutive usable frames with the cause bit clear end a BLOCK action (R340). -/
def Dev.blockEnd (l : Nat) (d : Dev) : Dev :=
  if (d.port! l).blocks.any (fun a => decide (1024 ≤ a.good)) then
    (d.portUpd l (fun p => { p with blocks := p.blocks.filter (fun a => decide (a.good < 1024)) })).showPort l
  else d

/-- PROT_DX_FRAMES qualifying frames with RES_CURRENT below PROT_DX_IMIN: the DX cell is bypassed (R342). -/
def Dev.dxNoResAt (l : Nat) (d : Dev) : Dev :=
  let p := d.port! l
  if l < 64 ∧ 1 ≤ p.dxLow ∧ d.g F.PROT_DX_IMIN_FRAMES ≤ p.dxLow then
    (((d.portUpd l (fun p => { p with dxLow := 0 })).inc F.PROT_DX_FAIL_COUNT).cellBypass dxNoRes l).showPort l
  else d

end Sys2Proof.Machine
end

