-- ==== Sys2Proof/Machine/Balance.lean ====
section
/-! DEFINITION. Balancing (chapter *Balancing and cell insertion across the leg group*): which cells may be selected,
the summary of a head, the lead's merge and quotas, and the selection at each head (R230 to R245). Sums and
quotients of voltages are computed exactly; the spec names no format for them. -/
namespace Sys2Proof.Machine

/-! ## Exact arithmetic on binary32 values -/

/-- A finite binary32 pattern as an integer number of 2^-149. -/
def fix32 (p : Nat) : Int :=
  match f32.unpack p with
  | .fin neg m e => let v : Int := ((m * 2 ^ (e + 149).toNat : Nat) : Int); if neg then -v else v
  | _ => 0

/-- The binary32 pattern nearest to an integer number of 2^-149. -/
def unfix32 (i : Int) : Nat := f32.ofDyadic i (-149)

/-- A quotient rounded to the nearest integer, ties to even. -/
def rneDiv (n : Int) (den : Nat) : Int :=
  let q := n / (den : Int)
  let r := n % (den : Int)
  if 2 * r < den then q else if (den : Int) < 2 * r then q + 1 else if q % 2 = 0 then q else q + 1

/-! ## Selectable cells (R231) -/

/-- The arm of a lane, where it has one (R230). -/
def Dev.armOf (d : Dev) (l : Nat) : Option Nat :=
  if d.g (F.armOfLane l) = 0 then some 0 else if d.g (F.armOfLane l) = 1 then some 1 else none

/-- A lane is configured: its cell type is HB, FB or DX. -/
def Dev.configured (d : Dev) (l : Nat) : Bool := d.g (F.HCL_PORT_CTRL_CELL_TYPE l) != 3 && d.b (F.LANE_CFG_USED l)

def Dev.isFb (d : Dev) (l : Nat) : Bool := d.g (F.HCL_PORT_CTRL_CELL_TYPE l) == 1
def Dev.isDx (d : Dev) (l : Nat) : Bool := d.g (F.HCL_PORT_CTRL_CELL_TYPE l) == 2

/-- The deblock permit of protection (R333). -/
def Dev.permit (d : Dev) (l : Nat) : Bool :=
  !d.bypassed l && (d.port! l).blocks.isEmpty && (d.port! l).suspects.isEmpty

/-- The exclusion mask in force. -/
def Dev.excluded (d : Dev) (l : Nat) : Bool :=
  if l < 32 then (d.g F.BAL_EXCLUDE_LO_MASK).testBit l else (d.g F.BAL_EXCLUDE_HI_MASK).testBit (l - 32)

/-- Selectable in the present frame (R231). -/
def Dev.selectable (d : Dev) (l : Nat) : Bool :=
  (d.armOf l).isSome && d.configured l && d.b (F.HCL_PORT_CTRL_ENABLE l) && !d.b (F.HCL_PORT_CTRL_HOST_BYPASS l) &&
  (d.port! l).usable && d.b (F.CAD_LANE_RESIDUAL_ALIGNED l) && !d.b (F.CAD_LANE_RESIDUAL_OUT_OF_BUDGET l) &&
  d.disc l == 3 && !(d.port! l).status.testBit 9 && !d.excluded l && d.permit l

/-- A ready cell (R510). -/
def Dev.readyCell (d : Dev) (l : Nat) : Bool :=
  d.configured l && d.laneUp l && d.b (F.CAD_LANE_RESIDUAL_ALIGNED l) && d.disc l == 3 && (d.port! l).usable &&
  (d.port! l).suspects.isEmpty && !d.bypassed l

/-- The lanes of an arm on this head. -/
def Dev.armLanes (d : Dev) (a : Nat) : List Nat :=
  (List.range 64).filter (fun l => d.configured l && d.armOf l == some a)

/-- The key of a cell (R234). -/
def Dev.keyOf (d : Dev) (l : Nat) : Nat :=
  let lsb := fix32 (d.g F.BAL_KEY_LSB_VOLTS)
  (clampInt (rneDiv (fix32 (d.g (F.HCL_PORT_VCAP_VCAP l))) lsb.toNat) 0 65535).toNat

/-- The swap penalty in key units (R238). -/
def Dev.penalty (d : Dev) : Nat :=
  (rneDiv (fix32 (d.g F.BAL_SWAP_PENALTY_VOLTS)) (fix32 (d.g F.BAL_KEY_LSB_VOLTS)).toNat).toNat

/-! ## The summary (R238) -/

/-- Insert in order. -/
def insertBy {α : Type} (before : α → α → Bool) (x : α) : List α → List α
  | [] => [x]
  | y :: r => if before y x then y :: insertBy before x r else x :: y :: r

/-- Sort by a strict order. -/
def sortBy {α : Type} (before : α → α → Bool) (xs : List α) : List α := xs.foldr (insertBy before) []

def cmdOff : Nat := 0
def cmdUp : Nat := 1
def cmdDown : Nat := 2

/-! ## Commands (R256, R275) -/

/-- The leg commands of an insertion state: 0 not inserted, 1 positive, 2 negative (R256). -/
def insCmds (ty ins : Nat) : List Nat :=
  if ty = 0 then [if ins = 1 then cmdUp else cmdDown]
  else if ty = 1 then (if ins = 1 then [cmdUp, cmdDown] else if ins = 2 then [cmdDown, cmdUp] else [cmdDown, cmdDown])
  else []

/-- Invert of a pair exchanges its legs' commands; swap exchanges UP and DOWN (R275). -/
def Dev.mapCmds (d : Dev) (l : Nat) (cs : List Nat) : List Nat :=
  let inv := d.g (F.invert l)
  let sw := d.g (F.swap l)
  let at_ (k : Nat) : Nat := (cs[k]?).getD 0
  (List.range cs.length).map (fun k =>
    let c := if inv.testBit (k / 2) then at_ (if k % 2 = 0 then k + 1 else k - 1) else at_ k
    if sw.testBit k then (if c = cmdUp then cmdDown else if c = cmdDown then cmdUp else c) else c)

/-- The switches that leg commands hold on, as GATE shows them (R126): UP turns on the upper switch of its leg. -/
def cmdGate (cs : List Nat) : Nat :=
  (List.range cs.length).foldl (fun m k => let c := (cs[k]?).getD 0
    if c = cmdUp then setBit m (2 * k) else if c = cmdDown then setBit m (2 * k + 1) else m) 0

/-- Whether the GATE bits of a cell's last usable USF show it inserted, and with which polarity (R435). -/
def Dev.gateIns (d : Dev) (l : Nat) : Bool × Bool :=
  let ty := d.g (F.HCL_PORT_CTRL_CELL_TYPE l)
  let shows (ins : Nat) : Bool := ty != 2 && (d.port! l).gate == cmdGate (d.mapCmds l (insCmds ty ins))
  if shows 1 then (true, false) else if ty == 1 && shows 2 then (true, true) else (false, false)

/-- The entry of a selectable cell; from the claim tick until RESUME, PREV comes from the GATE bits (R435). -/
def Dev.entryOf (d : Dev) (a l : Nat) : Entry :=
  let p := d.port! l
  let (ins, neg) := if d.red.hold then d.gateIns l else (p.inserted, p.neg)
  { key := d.keyOf l, prev := ins, prevNeg := ins && neg, trim := mget d.bal.trim a == some l,
    fb := d.isFb l, lane := l }

/-- The summary of one arm. -/
def Dev.armSum (d : Dev) (a : Nat) : ArmSum :=
  let ls := d.armLanes a
  let sel := ls.filter (fun l => d.selectable l)
  let fb := sel.filter (fun l => d.isFb l)
  let v (l : Nat) : Int := fix32 (d.g (F.HCL_PORT_VCAP_VCAP l))
  { m := sel.length, s := sumInt (sel.map v), mfb := fb.length, sfb := sumInt (fb.map v),
    entries := sortBy (fun x y => decide (x.key < y.key) || (x.key == y.key && decide (x.lane < y.lane)))
      (sel.map (fun l => d.entryOf a l)),
    lanes := ls.length, fbLanes := (ls.filter (fun l => d.isFb l)).length,
    ready := (ls.filter (fun l => d.readyCell l)).length }

/-! ## The quota computation of one arm (R235 to R240) -/

/-- A ranked entry of the merged list. -/
structure Ranked where
  ek : Int
  prev : Bool
  idx : Nat
  head : Nat
  trim : Bool
  deriving DecidableEq, Repr, Inhabited

/-- The ranking of R237 and R239: by effective key, then PREV 1, then the lower cell arm index. -/
def rankBefore (charge : Bool) (x y : Ranked) : Bool :=
  if x.ek ≠ y.ek then (if charge then decide (x.ek < y.ek) else decide (y.ek < x.ek))
  else if x.prev ≠ y.prev then x.prev
  else decide (x.idx < y.idx)

/-- An entry with its effective key (R239). -/
def ranked (charge neg : Bool) (head pen : Nat) (e : Entry) : Ranked :=
  let kept := e.prev && (e.prevNeg == neg)
  { ek := (e.key : Int) + (if kept then (if charge then -(pen : Int) else (pen : Int)) else 0),
    prev := e.prev, idx := head * 64 + e.lane, head := head, trim := e.trim }

/-- Remove the first entry that satisfies `p`. -/
def eraseFirst {α : Type} (p : α → Bool) : List α → List α
  | [] => []
  | x :: r => if p x then r else x :: eraseFirst p r

/-- The part of a report for an arm. -/
def Report.arm (r : Report) (a : Nat) : ArmSum := if a = 0 then r.a0 else r.a1

/-- The reports that quota computation uses, by position. -/
def Dev.reports (d : Dev) : List (Nat × Report) :=
  (List.range 8).filterMap (fun p => (mget d.bal.reports p).map (fun r => (p, r)))

/-- The sum of one item over the reports. -/
def overHeads (rs : List (Nat × Report)) (f : Report → Nat) : Nat := rs.foldl (fun n x => n + f x.2) 0
def overHeadsI (rs : List (Nat × Report)) (f : Report → Int) : Int := rs.foldl (fun n x => n + f x.2) 0

/-- The arm current i of R235: FS_LAST of the bound channel, with its sign; a binary32 pattern. -/
def Dev.armI (d : Dev) (a : Nat) : Nat :=
  match d.conf.armChan[a]? with
  | none => 0
  | some (ch, minus) =>
    let p := d.g (F.FS_LAST_LIVE_VALUE ch)
    if minus then f32.sub 0x80000000 p else p

/-- What R235 finds for an arm: the clamped count as a fraction `num / den`, and the limits. -/
structure Count where
  num : Int
  den : Nat
  limited : Bool
  mPos : Nat
  mNeg : Nat
  sum : Int
  cells : Nat
  deriving DecidableEq, Repr

/-- The inserted count of an arm (R235). The voltage reference `v` is in units of 2^-298 V, sums are in units of
2^-149 V. Mark: DEDUCED, unsafe (log entry 65). -/
def countOf (m mfb : Nat) (s sfb : Int) (supp allFb : Bool) (v : Int) : Count :=
  let mPos := if supp then mfb else m
  let mNeg := if supp then mfb else if allFb then mfb else 0
  let sum := if supp then sfb else s
  let cells := if supp then mfb else m
  if 0 < cells ∧ 0 < sum then
    let num : Int := v * (cells : Int)
    let den : Nat := (sum * 2 ^ 149).toNat
    if (mPos : Int) * den < num then ⟨(mPos : Int) * den, den, true, mPos, mNeg, sum, cells⟩
    else if num < -((mNeg : Int) * den) then ⟨-((mNeg : Int) * den), den, true, mPos, mNeg, sum, cells⟩
    else ⟨num, den, false, mPos, mNeg, sum, cells⟩
  else ⟨0, 1, false, mPos, mNeg, sum, cells⟩

/-- The quotas of R240 from a ranked list. -/
def quotasOf (rs : List Ranked) (bigN : Nat) (fPos : Bool) (trimFrames rotate : Nat) : List Nat × Nat × Bool :=
  let t := if fPos then rs.find? (fun r => r.trim) else none
  let keep := t.isSome && decide (trimFrames < rotate)
  let rest := if keep then eraseFirst (fun r => r.trim) rs else rs
  let first := rest.take bigN
  let q := (List.range 8).map (fun p => (first.filter (fun r => r.head == p)).length)
  let th := if !fPos then 0 else if keep then (t.map Ranked.head).getD 0 else ((rest[bigN]?).map Ranked.head).getD 0
  (q, th, keep)

/-- The staggering of R249: σ in force, or the largest multiple of 10 ns that fits. -/
def Dev.sigmaQ (d : Dev) : Nat × Bool :=
  let st := d.g F.AV_DCF_STAGGER_STEP * 40
  let h := d.conf.heads - 1
  if d.periodQ < h * st then (d.periodQ / (h * 40) * 40, true) else (st, false)

/-- The computation of one arm at the lead (R235 to R241), with the voltage reference that the CE delivered. -/
def Dev.armCompute (d : Dev) (a : Nat) (vref : Nat) (stale : List Nat) : ArmCalc :=
  let rs := d.reports
  let su := mget d.bal.supp a
  let m := overHeads rs (fun r => (r.arm a).m)
  let mfb := overHeads rs (fun r => (r.arm a).mfb)
  let s := overHeadsI rs (fun r => (r.arm a).s)
  let sfb := overHeadsI rs (fun r => (r.arm a).sfb)
  let lanes := overHeads rs (fun r => (r.arm a).lanes)
  let fbLanes := overHeads rs (fun r => (r.arm a).fbLanes)
  let i := d.armI a
  let vmax := fix32 (d.g F.AV_DCF_VMAX_VOLTS) * 2 ^ 149
  let v := if su.active then clampInt (fix32 (d.g F.AV_DCF_RSUP_OHMS) * fix32 i) (-vmax) vmax else fix32 vref * 2 ^ 149
  let c := countOf m mfb s sfb su.active (decide (0 < lanes) && lanes == fbLanes) v
  let neg := decide (c.num < 0)
  let an := c.num.natAbs
  let bigN := an / c.den
  let fNum := if bigN = c.mPos ∨ (bigN = c.mNeg ∧ neg = true) then 0 else an % c.den
  let band := d.g F.AV_BAL_IDIR_BAND_AMPS
  let ip := if neg then -(fix32 i) else fix32 i
  let charge :=
    if su.active then true
    else if (fix32 i).natAbs ≤ (fix32 band).toNat then !mget d.bal.discharge a else decide (0 < ip)
  let all := rs.flatMap (fun x => (x.2.arm a).entries.filterMap (fun e =>
    if (su.active || neg) && !e.fb then none else some (ranked charge neg x.1 x.2.pen e)))
  let list := sortBy (rankBefore charge) all
  let (q, th, keep) := quotasOf list bigN (decide (0 < fNum)) (mget d.bal.trimFrames a) (d.g F.AV_BAL_TRIM_ROTATE_FRAMES)
  let sg := d.sigmaQ
  { vref := if su.active then f32.ofDyadic v (-298) else vref, s := s, bigN := bigN, limited := c.limited, i := i,
    m := m, mfb := mfb, vbarNum := c.sum, vbarDen := c.cells,
    q := { quotas := q, trimHead := th, trimValid := decide (0 < fNum), keep := keep, fNum := fNum, fDen := c.den,
           neg := neg, charge := charge, suppress := su.active, suppFirst := su.first, suppLast := su.last,
           sigma := sg.1 },
    heads := (List.range 8).map (fun p =>
      (((mget d.bal.reports p).map (fun r => (r.arm a).m)).getD 0, stale.contains p)) }

/-- The redundant cells of an arm, and R_a (R245): lanes assigned across the admitted heads less S_a. -/
def Dev.needed (d : Dev) (a : Nat) : Nat :=
  overHeads d.reports (fun r => (r.arm a).lanes) - d.g (if a = 0 then F.AV_BAL_SPARES_SPARES0 else F.AV_BAL_SPARES_SPARES1)

/-- What the lead shows of a computed arm, with LIMITED and SPARE_SHORT counted on entry (R235, R245). -/
def Dev.showArm (d : Dev) (a : Nat) (c : ArmCalc) : Dev :=
  let wasLim := d.b (F.AV_BAL_ARM_STATUS_LIMITED a)
  let wasShort := d.b (F.AV_BAL_ARM_STATUS_SPARE_SHORT a)
  let short := decide (c.m < d.needed a)
  let d := ((d.p (F.AV_BAL_ARM_STATUS_N a) c.bigN).pb (F.AV_BAL_ARM_STATUS_NEG a) c.q.neg).pb
    (F.AV_BAL_ARM_STATUS_DIR a) c.q.charge
  let d := ((d.pb (F.AV_BAL_ARM_STATUS_LIMITED a) c.limited).p (F.AV_BAL_ARM_STATUS_SELECTABLE a) c.m).pb
    (F.AV_BAL_ARM_STATUS_SPARE_SHORT a) short
  let d := (d.pb (F.AV_BAL_ARM_STATUS_SUPPRESS a) c.q.suppress).pb (F.AV_BAL_ARM_STATUS_STAGGER_CLAMPED a) d.sigmaQ.2
  let d := d.when (c.limited && !wasLim) (fun d => d.inc (F.AV_BAL_LIMIT_COUNT a))
  let d := d.when (short && !wasShort) (fun d =>
    (d.inc F.AV_BAL_SPARE_SHORT_COUNT).raise { src := 0x0402, cls := 1, detail := a, arms := 2 ^ a, event := false })
  let d := d.when (!short && wasShort) (fun d => d.endCause 0x0402 a)
  { d with bal := { d.bal with armCalc := mset d.bal.armCalc a c, discharge := mset d.bal.discharge a (!c.q.charge),
                               trimFrames := mupd d.bal.trimFrames a (fun n => if c.q.keep then n + 1 else 0) } }

/-! ## Selection at a head (R242 to R244) -/

/-- What a head selects for one arm. -/
structure Pick where
  full : List Nat
  trim : Option Nat
  short : Bool
  deriving DecidableEq, Repr, Inhabited

/-- The selection of R242 for one arm under the quotas in force. -/
def Dev.pick (d : Dev) (a : Nat) : Pick :=
  let q := d.bal.quota.arm a
  let me := d.pos
  let mine := q.trimValid && q.trimHead == me
  let cells := (d.armLanes a).filter (fun l => d.selectable l && (!(q.neg || q.suppress) || d.isFb l))
  let list := (sortBy (rankBefore q.charge) (cells.map (fun l =>
    ranked q.charge q.neg me d.penalty (d.entryOf a l)))).map (fun r => r.idx - me * 64)
  let prevTrim := if mine && q.keep then (mget d.bal.trim a).filter (fun l => list.contains l) else none
  let rest := match prevTrim with
    | some l => eraseFirst (fun x => x == l) list
    | none => list
  let n := (q.quotas[me]?).getD 0
  let full := rest.take n
  let trim := if !mine then none else match prevTrim with
    | some l => some l
    | none => rest[n]?
  { full := full, trim := trim, short := decide (list.length < n + bit mine) }

/-- Put a selection in force for one arm: the registers, the changes counted, the cells' own marks (R233, R243,
R244). Answers how many cells changed. -/
def Dev.applyPick (d : Dev) (a : Nat) (k : Pick) : Dev :=
  let q := d.bal.quota.arm a
  let ins := match k.trim with | some t => k.full ++ [t] | none => k.full
  let changed := (d.armLanes a).filter (fun l =>
    let p := d.port! l
    let now := ins.contains l
    p.inserted != now || (now && p.neg != q.neg))
  let d := d.addTo F.BAL_INSERT_CHANGE_COUNT changed.length
  let d := d.when k.short (fun d => d.raise { src := 0x0401, cls := 0, detail := a, arms := 2 ^ a })
  let d := (((d.p (F.BAL_ARM_LOCAL_QUOTA a) ((q.quotas[d.pos]?).getD 0)).pb (F.BAL_ARM_LOCAL_TRIM a)
    (q.trimValid && q.trimHead == d.pos)).p (F.BAL_ARM_LOCAL_SELECTABLE a)
      ((d.armLanes a).filter (fun l => d.selectable l)).length).p (F.BAL_ARM_LOCAL_INSERTED a) ins.length
  let d := ((d.pb (F.BAL_ARM_LOCAL_NEG a) q.neg).pb (F.BAL_ARM_LOCAL_DIR a) q.charge).pb (F.BAL_ARM_LOCAL_QUOTA_STALE a)
    d.cad.work.quotaLate
  let d := d.pb (F.BAL_ARM_LOCAL_SHORT a) k.short
  let d := if a = 0 then (d.p F.BAL_TRIM_LANE_LANE0 (k.trim.getD 0)).pb F.BAL_TRIM_LANE_VALID0 k.trim.isSome
    else (d.p F.BAL_TRIM_LANE_LANE1 (k.trim.getD 0)).pb F.BAL_TRIM_LANE_VALID1 k.trim.isSome
  let d := (d.armLanes a).foldl (fun d l =>
    d.portUpd l (fun p => { p with inserted := ins.contains l, neg := ins.contains l && q.neg })) d
  { d with bal := { d.bal with trim := mset d.bal.trim a k.trim } }

/-- The selections of both arms, and the frame counted once where an arm falls short (R243) or the head's trim cells differ from
those of the frame before (R244). -/
def Dev.applyPicks (d : Dev) (k0 k1 : Pick) : Dev :=
  let moved := mget d.bal.trim 0 != k0.trim || mget d.bal.trim 1 != k1.trim
  let d := d.when (k0.short || k1.short) (fun d => d.inc F.BAL_SHORT_COUNT)
  let d := d.when moved (fun d => d.inc F.BAL_TRIM_CHANGE_COUNT)
  (d.applyPick 0 k0).applyPick 1 k1

end Sys2Proof.Machine
end

