-- ==== Sys2Proof/Machine/Measure.lean ====
section
/-! DEFINITION. Measurement (chapter *Measurement: fast sense, metrology and capture*): the window of fast-sense codes
latched at each tick with its test injections (R284 to R291), the current estimator (R335, R336), metrology and DC
energy (R293 to R305), and the recorder (R306 to R308). -/
namespace Sys2Proof.Machine

/-! ## Fast sense -/

/-- Samples of a window at a period (R284). -/
def samplesOf (periodQ : Nat) : Nat := periodQ / 400

/-- A binary32 pattern as binary64, and back. -/
def to64 (p : Nat) : Nat := f32.conv f64 p
def to32 (p : Nat) : Nat := f64.conv f32 p

/-- FS_GAIN x code + FS_OFFSET for a mean code `num / den`, in binary64, rounded once (R285). -/
def Dev.scaled (d : Dev) (k : Nat) (num : Int) (den : Nat) : Nat :=
  let m := f64.div (f64.ofInt num) (f64.ofInt (den : Int))
  to32 (f64.add (f64.mul (to64 (d.g (F.FS_GAIN_GAIN k))) m) (to64 (d.g (F.FS_OFFSET_OFFSET k))))

/-- The channels of a group's mask, in ascending order (R288). -/
def Dev.testChans (d : Dev) (g : Nat) : List Nat :=
  ((List.range 4).filter (fun j => (d.g (F.FS_TEST_SCHED_MASK g)).testBit j)).map (fun j => 4 * g + j)

/-- Level `i` of a group as an expected code, 16 times the signed DAC code (R287, R289). -/
def Dev.testLevel (d : Dev) (g i : Nat) : Int :=
  16 * sgn 12 (d.g (if i = 0 then F.FS_TEST_LEVELS_A_L0 g else if i = 1 then F.FS_TEST_LEVELS_A_L1 g
    else if i = 2 then F.FS_TEST_LEVELS_B_L2 g else F.FS_TEST_LEVELS_B_L3 g))

/-- What a group does in the window that ends: none, a skip, or an injection into a channel with a level (R288,
R290). -/
inductive Inject where
  | none
  | skip
  | into (ch level : Nat)
  deriving DecidableEq, Repr

/-- The injection of group `g` in window number `w` of its count. -/
def Dev.injectOf (d : Dev) (g w k : Nat) : Inject :=
  let cs := d.testChans g
  let p := d.g (F.FS_TEST_SCHED_PERIOD g)
  if cs.isEmpty ∨ p = 0 then .none
  else if w % p ≠ 0 then .none
  else if k < d.g (F.FS_TEST_SCHED_SLOT g) + 2 then .skip
  else
    let i := mget d.fs.inj g
    .into ((cs[i % cs.length]?).getD 0) (i / cs.length % 4)

/-- A pass at a level joins the levels of the last consecutive passes: base-8 digits, level + 1, the newest lowest. -/
def passLevel (run level : Nat) : Nat := (run * 8 + level + 1) % 4096

/-- Were the last four injections passes, one at each level (R291)? -/
def fourLevels (run : Nat) : Bool :=
  (List.range 4).all (fun l => (List.range 4).any (fun i => run / 8 ^ i % 8 == l + 1))

/-- One injection (R289, R291): compared, counted, shown. -/
def Dev.injected (d : Dev) (ch level : Nat) (code : Int) : Dev :=
  let want := d.testLevel (ch / 4) level
  let ok := decide ((code - want).natAbs ≤ d.g F.FS_TEST_TOL_CODES)
  let d := (d.inc F.FS_TEST_COUNT).ps (F.FS_TEST_RESULT_CODE ch) code
  let d := (d.p (F.FS_TEST_RESULT_LEVEL ch) level).pb (F.FS_TEST_RESULT_FAIL ch) (!ok)
  let consec := if ok then 0 else min 15 (d.g (F.FS_TEST_RESULT_CONSEC ch) + 1)
  let d := d.p (F.FS_TEST_RESULT_CONSEC ch) consec
  let d := { d with fs := { d.fs with passRun := mset d.fs.passRun ch (if ok then passLevel (mget d.fs.passRun ch) level else 0) } }
  if ok then d else (d.inc F.FS_TEST_FAIL_COUNT).raise { src := 0x0501, cls := 0, detail := ch }

/-- The counts of the test schedule advance by one window; answers the injected slots by channel (R288). -/
def Dev.testWindow (d : Dev) (codes : List (List Int)) (k : Nat) : List (Nat × Nat) × Dev :=
  (List.range 4).foldl (fun (acc : List (Nat × Nat) × Dev) g =>
    let (inj, d) := acc
    let w := mget d.fs.win g + 1
    let d := { d with fs := { d.fs with win := mset d.fs.win g w } }
    match d.injectOf g w k with
    | .none => (inj, d)
    | .skip => (inj, d.inc F.FS_TEST_SKIP_COUNT)
    | .into ch lv =>
      let s := d.g (F.FS_TEST_SCHED_SLOT g)
      let c := (((codes[s]?).getD [])[ch]?).getD 0
      let d := d.injected ch lv c
      (inj ++ [(ch, s)], { d with fs := { d.fs with inj := mupd d.fs.inj g (· + 1) } })) ([], d)

/-- The substitute of an injected code (R289). -/
def substitute (codes : List (List Int)) (prev : List Int) (ch s : Nat) : Int :=
  let at_ (i : Nat) : Int := (((codes[i]?).getD [])[ch]?).getD 0
  let after := at_ (s + 1)
  let before : Option Int := if s = 0 then prev[ch]? else some (at_ (s - 1))
  match before with
  | some b => rneDiv (b + after) 2
  | none => after

/-- The codes delivered to every consumer but the safety channel (R289). -/
def deliveredCodes (codes : List (List Int)) (prev : List Int) (inj : List (Nat × Nat)) : List (List Int) :=
  (List.range codes.length).map (fun i =>
    let row := (codes[i]?).getD []
    (List.range 16).map (fun ch =>
      if inj.contains (ch, i) then substitute codes prev ch i else (row[ch]?).getD 0))

/-- The slot of the window in progress that has its aperture at `t` (R284). -/
def Dev.slotAt (d : Dev) (t : Nat) : Option Nat :=
  let a := d.cad.tickAt + d.restQ
  if d.ticking && decide (a ≤ t) && decide ((t - a) / 400 < samplesOf d.periodQ) then some ((t - a) / 400) else none

/-- The slot of a channel is injected in the window in progress (R288). -/
def Dev.injectedSlot (d : Dev) (k s : Nat) : Bool :=
  let g := k / 4
  match d.injectOf g (mget d.fs.win g + 1) (samplesOf d.periodQ) with
  | .into ch _ => ch == k && s == d.g (F.FS_TEST_SCHED_SLOT g)
  | _ => false

/-- A code converted on channel `k` with aperture `t`: what is delivered then, each code with its aperture (R284, R289). An injected code
is not delivered; its substitute comes with the code of the slot after. Mark: DEDUCED, unsafe (log entry 169). -/
def Dev.codeIn (d : Dev) (k : Nat) (code : Int) (t : Nat) : List (Int × Nat) × Dev :=
  match d.slotAt t with
  | none => ([], d)
  | some s =>
    if d.injectedSlot k s then ([], d)
    else
      let w := d.cad.tickAt
      let old := (mget d.fs.heard k).filter (fun x => x.1 == w)
      let hs := if old.any (fun x => x.2.1 == s) then old else ((w, s, code) :: old).take 4
      let d' := { d with fs := { d.fs with heard := mset d.fs.heard k hs } }
      if 1 ≤ s && d.injectedSlot k (s - 1) then
        let before := if s = 1 then d.fs.prevCodes[k]? else (hs.find? (fun x => x.2.1 == s - 2)).map (fun x => x.2.2)
        let sub := match before with
          | some b => rneDiv (b + code) 2
          | none => code
        ([(sub, t - 400), (code, t)], d')
      else ([(code, t)], d')

/-- The role of a channel (R312): 0 NONE, 1 ARM0, 2 ARM1, 3 PARTNER. -/
def Dev.role (d : Dev) (k : Nat) : Nat := d.g (F.PROT_SOFT_CTRL_ROLE k)

/-- Does the arm's bound channel count with the minus sign (R235)? -/
def Dev.armMinus (d : Dev) (a : Nat) : Bool := ((d.conf.armChan[a]?).map Prod.snd).getD false

/-- s x i_est of a channel of role ARM a (R336). -/
def Dev.estValue (d : Dev) (k : Nat) : Nat :=
  let a := d.role k - 1
  if d.armMinus a then f32.sub 0x80000000 (mget d.prot.est a) else mget d.prot.est a

/-- The code of a substituted channel's value (R336): rounded half to even, saturated. -/
def Dev.estCode (d : Dev) (k : Nat) : Int :=
  let g := fix32 (d.g (F.FS_GAIN_GAIN k))
  let x := fix32 (d.estValue k) - fix32 (d.g (F.FS_OFFSET_OFFSET k))
  let c := if 0 ≤ g then rneDiv x g.toNat else rneDiv (-x) (-g).toNat
  clampInt c (-32768) 32767

/-- One channel at a tick: FS_MEAN, FS_LAST and CLIP of its window (R285, R286, R336). -/
def Dev.fsChannel (d : Dev) (k : Nat) (raw del : List (List Int)) (inj : List (Nat × Nat)) : Dev :=
  let cs := del.map (fun r => (r[k]?).getD 0)
  let n := cs.length
  let mean := d.scaled k (sumInt cs) n
  let last := d.scaled k ((cs.getLast?).getD 0) 1
  let clip := (List.range n).any (fun i => !inj.contains (k, i) &&
    ((((raw[i]?).getD [])[k]?).getD 0 == 32767 || (((raw[i]?).getD [])[k]?).getD 0 == -32768))
  let d := { d with fs := { d.fs with ownMean := mset d.fs.ownMean k mean } }
  let d := if d.b (F.PROT_CH_STATE_SUBST k) then
      ((d.p (F.FS_MEAN_LIVE_VALUE k) (d.estValue k)).p (F.FS_LAST_LIVE_VALUE k) (d.estValue k)).inc F.PROT_EST_COUNT
    else (d.p (F.FS_MEAN_LIVE_VALUE k) mean).p (F.FS_LAST_LIVE_VALUE k) last
  let m := d.g F.FS_STATUS_CLIP
  if clip then (d.p F.FS_STATUS_CLIP (setBit m k)).inc F.FS_CLIP_COUNT else d.p F.FS_STATUS_CLIP (clrBit m k)

/-! ## The recorder (R306 to R308) -/

/-- One delivered sample of all channels goes to the recorder; `at_` is its window and slot. -/
def Dev.capSample (d : Dev) (at_ : Nat × Nat) (row : List Int) : Dev :=
  let st := d.g F.CAP_STATE_STATE
  if (st = 1 ∨ (st = 2 ∧ 0 < d.cap.left)) then
    let first := if d.cap.acc.isEmpty then at_ else d.cap.first
    let acc := d.cap.acc ++ [row]
    let n := d.g F.CAP_CTRL_DECIM + 1
    if acc.length < n then { d with cap := { d.cap with acc := acc, first := first } }
    else
      let one := (List.range 16).map (fun ch => rneDiv (sumInt (acc.map (fun r => (r[ch]?).getD 0))) n)
      { d with cap := { d.cap with acc := [], samples := (one :: d.cap.samples).take 8192,
                                   left := if st = 2 then d.cap.left - 1 else d.cap.left } }
  else d

/-- The codes of a window go to the recorder, but those before ARM. -/
def Dev.capWindow (d : Dev) (frame : Nat) (rows : List (List Int)) : Dev :=
  let d' := (List.range rows.length).foldl (fun x i =>
    if i < d.cap.skip then x else x.capSample (frame, i) ((rows[i]?).getD [])) d
  { d' with cap := { d'.cap with skip := 0 } }

/-- A write of ARM (R306, R307): the codes with an aperture from now on are stored. Mark: DEDUCED, unsafe (log entry 171). -/
def Dev.capArm (d : Dev) : Dev :=
  if d.b F.CAP_CMD_ARM then d
  else
    let past := if d.ticking then (d.cad.now + 399 - d.cad.tickAt - d.restQ) / 400 else 0
    ({ d with cap := { (default : Cap) with skip := past } }.pb F.CAP_CMD_ARM true).p F.CAP_STATE_STATE 1

/-- The recorder has stored its last sample: DONE (R306). -/
def Dev.capDone (d : Dev) : Dev :=
  if d.g F.CAP_STATE_STATE = 2 ∧ d.cap.left = 0 then
    let n := 4096 - d.g F.CAP_CTRL_PRE + d.g F.CAP_STATE_PRE_VALID
    ({ d with cap := { d.cap with samples := d.cap.samples.take n, acc := [] } }.p F.CAP_STATE_STATE 3).pb F.CAP_CMD_ARM false
  else d

/-- A code meets the condition of CAP_LEVEL (R306). -/
def Dev.levelMet (d : Dev) (code : Int) : Bool :=
  let lv := sgn 16 (d.g F.CAP_LEVEL_LEVEL)
  if d.b F.CAP_LEVEL_ABOVE then decide (lv ≤ code) else decide (code ≤ lv)

/-- A code converted on channel `k` with aperture `t`, where the channel is that of CAP_LEVEL: one that is delivered (R289, R336) and meets
the condition triggers the recorder (R306). -/
def Dev.capLevel (k : Nat) (code : Int) (t : Nat) (d : Dev) : Dev :=
  let d := d.at t
  if !d.b F.CAP_CTRL_TRIG_LEVEL || k != d.g F.CAP_LEVEL_CHANNEL then d
  else
    let sub := d.b (F.PROT_CH_STATE_SUBST k)
    let (cs, d) := d.codeIn k code d.cad.now
    match cs.find? (fun x => d.levelMet (if sub then d.estCode k else x.1)) with
    | some x => d.capTriggerIn 3 ((d.slotAt x.2).getD d.slotNow)
    | none => d

/-! ## The estimator (R335) and what follows it each frame (R334, R337, R338) -/

/-- The estimate of arm `a` in a frame, from the cells fully inserted in one polarity in the frame before.
Mark: DEDUCED, unsafe (log entry 79). -/
def Dev.estimate (d : Dev) (a : Nat) : Dev :=
  let ls := (d.armLanes a).filter (fun l =>
    let p := d.port! l
    mget d.bal.fullPrev l != 0 && p.usable && p.wasUsable)
  let k := ls.length
  if d.g F.PROT_EST_MIN_CELLS_CELLS ≤ k ∧ 0 < k then
    let neg := ls.any (fun l => mget d.bal.fullPrev l == 2)
    let dv := sumInt (ls.map (fun l => fix32 (d.g (F.HCL_PORT_VCAP_VCAP l)) - fix32 (d.port! l).vcapPrev))
    let n := (if neg then -1 else 1) * fix32 (d.g F.PROT_CELL_C_FARADS) * dv * 4000000000
    let e := f32.ofRatio n (k * d.periodQ * 2 ^ 298)
    { d with prot := { d.prot with est := mset d.prot.est a e, estAvail := mset d.prot.estAvail a true } }
  else { d with prot := { d.prot with estAvail := mset d.prot.estAvail a false } }

def Dev.chanUpd (d : Dev) (k : Nat) (f : Chan → Chan) : Dev :=
  { d with prot := { d.prot with chan := mupd d.prot.chan k f } }

/-- The comparison of an ARM channel with its estimate, once a frame (R334, R337, R338). -/
def Dev.compareChan (d : Dev) (k : Nat) : Dev :=
  let a := d.role k - 1
  if d.role k = 1 ∨ d.role k = 2 then
    let diff := (fix32 (mget d.fs.ownMean k) - fix32 (d.estValue k)).natAbs
    let far := decide ((fix32 (d.g F.PROT_EST_TOL_AMPS)).toNat < diff)
    let av := mget d.prot.estAvail a
    let su := d.b (F.PROT_CH_STATE_SUBST k)
    d.chanUpd k (fun c => { c with
      differ := if av && far then c.differ + 1 else 0,
      agree := if su && av && !far then c.agree + 1 else 0,
      substFrames := if su then c.substFrames + 1 else 0 })
  else d

/-- Once the USFs of a frame are in, its estimates can be had (R335), and each channel is compared with its own (R334, R338). -/
def Dev.gatherEnd (d : Dev) : Dev :=
  if d.cad.work.gathered || !d.ticking then d
  else
    let d := (d.gatherDeadline.estimate 0).estimate 1
    (List.range 16).foldl (fun d k => d.compareChan k) d

/-- Everything fast sense does at a tick: the window of codes `codes` (slot by slot, sixteen signed codes each) with its injections,
and the recorder; `frame` is the frame of that window. -/
def Dev.fsTick (frame : Nat) (codes : List (List Int)) (d : Dev) : Dev :=
  let n := samplesOf d.periodQ
  let raw := (List.range n).map (fun i => (codes[i]?).getD [])
  let (inj, d) := d.testWindow raw n
  let del := deliveredCodes raw d.fs.prevCodes inj
  let d := (List.range 16).foldl (fun d k => d.fsChannel k raw del inj) d
  let cap := del.map (fun r => (List.range 16).map (fun k =>
    if d.b (F.PROT_CH_STATE_SUBST k) then d.estCode k else (r[k]?).getD 0))
  let d := d.capWindow frame cap
  let lastRow := (raw.getLast?).getD []
  { d with fs := { d.fs with prevCodes := (List.range 16).map (fun k => (lastRow[k]?).getD 0), raw := raw, slots := inj, heard := [] } }.p F.FS_WINDOW_K n

/-- The first tick after a time without ticks ends no window, since no converter sampled (R284): nothing is delivered,
and the window that begins has none before it (R289). -/
def Dev.fsRest (d : Dev) : Dev := 
  { d with fs := { d.fs with prevCodes := [], raw := [], slots := [], heard := [] }, cap := { d.cap with skip := 0 } }

/-- TEST_CONFLICT after a commit or a change of period (R290): an F1 for each group that comes into conflict. -/
def Dev.testConflict (d : Dev) : Dev :=
  let n := samplesOf d.periodQ
  let bad (g : Nat) : Bool := !(d.testChans g).isEmpty && decide (n < d.g (F.FS_TEST_SCHED_SLOT g) + 2)
  let d := d.pb F.FS_WINDOW_TEST_CONFLICT ((List.range 4).any bad)
  (List.range 4).foldl (fun d g =>
    if bad g then
      if d.hasCause 0x0502 g then d else d.raise { src := 0x0502, cls := 1, detail := g, event := false }
    else d.when (d.hasCause 0x0502 g) (fun d => d.endCause 0x0502 g)) d

/-- FS_TEST_FAIL_LIMIT consecutive failures: TEST_FAIL (R291). -/
def Dev.testFail (k : Nat) (d : Dev) : Dev :=
  if k < 16 ∧ 1 ≤ d.g (F.FS_TEST_RESULT_CONSEC k) ∧ d.g F.FS_TEST_FAIL_LIMIT_COUNT ≤ d.g (F.FS_TEST_RESULT_CONSEC k) then
    d.p F.FS_STATUS_TEST_FAIL (setBit (d.g F.FS_STATUS_TEST_FAIL) k)
  else d

/-- Four consecutive passes, one at each level, clear TEST_FAIL (R291). -/
def Dev.testFailClear (k : Nat) (d : Dev) : Dev :=
  if k < 16 ∧ fourLevels (mget d.fs.passRun k) = true then d.p F.FS_STATUS_TEST_FAIL (clrBit (d.g F.FS_STATUS_TEST_FAIL) k) else d

/-! ## Metrology -/

def Dev.metOf (d : Dev) (c : Nat) : MetConv := mget d.met.conv c
def Dev.metUpd (d : Dev) (c : Nat) (f : MetConv → MetConv) : Dev := { d with met := { d.met with conv := mupd d.met.conv c f } }

/-- BUSY of a converter. -/
def Dev.metBusy (d : Dev) (c : Nat) : Bool := (d.g F.MET_STATUS_BUSY).testBit c

/-- Set or clear BUSYc and GOc together. -/
def Dev.metSetBusy (d : Dev) (c : Nat) (b : Bool) : Dev :=
  let f (m : Nat) : Nat := if b then setBit m c else clrBit m c
  (d.p F.MET_STATUS_BUSY (f (d.g F.MET_STATUS_BUSY))).p F.MET_GO_GO (f (d.g F.MET_GO_GO))

/-- The METROLOGY members in force for converter `c`. -/
def Dev.metMem (d : Dev) (c : Nat) : MetMem :=
  { input := d.g (F.MET_CTRL_INPUT c), refsel := d.g (F.MET_CTRL_REFSEL c), cycles := d.g (F.MET_CTRL_CYCLES c),
    cont := d.b (F.MET_CTRL_CONT c), window := d.g (F.MET_WINDOW_UNITS c) }

/-- A conversion of converter `c` begins, with members latched for it (R296). -/
def Dev.metLatch (d : Dev) (c : Nat) (mem : MetMem) (goAt : Nat) (start : Option Nat) : Dev :=
  d.metUpd c (fun _ => { mem := mem, goAt := goAt, start := start, edges := 0, endAt := none, off0 := d.cad.off, off1 := d.cad.off,
                         next := none, idle := false, check := false })

/-- A converter is started at this MET clock edge (R296). -/
def Dev.metBegin (d : Dev) (c : Nat) : Dev :=
  let fixed := d.g (F.MET_CTRL_REFSEL c) == 2
  (d.metSetBusy c true).metLatch c (d.metMem c) d.cad.now (if fixed then some d.cad.now else none)

/-- A write of 1 to GOc taken at a MET clock edge (R296, R297). -/
def Dev.metGo (c t : Nat) (d : Dev) : Dev :=
  let d := d.at t
  if 4 ≤ c then d
  else if d.metBusy c then d.inc (F.MET_GO_OVERRUN_COUNT c)
  else d.metBegin c

/-- The reference edge on which a waiting conversion starts: the last accepted LSYNC edge since GO, after the one that raised LSYNC_OK
(R299), or the last tick at which the MF frame count returned to 0 (R293, R296). -/
def Dev.metRefEdge (d : Dev) (m : MetConv) : Option Nat :=
  if m.mem.refsel = 0 then
    if d.b F.MET_STATUS_LSYNC_OK then d.met.lsyncAccepted.filter (fun t => decide (m.goAt ≤ t) && decide (d.met.okAt < t)) else none
  else if m.mem.refsel = 1 then
    if d.met.mfCount = 0 ∧ m.goAt ≤ d.cad.tickAt ∧ d.cad.started then some d.cad.tickAt else none
  else none

/-- A waiting converter starts its integration at its reference edge. -/
def Dev.metStartOne (d : Dev) (c : Nat) : Dev :=
  let m := d.metOf c
  match d.metRefEdge m with
  | none => d
  | some t => if c < 4 ∧ d.metBusy c = true ∧ m.start = none then
      d.metUpd c (fun m => { m with start := some t, edges := 0, idle := false, off0 := d.cad.off }) else d

/-- The integration of converter `c` starts at its reference edge (R296); converters 0 and 1 start together while ENERGY is 1 (R301). -/
def Dev.metStart (c : Nat) (d : Dev) : Dev :=
  if d.b F.MET_STATUS_ENERGY && decide (c < 2) then (d.metStartOne 0).metStartOne 1 else d.metStartOne c

/-- One reference edge of a kind passes at `t`: conversions in progress count it (R293). -/
def Dev.metEdge (d : Dev) (refsel t : Nat) : Dev :=
  (List.range 4).foldl (fun d c =>
    let m := d.metOf c
    if d.metBusy c && m.mem.refsel == refsel && (match m.start with | some s => decide (s < t) | none => false) then
      let ends := m.endAt.isNone && m.edges + 1 == m.mem.cycles
      d.metUpd c (fun m => { m with edges := m.edges + 1, endAt := if ends then some t else m.endAt,
                                    off1 := if ends then d.cad.off else m.off1 })
    else d) d

/-- The end of the integration in progress, where its CYCLES-th edge has passed by `t` (R293). -/
def metEndOf (m : MetConv) (t : Nat) : Option Nat :=
  match m.start with
  | none => none
  | some s =>
    if m.mem.refsel = 2 then
      let e := s + m.mem.cycles * m.mem.window * 400000
      if e ≤ t then some e else none
    else m.endAt.filter (fun e => decide (e ≤ t))

/-- The members of `old` are kept for the integrations that have begun before `t` at an end whose result is not written yet (R296);
converters 0 and 1 begin none while they are to stop. Mark: DEDUCED, unsafe (log entry 170). -/
def Dev.metHold (d old : Dev) (t : Nat) : Dev :=
  (List.range 4).foldl (fun d c =>
    let m := d.metOf c
    match metEndOf m t with
    | some e =>
      if d.metBusy c && m.next.isNone && decide (e < t) then
        let mem := old.metMem c
        d.metUpd c (fun m => { m with next := some { mem with cont := mem.cont && !(old.met.stopping && decide (c < 2)) } })
      else d
    | none => d) d

/-- The check of a zero or reference result (R300). -/
def Dev.metCheck (d : Dev) (c input : Nat) (code : Int) : Dev :=
  if input = 4 ∨ input = 5 then
    let want : Int := if input = 4 then 0 else 6710886
    let ok := decide ((code - want).natAbs ≤ d.g F.MET_CHECK_TOL_CODES)
    let m := d.g F.MET_STATUS_CHECK_FAIL
    if ok then d.p F.MET_STATUS_CHECK_FAIL (clrBit m c)
    else ((d.p F.MET_STATUS_CHECK_FAIL (setBit m c)).inc F.MET_CHECK_FAIL_COUNT).raise { src := 0x0504, cls := 1, detail := c }
  else d

/-- A binary64 value in units of 2^-32, exact where it is whole and otherwise one of its neighbours, left free (R302
gives the accumulators 32 bits of fraction and no rounding). Mark: DESIGN CHOICE, safe (log entry 78). -/
def toFixed32 (p : Nat) : Int :=
  match f64.unpack p with
  | .fin neg m e =>
    let v : Int := if neg then -(m : Int) else m
    if 0 ≤ e + 32 then v * 2 ^ (e + 32).toNat else qdiv v (2 ^ (-(e + 32)).toNat)
  | _ => 0

/-- A pair of results with the same window is accumulated (R302, R304). -/
def Dev.energyPair (d : Dev) (h0 h1 : MetHalf) : Dev :=
  let v := f64.mul (f64.ofInt h0.code) (to64 (d.g F.MET_SCALE_V_VOLTS))
  let i := f64.mul (f64.ofInt h1.code) (to64 (d.g F.MET_SCALE_I_AMPS))
  let dur := f64.ofRatio h0.dur 4000000000
  let sg := f64.ofInt (if d.b F.MET_ENERGY_CFG_SIGN then -1 else 1)
  let e := toFixed32 (f64.mul (f64.mul (f64.mul sg v) i) dur)
  let bad := h0.bad || h1.bad
  let run := d.met.ovrRun
  let d := { d with met := { d.met with
    half0 := none, half1 := none, ovrRun := bad,
    accImport := if 0 ≤ e then (d.met.accImport + e.toNat) % 2 ^ 96 else d.met.accImport,
    accExport := if 0 ≤ e then d.met.accExport else (d.met.accExport + (-e).toNat) % 2 ^ 96 } }
  let d := d.inc F.MET_ENERGY_WINDOW_COUNT
  let d := d.when bad (fun d => d.inc F.MET_ENERGY_OVR_COUNT)
  d.when (bad && !run) (fun d => d.raise { src := 0x0505, cls := 1 })

/-- A result of converter 0 or 1 while ENERGY is 1 (R302): a pair is accumulated once both halves of one window are
here. -/
def Dev.energyHalf (d : Dev) (c : Nat) (h : MetHalf) : Dev :=
  if !d.b F.MET_STATUS_ENERGY || decide (2 ≤ c) then d
  else
    let m := if c = 0 then { d.met with half0 := some h } else { d.met with half1 := some h }
    let d := { d with met := m }
    match d.met.half0, d.met.half1 with
    | some a, some b => if a.start = b.start ∧ a.stop = b.stop then d.energyPair a b else d
    | _, _ => d

/-- Both energy converters have stopped (R526): after ENERGY_STOP the accumulation ends; otherwise ENERGY clears with a
fault. -/
def Dev.energyStopped (d : Dev) : Dev :=
  if d.b F.MET_STATUS_ENERGY && !d.metBusy 0 && !d.metBusy 1 then
    let d' := { d.pb F.MET_STATUS_ENERGY false with met := { d.met with stopping := false, half0 := none, half1 := none } }
    if d.met.stopping then d' else d'.raise { src := 0x0B10, cls := 1 }
  else d

/-- After a result: the converter stops, or its next integration starts at the edge at which this one ended, with the
members that were in force there (R296, R526). -/
def Dev.metNext (d : Dev) (c e : Nat) : Dev :=
  let m := d.metOf c
  let mem := match m.next with
    | some x => x
    | none => { d.metMem c with cont := d.b (F.MET_CTRL_CONT c) && !(d.met.stopping && decide (c < 2)) }
  if m.mem.cont && mem.cont then
    let extra := m.edges - m.mem.cycles
    (d.metLatch c mem m.goAt (some e)).metUpd c (fun x => { x with edges := extra, off0 := m.off1 })
  else ((d.metSetBusy c false).metUpd c (fun _ => default)).energyStopped

/-- An integration of converter `c` has ended (R296, R298): `x` is the mean input as an unsaturated code, `ovr` says that
the input passed 1.30 V in some modulator cycle. -/
def Dev.metEnd (c t : Nat) (x : Int) (ovr : Bool) (d : Dev) : Dev :=
  let d := d.at t
  let m := d.metOf c
  if !(decide (c < 4) && d.metBusy c) then d
  else
    match metEndOf m d.cad.now, m.start with
    | some e, some s =>
      let code := clampInt x (-8388608) 8388607
      let full := decide (code ≠ x)
      let d := ((d.ps (F.MET_RESULT_CODE c) code).pb (F.MET_RESULT_FULL c) full).pb (F.MET_RESULT_OVR c) ovr
      let d := ((d.pb (F.MET_RESULT_NOREF c) false).pb (F.MET_RESULT_VALID c) (!full && !ovr)).p (F.MET_RESULT_INPUT c) m.mem.input
      let d := (d.p (F.MET_RESULT_FRAME_FRAME c) d.cad.frame).inc (F.MET_RESULT_COUNT c)
      let d := d.when ovr (fun d => d.inc F.MET_OVR_COUNT)
      let d := d.metCheck c m.mem.input code
      let off := if m.mem.refsel = 2 then d.cad.off else m.off1
      let d := d.energyHalf c ⟨s, e, ((e : Int) + off) - ((s : Int) + m.off0), code, full || ovr⟩
      (d.metUpd c (fun m => { m with off1 := off })).metNext c e
    | _, _ => d

/-- A conversion paced by LSYNC waits more than 25 ms without a reference (R299): it ends with NOREF; under CONT the
converter waits for LSYNC_OK and starts by itself. Mark: DEDUCED, unsafe (log entry 77). -/
def Dev.metNoref (c t : Nat) (d : Dev) : Dev :=
  let d := d.at t
  let m := d.metOf c
  let since := match d.met.lsyncAccepted with
    | some a => max a m.goAt
    | none => m.goAt
  if c < 4 ∧ d.metBusy c = true ∧ m.idle = false ∧ m.mem.refsel = 0 ∧ d.b F.MET_STATUS_LSYNC_OK = false ∧ since + 100000000 < d.cad.now then
    let d := ((d.pb (F.MET_RESULT_NOREF c) true).pb (F.MET_RESULT_VALID c) false).inc F.MET_NOREF_COUNT
    let d := d.energyHalf c ⟨m.goAt, m.goAt, 0, 0, true⟩
    if m.mem.cont && d.b (F.MET_CTRL_CONT c) && !(d.met.stopping && decide (c < 2)) then
      (d.metLatch c (d.metMem c) d.cad.now none).metUpd c (fun m => { m with idle := true })
    else ((d.metSetBusy c false).metUpd c (fun _ => default)).energyStopped
  else d

/-- A rising LSYNC edge (R294). -/
def Dev.lsyncEdge (t : Nat) (d : Dev) : Dev :=
  let d := d.at t
  match d.met.lsyncPrev with
  | none => { d with met := { d.met with lsyncPrev := some d.cad.now, lsyncRun := 0 } }
  | some p =>
    let dt := d.cad.now - p
    if 61520000 ≤ dt ∧ dt ≤ 88880000 then
      let run := d.met.lsyncRun + 1
      let d := match d.met.lsyncAccepted with
        | some a => d.p F.MET_LSYNC_PERIOD_US (qdiv ((d.cad.now - a : Nat) : Int) 4000).toNat
        | none => d
      let d := { d with met := { d.met with lsyncPrev := some d.cad.now, lsyncAccepted := some d.cad.now, lsyncRun := run } }
      let d := d.when (decide (2 ≤ run) && !d.b F.MET_STATUS_LSYNC_OK) (fun d =>
        { d with met := { d.met with okAt := d.cad.now } }.pb F.MET_STATUS_LSYNC_OK true)
      d.metEdge 0 d.cad.now
    else { d with met := { d.met with lsyncPrev := some d.cad.now, lsyncRun := 0 } }.inc F.MET_LSYNC_REJECT_COUNT

/-- No LSYNC edge accepted for 25 ms (R294): the next edge is a first edge again. -/
def Dev.lsyncLoss (t : Nat) (d : Dev) : Dev :=
  let d := d.at t
  if d.b F.MET_STATUS_LSYNC_OK && decide (d.met.lsyncAccepted.getD 0 + 100000000 ≤ d.cad.now) then
    { d with met := { d.met with lsyncPrev := none, lsyncRun := 0 } }.pb F.MET_STATUS_LSYNC_OK false
  else d

/-- The MF frame count at a tick (R295): a return to 0 ends a cycle. -/
def Dev.mfTick (d : Dev) : Dev :=
  let n := d.g F.MET_MF_FRAMES_FRAMES
  let c := if d.met.mfCount + 1 < n then d.met.mfCount + 1 else 0
  let d := { d with met := { d.met with mfCount := c } }
  d.when (c == 0) (fun d => d.metEdge 1 d.cad.tickAt)

/-- Is the MF frequency within 100 Hz to 2,000 Hz for a period of `q` (R295)? -/
def mfOk (frames q : Nat) : Bool := decide (frames * q ≤ 40000000) && decide (2000000 ≤ frames * q)

/-- MF_CONFLICT after a change of period or a commit (R295). -/
def Dev.mfConflict (d : Dev) : Dev :=
  let bad := !mfOk (d.g F.MET_MF_FRAMES_FRAMES) d.periodQ
  let was := d.b F.MET_STATUS_MF_CONFLICT
  let d := d.pb F.MET_STATUS_MF_CONFLICT bad
  if bad && !was then d.raise { src := 0x0503, cls := 1, event := false }
  else if !bad && was then d.endCause 0x0503 0 else d

end Sys2Proof.Machine
end

