-- ==== Sys2Proof/Machine/CeBlock.lean ====
section
/-! DEFINITION. The blocks of the control engine (chapter *The control engine*): binary32 arithmetic with subnormals
taken as zero (R207), the notch and lead-lag coefficients (R212, R221), and what each block type of R219 computes
from its inputs, its parameters and its state (R220 to R226). -/
namespace Sys2Proof.Machine

/-! ## Arithmetic of R207 -/

/-- A subnormal is zero of the same sign. -/
def ftz (a : Nat) : Nat := if a / 2 ^ 23 % 2 ^ 8 = 0 then a / 2 ^ 31 % 2 * 2 ^ 31 else a

/-- Mark: DEDUCED, unsafe (log entry 58). -/
def cAdd (a b : Nat) : Nat := ftz (f32.add (ftz a) (ftz b))
def cSub (a b : Nat) : Nat := ftz (f32.sub (ftz a) (ftz b))
def cMul (a b : Nat) : Nat := ftz (f32.mul (ftz a) (ftz b))
def cDiv (a b : Nat) : Nat := ftz (f32.div (ftz a) (ftz b))
def cSqrt (a : Nat) : Nat := ftz (f32.sqrt (ftz a))
def cNeg (a : Nat) : Nat := if a / 2 ^ 31 % 2 = 1 then a - 2 ^ 31 else a + 2 ^ 31
def cAbs (a : Nat) : Nat := a % 2 ^ 31
def cLt (a b : Nat) : Bool := f32.lt (ftz a) (ftz b)
def cLe (a b : Nat) : Bool := f32.le (ftz a) (ftz b)
def cEq (a b : Nat) : Bool := f32.feq (ftz a) (ftz b)
def cMax (a b : Nat) : Nat := if cLt a b then b else a
def cMin (a b : Nat) : Nat := if cLt b a then b else a
def cOf (i : Int) : Nat := f32.ofInt i

/-- clamp of R220, whether it changed its value, and whether lo > hi. -/
def cClamp (v lo hi : Nat) : Nat × Bool × Bool :=
  (cMin (cMax v lo) hi, cLt v lo || cLt hi v, cLt hi lo)

def cHalf : Nat := 0x3F000000
def cTwo : Nat := 0x40000000
/-- 2 pi, the square root of 3 and 2/3, rounded to binary32. -/
def cTwoPi : Nat := 0x40C90FDB
def cSqrt3 : Nat := 0x3FDDB3D7
def cTwoThirds : Nat := 0x3F2AAAAB

/-- The frame period in seconds, h of R220, in binary32 and in binary64. -/
def hOf (period : Nat) : Nat := f32.ofRatio (period : Int) (10 ^ 8)
def h64Of (period : Nat) : Nat := f64.ofRatio (period : Int) (10 ^ 8)

/-! ## Block types (R219) -/

def tSum : Nat := 0x01
def tGain : Nat := 0x02
def tMul : Nat := 0x03
def tDiv : Nat := 0x04
def tLimit : Nat := 0x05
def tSlew : Nat := 0x06
def tInteg : Nat := 0x07
def tPi : Nat := 0x08
def tPid : Nat := 0x09
def tBiquad : Nat := 0x0A
def tNotch : Nat := 0x0B
def tLeadlag : Nat := 0x0C
def tMavg : Nat := 0x0D
def tDelay : Nat := 0x0E
def tClarke : Nat := 0x0F
def tPark : Nat := 0x10
def tIpark : Nat := 0x11
def tPll : Nat := 0x12
def tLut : Nat := 0x13
def tCmp : Nat := 0x14
def tSel : Nat := 0x15
def tFollow : Nat := 0x16
def tManauto : Nat := 0x17
def tArmsplit : Nat := 0x18
def tExt : Nat := 0x1F

/-- Cost in lane-cycles of a type with structural count `n` (R219). -/
def ceCost (ty n : Nat) : Nat :=
  if ty = tMavg then 4 + (n + 1) / 2
  else match ty with
    | 0x01 => 6 | 0x02 => 4 | 0x03 => 4 | 0x04 => 20 | 0x05 => 6 | 0x06 => 8 | 0x07 => 8 | 0x08 => 12 | 0x09 => 20
    | 0x0A => 14 | 0x0B => 14 | 0x0C => 10 | 0x0E => 4 | 0x0F => 10 | 0x10 => 16 | 0x11 => 16 | 0x12 => 36
    | 0x13 => 14 | 0x14 => 6 | 0x15 => 4 | 0x16 => 8 | 0x17 => 10 | 0x18 => 14 | _ => 0

/-- State words of a type (R219). Mark: DESIGN CHOICE, unsafe (log entry 61). -/
def ceWords (ty n : Nat) : Nat :=
  if ty = tMavg ∨ ty = tDelay then n
  else match ty with
    | 0x06 => 1 | 0x07 => 1 | 0x08 => 1 | 0x09 => 3 | 0x0A => 4 | 0x0B => 4 | 0x0C => 2 | 0x12 => 2 | 0x14 => 1
    | 0x16 => 2 | 0x17 => 2 | _ => 0

/-- Outputs of a type (R219). -/
def ceOuts (ty : Nat) : Nat :=
  if ty = tClarke ∨ ty = tPll then 3
  else if ty = tPark ∨ ty = tIpark ∨ ty = tFollow ∨ ty = tArmsplit then 2
  else if ty = tExt then 0 else 1

/-! ## Coefficients (R212, R221) -/

/-- A binary32 pattern as binary64, a binary64 quotient, and so on: short names for the listings below. -/
def dMul (a b : Nat) : Nat := f64.mul a b
def dAdd (a b : Nat) : Nat := f64.add a b
def dSub (a b : Nat) : Nat := f64.sub a b
def dDiv (a b : Nat) : Nat := f64.div a b
def dOf (i : Int) : Nat := f64.ofInt i

/-- The notch coefficients c0 to c4 of R221. -/
def notchCoef (f0 width depth period : Nat) : List Nat :=
  let f := to64 f0
  let k := notchTan (dMul (dMul 0x400921FB54442D18 f) (h64Of period))
  let zp := dDiv (to64 width) (dMul (dOf 2) f)
  let zz := dMul zp (notchExp10 (dDiv (f64.sub 0 (to64 depth)) (dOf 20)))
  let kk := dMul k k
  let zpk := dMul zp k
  let a0 := dAdd (dAdd (dOf 1) (dMul (dOf 2) zpk)) kk
  let c0 := dDiv (dMul (dMul (dOf 2) k) (dSub zz zp)) a0
  let c1 := dDiv (dMul (dOf 4) (dAdd zpk kk)) a0
  let c2 := dDiv (dMul (dMul (dOf (-2)) k) (dAdd zz zp)) a0
  let c4 := dDiv (dMul (dOf (-4)) zpk) a0
  [c0, c1, c2, c1, c4].map to32

/-- The lead-lag coefficients: of x0, of x0_1, of y0_1 (R212, R220). -/
def leadCoef (gain lead lag period : Nat) : List Nat :=
  let k := dDiv (dOf 2) (h64Of period)
  let kl := dMul k (to64 lead)
  let kg := dMul k (to64 lag)
  let den := dAdd (dOf 1) kg
  let g := to64 gain
  [dDiv (dMul g (dAdd (dOf 1) kl)) den, dDiv (dMul g (dSub (dOf 1) kl)) den, dDiv (dSub (dOf 1) kg) den].map to32

/-- 0.45 / T in binary32, and whether a frequency lies at or above it (R213). -/
def freqLimit (period : Nat) : Nat := to32 (dDiv (f64.ofRatio 45 100) (h64Of period))
def freqOver (f period : Nat) : Bool :=
  match f32.unpack f with
  | .fin neg m e =>
    let lhs := m * period * 100
    !neg && (if 0 ≤ e then decide (45 * 10 ^ 8 ≤ lhs * 2 ^ e.toNat) else decide (45 * 10 ^ 8 * 2 ^ (-e).toNat ≤ lhs))
  | .inf neg => !neg
  | .nan => false

/-! ## What a block is given and what it answers -/

/-- What a block reads in a pass: its inputs and whether each is connected, its parameters, its previous outputs and
state, the period, the freeze and the target of a tracked controller. -/
structure BlockIn where
  ty : Nat
  x : List Nat
  conn : List Bool
  p : List Nat
  y1 : List Nat
  st : List Nat
  old : CeState
  h : Nat
  period : Nat
  count : Nat
  signs : List Int
  preset : Bool
  frozen : Bool
  target : Option Nat
  lut : List (Nat × Nat)
  vsum0 : Nat
  vsum1 : Nat
  fresh : Bool

/-- What a block answers: outputs, state, flags, whether its counted event occurred, and the memory of that event. -/
structure BlockOut where
  y : List Nat
  st : List Nat := []
  limited : Bool := false
  conflict : Bool := false
  floored : Bool := false
  tripped : Bool := false
  manual : Bool := false
  frozen : Bool := false
  tracking : Bool := false
  event : Bool := false
  aux : Nat := 0

def BlockIn.xi (b : BlockIn) (i : Nat) : Nat := ((b.x[i]?).getD 0)
def BlockIn.pi (b : BlockIn) (i : Nat) : Nat := ((b.p[i]?).getD 0)
def BlockIn.si (b : BlockIn) (i : Nat) : Nat := ((b.st[i]?).getD 0)
def BlockIn.yp (b : BlockIn) (i : Nat) : Nat := ((b.y1[i]?).getD 0)
def BlockIn.con (b : BlockIn) (i : Nat) : Bool := ((b.conn[i]?).getD false)

/-! ## Arithmetic blocks -/

def blkSum (b : BlockIn) : BlockOut :=
  let term (i : Nat) : Nat := cMul (cOf ((b.signs[i]?).getD 0)) (b.xi i)
  { y := [cAdd (cAdd (cAdd (term 0) (term 1)) (term 2)) (term 3)] }

def blkGain (b : BlockIn) : BlockOut := { y := [cAdd (cMul (b.pi 0) (b.xi 0)) (b.pi 1)] }

def blkMul (b : BlockIn) : BlockOut := { y := [cMul (cMul (b.pi 0) (b.xi 0)) (b.xi 1)] }

def blkDiv (b : BlockIn) : BlockOut :=
  let use := !cLe (b.pi 0) (cAbs (b.xi 1))
  let den := if !use then b.xi 1 else if cLe 0 (b.xi 1) then b.pi 0 else cNeg (b.pi 0)
  { y := [cDiv (b.xi 0) den], floored := use, event := use }

/-- Mark: DEDUCED, unsafe (log entry 62). -/
def blkLimit (b : BlockIn) : BlockOut :=
  let lo := if b.con 1 then cMax (b.pi 0) (b.xi 1) else b.pi 0
  let hi := if b.con 2 then cMin (b.pi 1) (b.xi 2) else b.pi 1
  let (v, lim, con) := cClamp (b.xi 0) lo hi
  { y := [v], limited := lim || con, conflict := con, event := (lim || con) && !b.old.limited }

/-- SLEW (R220, R222): its state word is x0_1. -/
def blkSlew (b : BlockIn) : BlockOut :=
  let y1 := if b.fresh then (if b.preset then b.pi 2 else b.xi 0) else b.yp 0
  let x1 := if b.fresh then b.xi 0 else b.si 0
  let dy := (cClamp (cSub (b.xi 0) y1) (cNeg (cMul (b.pi 1) b.h)) (cMul (b.pi 0) b.h)).1
  { y := [cAdd y1 dy], st := [b.xi 0], event := !cEq (b.xi 0) x1 && !cEq y1 x1 }

/-! ## Controllers -/

/-- INTEG: reset dominates tracking, tracking dominates freeze. -/
def blkInteg (b : BlockIn) : BlockOut :=
  let y1 := if b.fresh then (cClamp (b.pi 3) (b.pi 1) (b.pi 2)).1 else b.si 0
  let reset := cLe cHalf (b.xi 1)
  let held := !reset && b.target.isNone && b.frozen
  let v := if reset then b.pi 3 else match b.target with
    | some t => t
    | none => cAdd y1 (cMul (cMul (b.pi 0) b.h) (b.xi 0))
  let (c, lim, con) := cClamp v (b.pi 1) (b.pi 2)
  let y := if held then y1 else c
  { y := [y], st := [y], limited := !held && (lim || con), conflict := !held && con,
    event := !held && (lim || con) && !b.old.limited, frozen := b.frozen && b.target.isNone,
    tracking := b.target.isSome }

/-- The integrator of PI and PID: the clamped integrator and output for a proportional part and limits. -/
def piCore (b : BlockIn) (i1 step base lo hi : Nat) : Nat × Nat × Bool × Bool :=
  let i := match b.target with
    | some t => cSub t base
    | none => if b.frozen then i1 else cAdd i1 step
  let (ic, l1, k1) := cClamp i (cSub lo base) (cSub hi base)
  let (y, l2, k2) := cClamp (cAdd base ic) lo hi
  (ic, y, l1 || l2, k1 || k2)

def blkPi (b : BlockIn) : BlockOut :=
  let e := b.xi 0
  let i1 := if b.fresh then (cClamp (b.pi 4) (b.pi 2) (b.pi 3)).1 else b.si 0
  let pr := cMul (b.pi 0) e
  let (i, y, lim, con) := piCore b i1 (cMul (cMul (b.pi 1) b.h) e) pr (b.pi 2) (b.pi 3)
  { y := [y], st := [i], limited := lim || con, conflict := con, event := (lim || con) && !b.old.limited,
    frozen := b.frozen && b.target.isNone, tracking := b.target.isSome }

/-- PID: state words i, d and e_1. The limits less pr and d, and the output pr + i + d, in the order of R220. -/
def blkPid (b : BlockIn) : BlockOut :=
  let e := b.xi 0
  let i1 := if b.fresh then (cClamp (b.pi 6) (b.pi 4) (b.pi 5)).1 else b.si 0
  let d1 := if b.fresh then 0 else b.si 1
  let e1 := if b.fresh then e else b.si 2
  let pr := cMul (b.pi 0) e
  let fz := b.frozen && b.target.isNone
  let dd := if fz then d1
    else cDiv (cAdd (cMul (b.pi 3) d1) (cMul (b.pi 2) (cSub e e1))) (cAdd (b.pi 3) b.h)
  let i := match b.target with
    | some t => cSub (cSub t pr) dd
    | none => if b.frozen then i1 else cAdd i1 (cMul (cMul (b.pi 1) b.h) e)
  let (ic, l1, k1) := cClamp i (cSub (cSub (b.pi 4) pr) dd) (cSub (cSub (b.pi 5) pr) dd)
  let (y, l2, k2) := cClamp (cAdd (cAdd pr ic) dd) (b.pi 4) (b.pi 5)
  let lim := l1 || l2 || k1 || k2
  { y := [y], st := [ic, dd, e], limited := lim, conflict := k1 || k2, event := lim && !b.old.limited, frozen := fz,
    tracking := b.target.isSome }

/-! ## Filters -/

/-- The DC gain of a BIQUAD. -/
def biquadDc (b : BlockIn) : Nat :=
  cDiv (cAdd (cAdd (b.pi 0) (b.pi 1)) (b.pi 2)) (cAdd (cAdd f32one (b.pi 3)) (b.pi 4))

/-- BIQUAD: state words x0_1, x0_2, y0_1, y0_2; the DC gain of the initial states is (b0 + b1 + b2) / (1 + a1 + a2). -/
def blkBiquad (b : BlockIn) : BlockOut :=
  let x := b.xi 0
  let s := if b.fresh then [x, x, cMul (biquadDc b) x, cMul (biquadDc b) x] else b.st
  let g (i : Nat) : Nat := (s[i]?).getD 0
  let y := cSub (cSub (cAdd (cAdd (cMul (b.pi 0) x) (cMul (b.pi 1) (g 0))) (cMul (b.pi 2) (g 1)))
    (cMul (b.pi 3) (g 2))) (cMul (b.pi 4) (g 3))
  { y := [y], st := [x, g 0, y, g 2] }

/-- NOTCH: the same state words; while its frequency is out of range it passes its input (R213). -/
def blkNotch (b : BlockIn) : BlockOut :=
  let x := b.xi 0
  let s := if b.fresh then [x, x, x, x] else b.st
  let g (i : Nat) : Nat := (s[i]?).getD 0
  let cf := notchCoef (b.pi 0) (b.pi 1) (b.pi 2) b.period
  let ck (i : Nat) : Nat := (cf[i]?).getD 0
  let base := cSub (cAdd (cAdd (cSub x (cMul cTwo (g 0))) (g 1)) (cMul cTwo (g 2))) (g 3)
  let y := cSub (cSub (cAdd (cAdd (cAdd base (cMul (ck 0) x)) (cMul (ck 1) (g 0))) (cMul (ck 2) (g 1)))
    (cMul (ck 3) (g 2))) (cMul (ck 4) (g 3))
  let tooFar := freqOver (b.pi 0) b.period
  let y := if tooFar then x else y
  { y := [y], st := [x, g 0, y, g 2], conflict := tooFar }

/-- LEADLAG: state words x0_1 and y0_1. -/
def blkLeadlag (b : BlockIn) : BlockOut :=
  let x := b.xi 0
  let x1 := if b.fresh then x else b.si 0
  let y1 := if b.fresh then cMul (b.pi 0) x else b.si 1
  let cf := leadCoef (b.pi 0) (b.pi 1) (b.pi 2) b.period
  let ck (i : Nat) : Nat := (cf[i]?).getD 0
  let y := cSub (cAdd (cMul (ck 0) x) (cMul (ck 1) x1)) (cMul (ck 2) y1)
  { y := [y], st := [x, y] }

/-- MAVG: state words x0 to x0_(L-1), newest first. -/
def blkMavg (b : BlockIn) : BlockOut :=
  let buf := if b.fresh then List.replicate b.count (b.xi 0) else (b.xi 0 :: b.st).take b.count
  { y := [cDiv ((buf.drop 1).foldl cAdd ((buf.head?).getD 0)) (cOf (b.count : Int))], st := buf }

/-- DELAY: state words x0_1 to x0_D, newest first. -/
def blkDelay (b : BlockIn) : BlockOut :=
  let buf := if b.fresh then List.replicate b.count (b.xi 0) else b.st
  { y := [(buf.getLast?).getD 0], st := (b.xi 0 :: buf).take b.count }

/-! ## Transforms -/

def blkClarke (b : BlockIn) : BlockOut :=
  let s := cDiv (cAdd (b.xi 1) (b.xi 2)) cTwo
  { y := [cMul cTwoThirds (cSub (b.xi 0) s), cDiv (cSub (b.xi 1) (b.xi 2)) cSqrt3,
          cDiv (cAdd (cAdd (b.xi 0) (b.xi 1)) (b.xi 2)) (cOf 3)] }

/-- Sine and cosine, with a subnormal angle taken as zero (R207). -/
def cSin (a : Nat) : Nat := ftz (ceSin (ftz a))
def cCos (a : Nat) : Nat := ftz (ceCos (ftz a))

def blkPark (b : BlockIn) : BlockOut :=
  let s := cSin (b.xi 2)
  let c := cCos (b.xi 2)
  { y := [cAdd (cMul (b.xi 0) c) (cMul (b.xi 1) s), cAdd (cMul (cNeg (b.xi 0)) s) (cMul (b.xi 1) c)] }

def blkIpark (b : BlockIn) : BlockOut :=
  let s := cSin (b.xi 2)
  let c := cCos (b.xi 2)
  { y := [cSub (cMul (b.xi 0) c) (cMul (b.xi 1) s), cAdd (cMul (b.xi 0) s) (cMul (b.xi 1) c)] }

/-- SRF_PLL: state words theta and i; P4 at or above 0.45 / T is replaced by it (R213). -/
def blkPll (b : BlockIn) : BlockOut :=
  let th1 := if b.fresh then 0 else b.si 0
  let i1 := if b.fresh then 0 else b.si 1
  let tooFar := freqOver (b.pi 4) b.period
  let fmax := if tooFar then freqLimit b.period else b.pi 4
  let amp := cSqrt (cAdd (cMul (b.xi 0) (b.xi 0)) (cMul (b.xi 1) (b.xi 1)))
  let e := cDiv (cAdd (cMul (cNeg (b.xi 0)) (cSin th1)) (cMul (b.xi 1) (cCos th1))) (cMax amp (b.pi 5))
  let (i, _, k1) := cClamp (cAdd i1 (cMul (cMul (b.pi 2) b.h) e)) (cMul cTwoPi (cSub (b.pi 3) (b.pi 0)))
    (cMul cTwoPi (cSub fmax (b.pi 0)))
  let (w, lim, k2) := cClamp (cAdd (cAdd (cMul cTwoPi (b.pi 0)) (cMul (b.pi 1) e)) i) (cMul cTwoPi (b.pi 3))
    (cMul cTwoPi fmax)
  let t := cAdd th1 (cMul w b.h)
  let th := if cLe 0 t && cLt t cTwoPi then t else ftz (ceReduce t)
  let lim := lim || k2
  { y := [th, cDiv w cTwoPi, amp], st := [th, i], limited := lim, conflict := tooFar || k1 || k2,
    event := lim && !b.old.limited }

/-! ## Selection and supervision -/

/-- The table look-up of LUT between its points. -/
def lutAt (x : Nat) : List (Nat × Nat) → Nat
  | (u, v) :: (u2, v2) :: r =>
    if cLt x u2 then cAdd v (cDiv (cMul (cSub x u) (cSub v2 v)) (cSub u2 u)) else lutAt x ((u2, v2) :: r)
  | [(_, v)] => v
  | [] => 0

def blkLut (b : BlockIn) : BlockOut :=
  let x := b.xi 0
  let lo := (b.lut.head?).getD (0, 0)
  let hi := (b.lut.getLast?).getD (0, 0)
  let y := if cLe x lo.1 then lo.2 else if cLe hi.1 x then hi.2 else lutAt x b.lut
  let outside := cLt x lo.1 || cLt hi.1 x
  { y := [y], aux := bit outside, event := outside && decide (b.old.aux = 0) }

/-- CMP: its state word is y0_1. -/
def blkCmp (b : BlockIn) : BlockOut :=
  let y1 := if b.fresh then 0 else b.si 0
  let y := if cLe (cAdd (b.pi 0) (b.pi 1)) (b.xi 0) then f32one
    else if cLe (b.xi 0) (cSub (b.pi 0) (b.pi 1)) then 0 else y1
  { y := [y], st := [y], event := !cEq y y1 }

/-- SEL: it remembers which input it selected (1 or 2) in the pass before, for its event. -/
def blkSel (b : BlockIn) : BlockOut :=
  let two := cLe cHalf (b.xi 0)
  let k := if two then 2 else 1
  { y := [if two then b.xi 2 else b.xi 1], aux := k, event := decide (b.old.aux ≠ 0) && decide (b.old.aux ≠ k) }

/-- FOLLOW (R223): state words t and the trip flag. -/
def blkFollow (b : BlockIn) : BlockOut :=
  let t1 := if b.fresh then 0 else b.si 0
  let was := !b.fresh && !cEq (b.si 1) 0
  let e := cSub (b.xi 0) (b.xi 1)
  let t := if cLt (b.pi 0) (cAbs e) then cAdd t1 b.h else 0
  let trip := cLe (b.pi 1) t
  let y := if trip then f32one else 0
  { y := [y, e], st := [t, y], tripped := trip, event := trip && !was }

/-- MANAUTO (R224, R226): state words m and the mode of the pass before. -/
def blkManauto (b : BlockIn) : BlockOut :=
  let man := cEq (b.pi 0) f32one
  let m1 := if b.fresh then b.pi 1 else b.si 0
  let mode1 := if b.fresh then b.pi 0 else b.si 1
  let step := cMul (b.pi 2) b.h
  let m := if man then cAdd m1 (cClamp (cSub (b.pi 1) m1) (cNeg step) step).1 else b.xi 0
  { y := [m], st := [m, b.pi 0], manual := man, event := !cEq mode1 (b.pi 0) }

def blkArmsplit (b : BlockIn) : BlockOut :=
  let half := cDiv (b.xi 0) cTwo
  let (a, l0, k0) := cClamp (cSub (cSub half (b.xi 1)) (b.xi 2)) (b.pi 0) (cMin (b.pi 1) (cMul (b.pi 2) b.vsum0))
  let (c, l1, k1) := cClamp (cSub (cAdd half (b.xi 1)) (b.xi 2)) (b.pi 0) (cMin (b.pi 1) (cMul (b.pi 2) b.vsum1))
  let lim := l0 || l1 || k0 || k1
  { y := [a, c], limited := lim, conflict := k0 || k1, event := lim && !b.old.limited }

/-- The initial state words of a block (R216, R219), in the order of its state. -/
def initWords (b : BlockIn) : List Nat :=
  let x := b.xi 0
  match b.ty with
  | 0x06 => [x]
  | 0x07 => [(cClamp (b.pi 3) (b.pi 1) (b.pi 2)).1]
  | 0x08 => [(cClamp (b.pi 4) (b.pi 2) (b.pi 3)).1]
  | 0x09 => [(cClamp (b.pi 6) (b.pi 4) (b.pi 5)).1, 0, x]
  | 0x0A => [x, x, cMul (biquadDc b) x, cMul (biquadDc b) x]
  | 0x0B => [x, x, x, x]
  | 0x0C => [x, cMul (b.pi 0) x]
  | 0x0D => List.replicate b.count x
  | 0x0E => List.replicate b.count x
  | 0x12 => [0, 0]
  | 0x14 => [0]
  | 0x16 => [0, 0]
  | 0x17 => [b.pi 1, b.pi 0]
  | _ => []

/-- The outputs that the Initial column names (R216, R219); every other previous output reads 0.0. -/
def initOuts (b : BlockIn) : List Nat :=
  if b.ty = tSlew then [if b.preset then b.pi 2 else b.xi 0]
  else if b.ty = tInteg then [(cClamp (b.pi 3) (b.pi 1) (b.pi 2)).1]
  else []

/-- The block of a type. -/
def blk (b : BlockIn) : BlockOut :=
  match b.ty with
  | 0x01 => blkSum b
  | 0x02 => blkGain b
  | 0x03 => blkMul b
  | 0x04 => blkDiv b
  | 0x05 => blkLimit b
  | 0x06 => blkSlew b
  | 0x07 => blkInteg b
  | 0x08 => blkPi b
  | 0x09 => blkPid b
  | 0x0A => blkBiquad b
  | 0x0B => blkNotch b
  | 0x0C => blkLeadlag b
  | 0x0D => blkMavg b
  | 0x0E => blkDelay b
  | 0x0F => blkClarke b
  | 0x10 => blkPark b
  | 0x11 => blkIpark b
  | 0x12 => blkPll b
  | 0x13 => blkLut b
  | 0x14 => blkCmp b
  | 0x15 => blkSel b
  | 0x16 => blkFollow b
  | 0x17 => blkManauto b
  | 0x18 => blkArmsplit b
  | _ => { y := [0] }

end Sys2Proof.Machine
end

