-- ==== Sys2Proof/Machine/Span.lean ====
section
/-! DEFINITION. Taking a span message (R457): the CRC, the first copy, the relay round the ring. Every message of
R456 goes through `Dev.spanTake`. -/
namespace Sys2Proof.Machine

/-! ## Types of R456 -/

def spQuota : Nat := 0x01
def spStage : Nat := 0x02
def spVerdict : Nat := 0x03
def spSummary : Nat := 0x04
def spSpanOut : Nat := 0x05
def spSnapPart : Nat := 0x06
def spSafety : Nat := 0x07
def spEnum : Nat := 0x08
def spEnumReply : Nat := 0x09
def spLoaded : Nat := 0x0A

/-! ## Lane indices (R439, R441) -/

def isCell (i : Nat) : Bool := decide (i < 64)
def isEast (i : Nat) : Bool := decide (64 ≤ i) && decide (i < 67)
def isWest (i : Nat) : Bool := decide (67 ≤ i) && decide (i < 70)
def isSpan (i : Nat) : Bool := isEast i || isWest i
def isUplink (i : Nat) : Bool := decide (70 ≤ i) && decide (i < 72)

/-- The PLL group of a lane. -/
def pllGroup (i : Nat) : Nat := if i < 64 then i / 4 else if i < 67 then 16 else if i < 70 then 17 else 18

/-- The lanes of a bundle: 0 East, 1 West. -/
def bundleLanes (b : Nat) : List Nat := if b = 0 then [64, 65, 66] else [67, 68, 69]
def bundleOf (i : Nat) : Nat := if isEast i then 0 else 1

/-! ## Sending (R457 to R459) -/

/-- The class of a message type (R456). -/
def spanClass (ty : Nat) : Nat :=
  if ty = spQuota then 1 else if ty = spSafety then 2 else if ty = spSnapPart then 4 else if ty = spEnum ∨ ty = spEnumReply then 5 else 3

/-- The class of a message, where it is one. -/
def Out.class : Out → Nat
  | .span ty _ _ => spanClass ty
  | .relay ty _ _ _ _ _ => spanClass ty
  | .quota _ => 1
  | _ => 3

/-- The logical lanes of a bundle that are UP (R450, R468). Mark: DEDUCED, unsafe (log entry 91). -/
def Dev.bundleUp (d : Dev) (b : Nat) : Nat :=
  let rev := d.b (if b = 0 then F.LANE_SPAN_STATE_EAST_REVERSED else F.LANE_SPAN_STATE_WEST_REVERSED)
  (List.range 3).foldl (fun m j =>
    let phys := (if b = 0 then 64 else 67) + (if rev then 2 - j else j)
    if d.laneUp phys then setBit m j else m) 0

/-- Put a message of a class into a queue in class order and then in order of arrival. -/
def queueIn (c : Nat) (o : Out) : List (Nat × Out) → List (Nat × Out)
  | [] => [(c, o)]
  | x :: r => if c < x.1 then (c, o) :: x :: r else x :: queueIn c o r

/-- A message for a span lane's transmit queue (R459): a full queue gives up the newest entry of the lowest class present, when that is
below the new one's, and otherwise the new message is discarded; either discard counts. -/
def Dev.spanQueue (d : Dev) (i : Nat) (c : Nat) (o : Out) : Dev :=
  let q := mget d.fab.spanq i
  if q.length < 32 then { d with fab := { d.fab with spanq := mset d.fab.spanq i (queueIn c o q) } }
  else match q.getLast? with
    | none => d
    | some x =>
      let d := d.inc F.SPAN_QUEUE_DROP_COUNT
      if c < x.1 then { d with fab := { d.fab with spanq := mset d.fab.spanq i (queueIn c o q.dropLast) } } else d

/-- The lane of a bundle whose queue a waiting message joins: of logical lanes 1 and 2 the one with fewer to send (R458). -/
def Dev.queueLane (d : Dev) (b : Nat) : Nat :=
  let rev := d.b (if b = 0 then F.LANE_SPAN_STATE_EAST_REVERSED else F.LANE_SPAN_STATE_WEST_REVERSED)
  let base := if b = 0 then 64 else 67
  let two := base + (if rev then 0 else 2)
  if (mget d.fab.spanq two).length < (mget d.fab.spanq (base + 1)).length then two else base + 1

/-- A message for a bundle that waits where no lane of the bundle is UP (R458, R459): classes 1 and 2 have no queue. -/
def Dev.spanWait (d : Dev) (b : Nat) (o : Out) : Dev :=
  if d.bundleUp b = 0 ∧ 3 ≤ o.class then d.spanQueue (d.queueLane b) o.class o else d

/-- A message of this head leaves in both directions (R457), or waits for a bundle. -/
def Dev.spanSend (d : Dev) (o : Out) : Dev :=
  ((d.emit o).spanWait 0 o).spanWait 1 o

/-- What waits for a bundle leaves once a lane of it is UP. -/
def Dev.spanDrain (d : Dev) (b : Nat) : Dev :=
  if d.bundleUp b = 0 then d
  else (bundleLanes b).foldl (fun d i =>
    let d := { d with out := d.out ++ (mget d.fab.spanq i).map (fun (x : Nat × Out) => Out.queued i x.2) }
    { d with fab := { d.fab with spanq := mset d.fab.spanq i [] } }) d

/-! ## Receiving -/

/-- The types that go to the lead alone (R456). -/
def toLead (ty : Nat) : Bool :=
  ty == spVerdict || ty == spSummary || ty == spSpanOut || ty == spSnapPart || ty == spEnumReply || ty == spLoaded

/-- A head that enumeration has not admitted (R460). -/
def Dev.spectator (d : Dev) : Bool := d.b F.LANE_ENUM_SPECTATOR

/-- Serial comparison in a window of 2^15 (R457). -/
def seqLater (a b : Nat) : Bool :=
  let x := (a + 2 ^ 16 - b % 2 ^ 16) % 2 ^ 16
  decide (1 ≤ x) && decide (x ≤ 2 ^ 15 - 1)

/-- Is it the first copy from this origin and type? -/
def Dev.firstCopy (d : Dev) (ty : Nat) (h : SpanHdr) : Bool :=
  match mget d.spanSeq (h.origin * 256 + ty) with
  | none => true
  | some (s, p) => seqLater h.seq s || (h.seq == s && decide (p < h.part))

/-- The ring count of R457. -/
def Dev.ringCount (d : Dev) : Nat := if d.b F.LANE_ENUM_DONE then d.g F.LANE_ENUM_RING else 9

/-- Relay a message onward, unless it ends here or next (R457). -/
def Dev.relay (d : Dev) (ty : Nat) (h : SpanHdr) : Dev :=
  if h.hops + 2 = d.ringCount ∨ (d.isLead ∧ toLead ty) then d
  else
    let o := Out.relay ty h.origin (h.hops + 1) h.seq h.part h.good
    (d.emit o).spanWait (if h.east then 1 else 0) o

/-- A span message arrives (R457): relayed, its CRC checked, its first copy taken; true when the head acts on it. A
spectator acts on ENUM alone (R460), and only the lead on what is addressed to the lead. -/
def Dev.spanTake (d : Dev) (ty : Nat) (h : SpanHdr) : Bool × Dev :=
  let d := d.relay ty h
  if !h.good then (false, d.inc F.SPAN_MSG_ERR_COUNT)
  else if toLead ty && !d.isLead then (false, d)
  else if d.spectator && ty != spEnum then (false, d)
  else if d.firstCopy ty h then
    (true, { d with spanSeq := mset d.spanSeq (h.origin * 256 + ty) (some (h.seq, h.part)) })
  else (false, d)

end Sys2Proof.Machine
end

