-- ==== Sys2Proof/Machine/Island.lean ====
section
/-! DEFINITION. The safety island (chapter *The safety channel*): its cycle and diagnostics (R370 to R372), states and
outputs (R374, R375), inputs (R377 to R381), the limited functions (R382 to R388), the permit chain and the safety
message (R389 to R396), acknowledge and BOLTED (R398 to R400), selections (R401) and HOST (R402). -/
namespace Sys2Proof.Machine

/-! ## States (R374) and diagnostics (R372) -/

def stSelftest : Nat := 0
def stStart : Nat := 1
def stStopped : Nat := 2
def stClosing : Nat := 3
def stPermit : Nat := 4
def stBolted : Nat := 5

def dgSupply : Nat := 0x01
def dgClock : Nat := 0x02
def dgFlow : Nat := 0x03
def dgTestPulse : Nat := 0x06
def dgOutput : Nat := 0x07
def dgChain : Nat := 0x08
def dgMessage : Nat := 0x09
def dgDiverse : Nat := 0x0A
def dgInject : Nat := 0x0B
def dgTick : Nat := 0x0C
def dgAckStuck : Nat := 0x0E

/-- The island's state. -/
def Dev.saf (d : Dev) : Nat := d.g F.SAF_STATE_STATE

/-- The fault engine runs from the end of BIST (R500). -/
def Dev.engineRuns (d : Dev) : Bool := decide (4 ≤ d.g F.GLB_BOOT_STATUS_STAGE) && d.g F.GLB_BOOT_STATUS_STAGE != 15

/-- A fault that the island raises at the head. Mark: DEDUCED, unsafe (log entry 115). -/
def Dev.safRaise (d : Dev) (r : Raise) : Dev := d.when d.engineRuns (fun d => d.raise r)

/-! ## Demands (R374, R381, R387) -/

/-- The actions of a limited function: 0 BLOCK, 1 BLOCK_TRIP, 2 NOENERGIZE (R580). -/
def Dev.limAction (d : Dev) (k : Nat) : Nat :=
  if k = 0 then d.conf.saf.slvAction else if k = 1 then d.conf.saf.slrAction else d.conf.saf.sldAction

/-- The demand bit of a limited function. -/
def limBit (k : Nat) : Fld := if k = 0 then F.SAF_DEMAND_SLV else if k = 1 then F.SAF_DEMAND_SLR else F.SAF_DEMAND_SLD

/-- Any stop demand is present (R374). -/
def Dev.stopPresent (d : Dev) : Bool :=
  d.g F.SAF_DEMAND_INPUT != 0 || d.b F.SAF_DEMAND_HOST || d.b F.SAF_DEMAND_NOTCONFIG ||
  [0, 1, 2].any (fun k => d.b (limBit k) && d.limAction k != 2)

/-- A demand with action TRIP is present (R375, R381, R387). -/
def Dev.tripPresent (d : Dev) : Bool :=
  (d.g F.SAF_DEMAND_INPUT &&& d.conf.saf.trip) != 0 || [0, 1, 2].any (fun k => d.b (limBit k) && d.limAction k == 1)

/-- A demand with action NOENERGIZE is present. -/
def Dev.noEnergize (d : Dev) : Bool := [0, 1, 2].any (fun k => d.b (limBit k) && d.limAction k == 2)

/-- What comes between the falling edge of a SAFE_ACK pulse and the end of its cycle (R403). -/
def Dev.sinceAck (f : SafPulse → SafPulse) (d : Dev) : Dev := { d with isl := { d.isl with ack := d.isl.ack.map f } }

/-- A stop demand is taken: counted, recorded, and to be decided on (R374, R406). Mark: DEDUCED, unsafe (log entry 109). -/
def Dev.takeStop (d : Dev) (bitNo : Nat) (trip : Bool) : Dev :=
  let d := { d with isl := { d.isl with newStop := true, trip := d.isl.trip || trip } }.sinceAck (fun p => { p with stop := true })
  (d.inc F.SAF_DEMAND_COUNT).safRaise { src := 0x0801, cls := 0, detail := bitNo }

/-! ## Outputs (R375, R390) -/

/-- Own permit (R390). -/
def Dev.ownPermit (d : Dev) : Bool := d.saf == stClosing || d.saf == stPermit

/-- PERMIT_OUT, driven in hardware (R390). -/
def Dev.permitOut (d : Dev) : Bool :=
  if d.isLead then (d.saf == stPermit && d.b F.SAF_IO_PERMIT_IN) || (d.saf == stClosing && d.isl.attempt.isSome)
  else d.b F.SAF_IO_PERMIT_IN && d.ownPermit

/-- The outputs SO0 to SO3 that the state gives (R375). -/
def Dev.soOf (d : Dev) : Nat :=
  let so0 := d.saf == stPermit && d.b F.SAF_IO_PERMIT_IN
  let live := d.saf != stSelftest && d.saf != stBolted
  bit so0 + 2 * bit (live && !d.isl.trip) + 4 * bit (d.saf == stPermit && !d.noEnergize) + 8 * bit live

/-- The outputs follow the state. When SO0 goes off the head requests the Shutter with reason SAFETY and holds fault
SAFETY_BLOCK until it is on again (R19, R134, R343). -/
def Dev.safOutputs (d : Dev) : Dev :=
  let was := (d.g F.SAF_IO_SO).testBit 0
  let so := d.soOf
  let d := (d.p F.SAF_IO_SO so).pb F.SAF_IO_PERMIT_OUT d.permitOut
  if was && !so.testBit 0 then d.safRaise { src := 0x0610, cls := 3, reason := reasonSafety, event := false }
  else if !was && so.testBit 0 then d.endSource 0x0610
  else d

/-- The island changes state: a closing attempt ends with CLOSING, and CLOSED of the lead with PERMIT (R391). -/
def Dev.safGo (d : Dev) (st : Nat) : Dev :=
  let d := d.p F.SAF_STATE_STATE st
  let d := d.when (st != stClosing) (fun d => { d with isl := { d.isl with attempt := none } })
  d.when (d.isLead && st != stPermit) (fun d => d.pb F.SAF_STATE_CLOSED false)

/-- A fault of R372: BOLTED with its LOCK_CAUSE, every output off, SAFETY_LOCKOUT raised and, where RELQ_MASK says so, the claim
given up (R399, R417); a further fault in BOLTED is counted. -/
def Dev.safFault (code : Nat) (d : Dev) : Dev :=
  let d := { d with isl := { d.isl with found := setBit d.isl.found code } }
  if d.saf = stBolted then d.inc F.SAF_BOLTED_COUNT
  else
    let d := ((d.safGo stBolted).p F.SAF_STATE_LOCK_CAUSE code).inc F.SAF_BOLTED_COUNT
    let d := d.safOutputs.safRaise { src := 0x0802, cls := 4, detail := code, event := false }
    d.when (d.relqMask 2 && code != dgTestPulse && code != dgChain) (fun d => d.relinquish relqSafety)

/-- May a head that is CLOSING enter PERMIT (R374, R392, R398)? The lead enters it by a closing attempt. -/
def Dev.mayPermit (d : Dev) : Bool :=
  !d.isLead && d.saf == stClosing && d.b F.SAF_IO_PERMIT_IN && d.isl.closedSeen && d.b F.SAF_STATE_CLOSED &&
  d.isl.lost == 0 && !d.b F.SAF_DEMAND_NOTCONFIG

/-- The island decides: state, then outputs (R370, R374). -/
def Dev.safDecide (d : Dev) : Dev :=
  let stop := d.isl.newStop || (d.saf == stPermit && d.stopPresent)
  let d := { d with isl := { d.isl with newStop := false } }
  let d :=
    if d.saf = stStart then
      let doors := d.conf.saf.enable % 256
      if d.isl.have_ && (d.g F.SAF_DOORS_CYCLED &&& doors) == doors then d.safGo stStopped else d
    else if (d.saf = stPermit ∨ d.saf = stClosing) ∧ stop then d.safGo stStopped
    else if d.saf = stPermit ∧ (!d.b F.SAF_IO_PERMIT_IN || d.isl.lost != 0 || (!d.isLead && !d.b F.SAF_STATE_CLOSED)) then
      d.safGo stClosing
    else if d.mayPermit then d.safGo stPermit
    else d
  d.safOutputs

/-! ## The limited functions (R382 to R388) -/

/-- Channels bound to SLV, SLR, SLD voltage and SLD current; 255 is none. -/
def Dev.bound (d : Dev) (k : Nat) : Option Nat :=
  match d.conf.saf.chans[k]? with
  | some c => if c < 16 then some c else none
  | none => none

/-- The safety mean of binding `k` over the window just ended (R382): the code of an injected slot left out, the island's
own gain and offset, in binary32. -/
def Dev.safMean (d : Dev) (k ch : Nat) : Nat :=
  let n := d.fs.raw.length
  let codes := ((List.range n).filter (fun i => !d.fs.slots.contains (ch, i))).map (fun i => (((d.fs.raw[i]?).getD [])[ch]?).getD 0)
  let mean := f32.ofRatio (codes.foldl (· + ·) 0) codes.length
  let (g, o) := (d.conf.saf.gains[k]?).getD (0, 0)
  f32.add (f32.mul g mean) o

/-- The magnitude of a binary32 pattern. -/
def fabs (x : Nat) : Nat := x % 2 ^ 31

/-- SLV: above V_hi or below V_lo of a set (R384). -/
def Dev.slvBad (d : Dev) (set m : Nat) : Bool :=
  let (lo, hi) := (d.conf.saf.slvSets[set]?).getD (0, 0)
  f32.lt hi m || f32.lt m lo

/-- SLD: p against the band under a direction, 1 IMPORT, 2 EXPORT (R386). -/
def Dev.sldBad (d : Dev) (dir p : Nat) : Bool :=
  let band := d.conf.saf.sldBand
  if dir = 1 then f32.lt p (cNeg band) else if dir = 2 then f32.lt band p else false

/-- One verdict of a function: the count of consecutive violating windows, and the end of a demand at a window that does
not violate (R387). -/
def Dev.verdictOf (d : Dev) (k : Nat) (bad : Bool) : Dev :=
  let d := { d with isl := { d.isl with viol := mset d.isl.viol k (if bad then mget d.isl.viol k + 1 else 0) } }
  if bad then d else d.pb (limBit k) false

/-- R383: a bound channel's mean against FS_MEAN of the same window, and its injection against 16 x d. -/
def Dev.safChecks (d : Dev) (ch m : Nat) : Dev :=
  let far := f32.lt d.conf.saf.diverseTol (fabs (f32.sub m (d.g (F.FS_MEAN_LIVE_VALUE ch))))
  let n := if !d.b (F.PROT_CH_STATE_SUBST ch) && far then mget d.isl.diverse ch + 1 else 0
  let d := { d with isl := { d.isl with diverse := mset d.isl.diverse ch n } }
  let d := d.when (n == 3) (fun d => d.safFault dgDiverse)
  match d.fs.slots.find? (fun s => s.1 == ch) with
  | none => d
  | some _ =>
    let code := sgn 16 (d.g (F.FS_TEST_RESULT_CODE ch))
    let want := d.testLevel (ch / 4) (d.g (F.FS_TEST_RESULT_LEVEL ch))
    let j := if d.conf.saf.injectTol < (code - want).natAbs then mget d.isl.inject ch + 1 else 0
    let d := { d with isl := { d.isl with inject := mset d.isl.inject ch j } }
    d.when (j == 3) (fun d => d.safFault dgInject)

/-- Suspended (R388). -/
def Dev.safSuspended (d : Dev) : Bool := !d.ticking || d.redState == 1 || d.redState == 2

/-- Evaluation of SLV, SLR and SLD starts again (R388, R401). -/
def Dev.safRestart (d : Dev) : Dev := { d with isl := { d.isl with viol := [], ramp := [] } }

/-- The bound channels, each once, with the binding whose scaling applies. -/
def Dev.boundChans (d : Dev) : List (Nat × Nat) :=
  (List.range 4).foldl (fun acc k => match d.bound k with
    | some c => if acc.any (fun e => e.1 == c) then acc else acc ++ [(c, k)]
    | none => acc) []

/-- SLV of one window (R384). Mark: DEDUCED, unsafe (log entry 114). -/
def Dev.slvWindow (d : Dev) : Dev :=
  match d.bound 0 with
  | none => d
  | some c =>
    let m := d.safMean 0 c
    (d.p F.SAF_SLV_VALUE_VOLTS m).verdictOf 0 (d.slvBad (d.g F.SAF_SELECT_ACTIVE_SLV_SET) m)

/-- SLR of one window (R385). -/
def Dev.slrWindow (d : Dev) : Dev :=
  match d.bound 1 with
  | none => d
  | some c =>
    let mm := d.conf.saf.slrM
    let m := d.safMean 1 c
    let ramp := (m :: d.isl.ramp).take (mm + 1)
    let d := { d with isl := { d.isl with ramp := ramp } }
    match ramp[mm]? with
    | none => d
    | some old =>
      let r := f32.div (f32.sub m old) (f32.ofRatio (mm * d.periodQ : Nat) 4000000000)
      (d.p F.SAF_SLR_VALUE_RATE r).verdictOf 1 (f32.lt d.conf.saf.slrMax (fabs r))

/-- SLD of one window (R386). -/
def Dev.sldWindow (d : Dev) : Dev :=
  match d.bound 2, d.bound 3 with
  | some cv, some ci =>
    let mi := d.safMean 3 ci
    let mi := if d.conf.saf.sldSign = 1 then mi else cNeg mi
    let p := f32.mul (d.safMean 2 cv) mi
    (d.p F.SAF_SLD_VALUE_WATTS p).verdictOf 2 (d.sldBad (d.g F.SAF_SELECT_ACTIVE_SLD_DIR) p)
  | _, _ => d

/-- The evaluation of one completed window (R382 to R388); at a tick that ends no window (R284) nothing is evaluated. -/
def Dev.safWindow (d : Dev) : Dev :=
  let none_ := d.fs.raw.isEmpty
  let d := d.when (!none_) (fun d => d.boundChans.foldl (fun d e => d.safChecks e.1 (d.safMean e.2 e.1)) d)
  let was := d.b F.SAF_STATE_SUSPENDED
  let sus := d.safSuspended
  let d := d.pb F.SAF_STATE_SUSPENDED sus
  if sus then d
  else
    let d := d.when was Dev.safRestart
    if none_ then d
    else
      let d := d.slvWindow.slrWindow.sldWindow
      { d with isl := { d.isl with windowed := true } }.safOutputs

/-- F consecutive violating windows make a demand, acted on within 8 us of the tick (R387). -/
def Dev.limitedDemand (k : Nat) (d : Dev) : Dev :=
  let f := if k = 0 then d.conf.saf.slvFilter else if k = 1 then d.conf.saf.slrFilter else d.conf.saf.sldFilter
  if 2 < k ∨ d.safSuspended ∨ mget d.isl.viol k < f ∨ mget d.isl.viol k = 0 ∨ d.b (limBit k) then d
  else
    let d := (d.pb (limBit k) true).sinceAck (fun p => { p with demand := true })
    if d.limAction k = 2 then d.safOutputs else (d.takeStop (12 + k) (d.limAction k == 1)).safDecide

/-! ## The safety message (R393, R394) -/

/-- Bytes 0 to 11 of the message. -/
def Dev.safBody (d : Dev) : List Byte :=
  be 1 1 ++ be 1 (d.pos + 8 * d.unit) ++ be 2 d.isl.seq ++ be 1 d.saf ++
  be 1 (bit d.ownPermit + 2 * bit (d.b F.SAF_IO_PERMIT_IN) + 4 * bit (d.isLead && d.b F.SAF_STATE_CLOSED) + 8 * bit d.stopPresent) ++
  be 2 0 ++ be 4 d.cad.frame

/-- CRC-32C over GROUP_ID and the body. -/
def safCrc (groupId : Nat) (body : List Byte) : Nat := crc32c (be 2 groupId ++ body)

/-- The four words of 16 bytes. -/
def words4 (bs : List Byte) : List Nat := (List.range 4).map (fun i => beAt bs (4 * i) 4)

/-- The message of a frame goes out to every head, in a group of more than one. -/
def Dev.safSend (d : Dev) : Dev :=
  if d.conf.heads ≤ 1 ∨ d.redState ≤ 1 then d
  else
    let b := d.safBody
    let d := { d with isl := { d.isl with seq := (d.isl.seq + 1) % 2 ^ 16 } }
    d.emit (.span spSafety 8 (words4 (b ++ be 4 (safCrc d.conf.saf.groupId b))))

/-- PERMIT_IN against the messages received (R395); in DORMANT there are none (R396). -/
def Dev.permitDisagrees (d : Dev) : Bool :=
  let inp := d.b F.SAF_IO_PERMIT_IN
  let before := if d.isLead then d.conf.heads - 1 else d.pos - 1
  d.redState != 1 && decide (2 ≤ d.conf.heads) &&
  ((match mget d.isl.msgs 0 with
    | some m => !d.isLead && m.flags.testBit 2 && !inp
    | none => false) ||
   (match mget d.isl.msgs before with
    | some m => inp && !(m.flags.testBit 0 && m.flags.testBit 1)
    | none => false))

/-- Follow the disagreement. -/
def Dev.noteDisagree (d : Dev) : Dev :=
  let n := if d.permitDisagrees then (match d.isl.disagree with
    | some t => some t
    | none => some d.cad.now) else none
  { d with isl := { d.isl with disagree := n } }

/-- A message that fails is counted; more than 8 in any second is fault MESSAGE (R394). -/
def Dev.safMsgErr (d : Dev) : Dev :=
  let es := (d.cad.now :: d.isl.errs).filter (fun t => decide (d.cad.now < t + secQ))
  let d := { d with isl := { d.isl with errs := es.take 16 } }.inc F.SAF_MSG_ERR_COUNT
  d.when (decide (8 < es.length)) (fun d => d.safFault dgMessage)

/-- A safety message arrives (R394, R457): relayed round the ring, then checked by the island itself. -/
def Dev.safetyTake (t : Nat) (h : SpanHdr) (bytes : List Byte) (d : Dev) : Dev :=
  let d := d.at t
  let (act, d) := d.spanTake spSafety h
  if !act then d
  else
    let bs := padTo 16 bytes
    let p := beAt bs 1 1 % 8
    let seq := beAt bs 2 2
    if safCrc d.conf.saf.groupId (bs.take 12) ≠ beAt bs 12 4 ∨ d.conf.heads ≤ p then d.safMsgErr
    else if p = d.pos then d
    else
      let fresh := match mget d.isl.msgs p with
        | some m => seqLater seq m.seq
        | none => true
      if !fresh then d
      else
        let fl := beAt bs 5 1
        let m : SafMsg := ⟨seq, fl, beAt bs 4 1, beAt bs 8 4, d.cad.now⟩
        let lost := clrBit d.isl.lost p
        let d := { d with isl := { d.isl with msgs := mset d.isl.msgs p (some m), lost := lost } }
        let d := (d.pb F.SAF_DEMAND_MSG_LOSS (lost != 0)).endCause 0x0804 p
        let d := if p = 0 then
            let cl := fl.testBit 2
            let d := d.pb F.SAF_STATE_CLOSED cl
            { d with isl := { d.isl with closedSeen := d.isl.closedSeen || (cl && d.b F.SAF_IO_PERMIT_IN) } }
          else d
        d.noteDisagree.safDecide

/-- No message from an admitted position for SAF_MSG_TIMEOUT (R394). -/
def Dev.msgLoss (t p : Nat) (d : Dev) : Dev :=
  let d := d.at t
  let since := max d.red.wakeAt ((mget d.isl.msgs p).elim 0 SafMsg.at_)
  if p = d.pos ∨ d.conf.heads ≤ p ∨ d.redState = 1 ∨ !(d.g F.LANE_ENUM_ADMITTED).testBit p ∨ d.isl.lost.testBit p ∨
      d.cad.now < since + d.conf.saf.msgTimeout * 40000 then d
  else
    let d := { d with isl := { d.isl with lost := setBit d.isl.lost p } }
    let d := (d.pb F.SAF_DEMAND_MSG_LOSS true).inc F.SAF_MSG_LOSS_COUNT
    (d.safRaise { src := 0x0804, cls := 1, detail := p, event := false }).safDecide

/-- A disagreement of 2 ms is fault CHAIN (R395). -/
def Dev.chainFault (t : Nat) (d : Dev) : Dev :=
  let d := d.at t
  match d.isl.disagree with
  | some s => if d.permitDisagrees ∧ s + 2 * msQ ≤ d.cad.now then d.safFault dgChain else d
  | none => d

/-! ## At a tick -/

/-- What the island takes from a tick: the TICK diagnostic, the window that ended, and the message it sends.
Mark: DEDUCED, safe (log entry 113). -/
def Dev.safTick (last : Nat) (d : Dev) : Dev :=
  let gap := d.cad.tickAt - last
  let off := d.isl.watch && !d.isl.gone && (decide (gap * 100 < 99 * d.periodQ) || decide (101 * d.periodQ < gap * 100))
  let d := { d with isl := { d.isl with watch := true, gone := false } }
  (d.when off (fun d => d.safFault dgTick)).safWindow.safSend

/-! ## Acknowledge (R398, R400) -/

/-- No tick has come for 2 T while the head is configured and not DORMANT (R372). -/
def Dev.ticksGone (d : Dev) : Bool :=
  d.isl.watch && d.confDone && d.redState != 1 && decide (d.cad.tickAt + 2 * d.periodQ < d.cad.now)

/-- A fault of R372 is being detected. -/
def Dev.safDetecting (d : Dev) : Bool :=
  d.isl.found != 0 || d.isl.tpBad != 0 || d.isl.gone || d.ticksGone || d.isl.diverse.any (fun e => decide (3 ≤ e.2)) ||
  d.isl.inject.any (fun e => decide (3 ≤ e.2)) || d.permitDisagrees && d.isl.disagree.any (fun s => decide (s + 2 * msQ ≤ d.cad.now))

/-- ARMED holds, and its 10 s have not passed. -/
def Dev.armed (d : Dev) : Bool := d.b F.SAF_STATE_ARMED && decide (d.cad.now < d.isl.armedAt + 10 * secQ)

/-- The conditions of R398 on everything but the length of the pulse; START refuses every pulse. -/
def Dev.mayAck (d : Dev) : Bool :=
  d.g F.SAF_DEMAND_INPUT == 0 && !([0, 1, 2].any (fun k => d.b (limBit k))) && !d.safDetecting && d.saf != stStart &&
  (d.saf != stBolted || d.armed)

/-- A pulse is refused: counted; in BOLTED it clears ARMED (R398, R400). -/
def Dev.ackRefuse (d : Dev) : Dev :=
  (d.inc F.SAF_ACK_REFUSE_COUNT).when (d.saf == stBolted) (fun d => d.pb F.SAF_STATE_ARMED false)

/-- A pulse is accepted: counted, HOST ended; SELFTEST from BOLTED, CLOSING from STOPPED (R374, R398, R400). -/
def Dev.ackAccept (p : SafPulse) (d : Dev) : Dev :=
  let d := (d.inc F.SAF_ACK_COUNT).pb F.SAF_DEMAND_HOST p.host
  let d := { d with isl := { d.isl with trip := false, newStop := p.stop || p.host } }
  if d.saf = stBolted then
    let d := { d with isl := { d.isl with again := true } }
    ((((d.pb F.SAF_STATE_ARMED false).p F.SAF_STATE_LOCK_CAUSE 0).safGo stSelftest).safOutputs).endSource 0x0802
  else (d.safGo stClosing).safOutputs

/-- The falling edge of a SAFE_ACK pulse of `ms` milliseconds (R398, R400): refused at once where a condition fails, and otherwise decided
when its cycle ends (R403). Mark: DEDUCED, unsafe (log entry 111). -/
def Dev.safeAck (t ms : Nat) (d : Dev) : Dev :=
  let d := (d.at t).pb F.SAF_IO_SAFE_ACK false
  if d.saf = stSelftest ∨ d.saf = stClosing ∨ d.saf = stPermit then d
  else if decide (200 ≤ ms) && decide (ms ≤ 2000) && d.mayAck then { d with isl := { d.isl with ack := some ⟨false, false, false⟩ } }
  else d.ackRefuse

/-- The cycle of a falling edge ends: the pulse is accepted where nothing in the cycle prevents it (R403). -/
def Dev.ackDecide (d : Dev) : Dev :=
  match d.isl.ack with
  | none => d
  | some p =>
    let d := { d with isl := { d.isl with ack := none } }
    if !p.demand && d.mayAck then d.ackAccept p else d.ackRefuse

/-! ## The cycle (R370) -/

/-- One cycle of 200 us at time `t`. `found` has bit c set for a diagnostic of R372 that the island finds failing in its cycle and
that nothing in the model can show (supply, clock, flow, processor, memory, output readback, parameter copy); `ecc`
counts the memory errors corrected since the last cycle. -/
def Dev.safetyCycle (t found ecc : Nat) (d : Dev) : Dev :=
  let d := ((d.at t).addTo F.SAF_ECC_CORR_COUNT ecc).ackDecide
  -- HOST_BLOCK clears, a confirmed selection applies
  let d := d.pb F.SAF_CMD_HOST_BLOCK false
  let d := match d.isl.select with
    | some (s, dir) =>
      let d := { d with isl := { d.isl with select := none, viol := mdel (mdel d.isl.viol 0) 2 } }
      (d.p F.SAF_SELECT_ACTIVE_SLV_SET s).p F.SAF_SELECT_ACTIVE_SLD_DIR dir
    | none => d
  let d := d.pb F.SAF_DEMAND_CHAIN_OPEN (!d.b F.SAF_IO_PERMIT_IN)
  -- NOTCONFIG
  let d := if d.confDone then d.pb F.SAF_DEMAND_NOTCONFIG false
    else if d.b F.SAF_DEMAND_NOTCONFIG then d else (d.pb F.SAF_DEMAND_NOTCONFIG true).takeStop 16 false
  -- diagnostics
  let cyc := [1, 2, 3, 4, 5, 7, 13].filter (fun c => found.testBit c)
  let watch := d.isl.watch && d.confDone && d.redState != 1
  let was := d.isl.gone
  let gone := d.ticksGone
  let d := { d with isl := { d.isl with found := 0, watch := watch, gone := gone } }
  let d := cyc.foldl (fun d c => d.safFault c) d
  -- ticks that stay away are one fault, detected until they come again
  let d := d.when (gone && !was) (fun d => d.safFault dgTick)
  (d.when d.safSuspended (fun d => d.pb F.SAF_STATE_SUSPENDED true)).safDecide

/-- A supply or clock monitor acts in hardware (R371): SUPPLY or CLOCK. -/
def Dev.hardwareMonitor (clock : Bool) (d : Dev) : Dev := d.safFault (if clock then dgClock else dgSupply)

/-- The island watchdog expires (R371). -/
def Dev.islandWatchdog (d : Dev) : Dev := d.safFault dgFlow

/-! ## Inputs (R377 to R381) -/

/-- An enabled input has stayed low for its filter time: a demand (R377, R379, R381). -/
def Dev.inputDemand (k : Nat) (d : Dev) : Dev :=
  if 11 < k ∨ !d.conf.saf.enable.testBit k ∨ (d.g F.SAF_DEMAND_INPUT).testBit k then d
  else
    let d := d.p F.SAF_IO_SI (clrBit (d.g F.SAF_IO_SI) k)
    let d := (d.p F.SAF_DEMAND_INPUT (setBit (d.g F.SAF_DEMAND_INPUT) k)).sinceAck (fun p => { p with demand := true })
    d.takeStop k (d.conf.saf.trip.testBit k)

/-- An enabled input has stayed high for its filter time: healthy; a door that had demanded is cycled in START (R377, R378). -/
def Dev.inputClear (k : Nat) (d : Dev) : Dev :=
  if 11 < k ∨ !d.conf.saf.enable.testBit k then d
  else
    let cyc := d.saf == stStart && decide (k < 8) && (d.g F.SAF_DEMAND_INPUT).testBit k
    let d := (d.p F.SAF_IO_SI (setBit (d.g F.SAF_IO_SI) k)).p F.SAF_DEMAND_INPUT (clrBit (d.g F.SAF_DEMAND_INPUT) k)
    d.when cyc (fun d => d.p F.SAF_DOORS_CYCLED (setBit (d.g F.SAF_DOORS_CYCLED) k))

/-- The check of one pulse window of TPk (R380): `low` is the mask of SI8 to SI11 that are low throughout from 20 us to 100 us after
the start of the pulse, `touched` of those low at some time in the window and high just before and after it. -/
def Dev.testPulse (k low touched : Nat) (d : Dev) : Dev :=
  if 3 < k then d
  else
    let en (j : Nat) : Bool := d.conf.saf.enable.testBit (8 + j)
    let bad := [0, 1, 2, 3].filter (fun j => en j && (if j = k then !low.testBit j else touched.testBit j))
    let d := { d with isl := { d.isl with tpBad := if bad.isEmpty then clrBit d.isl.tpBad k else setBit d.isl.tpBad k } }
    bad.foldl (fun d _ => (d.inc F.SAF_TP_ERR_COUNT).safFault dgTestPulse) d

/-- The start-up window expires with enabled doors not cycled: START_WINDOW, and the window starts again (R378). -/
def Dev.startWindow (d : Dev) : Dev :=
  let ends := d.isl.startAt + d.conf.saf.startWindow * 60 * secQ
  let left := [0, 1, 2, 3, 4, 5, 6, 7].filter (fun k => d.conf.saf.enable.testBit k && !(d.g F.SAF_DOORS_CYCLED).testBit k)
  if d.saf ≠ stStart ∨ !d.isl.have_ ∨ left.isEmpty ∨ d.cad.now < ends then d
  else { d with isl := { d.isl with startAt := ends } }.safRaise { src := 0x0803, cls := 1, detail := left.foldl setBit 0 }

/-- The start-up tests pass (R374): START after a power-on; after BOLTED, CLOSING or STOPPED (R375). -/
def Dev.selftestDone (d : Dev) : Dev :=
  if d.saf ≠ stSelftest then d
  else
    let d := { d with isl := { d.isl with newStop := false } }
    if !d.isl.again then ({ d with isl := { d.isl with startAt := d.cad.now } }.safGo stStart).safOutputs
    else
      let d := { d with isl := { d.isl with trip := d.tripPresent } }
      if d.stopPresent then (d.safGo stStopped).safOutputs else (d.safGo stClosing).safDecide

/-! ## Acknowledge and arming (R372, R400 to R402) -/

/-- SAFE_ACK has been high for more than 10 s (R372). -/
def Dev.ackStuck (d : Dev) : Dev := (d.pb F.SAF_IO_SAFE_ACK true).safFault dgAckStuck

/-- The arming word of R400. -/
def armingWord : Nat := 0xB0175AFE

/-- A write of SAF_ARM (R400). -/
def Dev.safArm (v : Nat) (d : Dev) : Dev :=
  if v % 2 ^ 32 = armingWord then { d with isl := { d.isl with armedAt := d.cad.now } }.pb F.SAF_STATE_ARMED true
  else (d.pb F.SAF_STATE_ARMED false).inc F.SAF_ARM_REFUSE_COUNT

/-- ARMED falls 10 s after the arming word. -/
def Dev.armedExpiry (t : Nat) (d : Dev) : Dev :=
  let d := d.at t
  if d.isl.armedAt + 10 * secQ ≤ d.cad.now then d.pb F.SAF_STATE_ARMED false else d

/-- The SAF_SELECT word. -/
def Dev.selectWord (d : Dev) : Nat := d.g F.SAF_SELECT_SLV_SET + 16 * d.g F.SAF_SELECT_SLD_DIR

/-- A write of SAF_SELECT_CONFIRM (R401). -/
def Dev.selectConfirm (v : Nat) (d : Dev) : Dev :=
  let set := d.g F.SAF_SELECT_SLV_SET
  let dir := d.g F.SAF_SELECT_SLD_DIR
  let last := d.isl.windowed && (((d.bound 0).isSome && d.slvBad set (d.g F.SAF_SLV_VALUE_VOLTS)) ||
    ((d.bound 2).isSome && d.sldBad dir (d.g F.SAF_SLD_VALUE_WATTS)))
  let ok := d.armed && v % 2 ^ 32 == 0xFFFFFFFF - d.selectWord && d.saf != stSelftest && d.saf != stBolted && dir != 3 && !last
  let d := d.pb F.SAF_STATE_ARMED false
  if ok then { d with isl := { d.isl with select := some (set, dir) } } else d.inc F.SAF_SELECT_REFUSE_COUNT

/-- A write of 1 to HOST_BLOCK (R402); none while the bit is 1 (R570). -/
def Dev.hostBlock (d : Dev) : Dev :=
  if d.b F.SAF_CMD_HOST_BLOCK then d
  else
    let d := (d.pb F.SAF_CMD_HOST_BLOCK true).sinceAck (fun p => { p with host := true })
    if d.b F.SAF_DEMAND_HOST then d else (d.pb F.SAF_DEMAND_HOST true).takeStop 15 false

/-! ## The permit chain (R390, R391) -/

/-- PERMIT_IN changes: PERMIT_OUT follows and SO0 goes off at a fall, in hardware, and the state then changes (R390, R374). -/
def Dev.permitInEdge (t : Nat) (high : Bool) (d : Dev) : Dev :=
  let d := d.at t
  if high == d.b F.SAF_IO_PERMIT_IN then d
  else
    let d := (d.pb F.SAF_IO_PERMIT_IN high).pb F.SAF_DEMAND_CHAIN_OPEN (!high)
    let d := { d with isl := { d.isl with highSince := if high then some d.cad.now else none, closedSeen := false } }
    d.noteDisagree.safOutputs.safDecide

/-- The lead begins a closing attempt (R391). -/
def Dev.closingAttempt (t : Nat) (d : Dev) : Dev :=
  let d := d.at t
  if d.isLead ∧ d.saf = stClosing ∧ d.isl.attempt.isNone ∧ d.isl.lowUntil ≤ d.cad.now then
    { d with isl := { d.isl with attempt := some d.cad.now } }.safOutputs
  else d

/-- PERMIT_IN has been high for 100 us in an attempt: CLOSED and PERMIT (R391). Mark: DEDUCED, unsafe (log entry 112). -/
def Dev.chainClosed (t : Nat) (d : Dev) : Dev :=
  let d := d.at t
  let high := d.isl.highSince.any (fun s => decide (s + 100 * usQ ≤ d.cad.now))
  if d.isLead ∧ d.saf = stClosing ∧ d.isl.attempt.isSome ∧ high ∧ !d.b F.SAF_DEMAND_NOTCONFIG ∧ d.isl.lost = 0 then
    ((d.pb F.SAF_STATE_CLOSED true).safGo stPermit).safOutputs
  else d

/-- An attempt ends after 10 ms without closure (R391). -/
def Dev.attemptTimeout (t : Nat) (d : Dev) : Dev :=
  let d := d.at t
  match d.isl.attempt with
  | some s =>
    if s + 10 * msQ ≤ d.cad.now then
      let d := { d with isl := { d.isl with attempt := none, lowUntil := d.cad.now + msQ } }
      (d.inc F.SAF_CHAIN_RETRY_COUNT).safOutputs
    else d
  | none => d

/-- The dark pulse of one switch of output `so`, with its readback (R376): a mismatch is fault OUTPUT. -/
def Dev.darkPulse (so : Nat) (good : Bool) (d : Dev) : Dev :=
  if so < 4 ∧ (d.g F.SAF_IO_SO).testBit so ∧ !good then d.safFault dgOutput else d

/-! ## Power-on and configuration -/

/-- The test-pulse outputs outside their pulses: high for enabled inputs, low for the others (R379). -/
def Dev.tpLevels (d : Dev) : Dev := d.p F.SAF_IO_TP (d.conf.saf.enable / 256 % 16)

/-- The test-pulse outputs as they stand: TPk is low for 100 us from 2k ms on in each 8 ms (R379). -/
def Dev.tpNow (d : Dev) : Dev :=
  let at_ := (d.cad.now + Config.tpPhase) % (8 * msQ)
  let low (k : Nat) : Bool := decide (2 * k * msQ ≤ at_) && decide (at_ < 2 * k * msQ + 100 * usQ)
  d.p F.SAF_IO_TP ([0, 1, 2, 3].foldl (fun w k => if low k then clrBit w k else w) (d.g F.SAF_IO_TP))

/-- The selections that a section starts with (R404): those of an unbound function have no effect. -/
def Dev.safSelect (d : Dev) : Dev :=
  let s := d.conf.saf
  let set := if (d.bound 0).isSome then s.slvSet else 0
  let dir := if (d.bound 2).isSome then s.sldDir else 0
  let d := (d.p F.SAF_SELECT_ACTIVE_SLV_SET set).p F.SAF_SELECT_ACTIVE_SLD_DIR dir
  ((d.p F.SAF_SELECT_SLV_SET set).p F.SAF_SELECT_SLD_DIR dir).p F.SAF_PARAM_CRC_CRC s.crc

/-- The island takes a new section at configuration completion (R404): its own copy, the initial selections, NOTCONFIG cleared; an input
that is disabled now is ignored (R377). -/
def Dev.safConfigure (d : Dev) : Dev :=
  let s := d.conf.saf
  let d := { d with isl := { d.isl with have_ := true, watch := false, gone := false, windowed := false, diverse := [], inject := [] } }
  let d := (d.p F.SAF_DEMAND_INPUT (d.g F.SAF_DEMAND_INPUT &&& s.enable)).p F.SAF_IO_SI (d.g F.SAF_IO_SI &&& s.enable)
  (d.safSelect.pb F.SAF_DEMAND_NOTCONFIG false).safRestart.tpLevels

/-- The fault engine starts: the fault of a BOLTED island is present (R399). -/
def Dev.safPresent (d : Dev) : Dev :=
  d.when (d.saf == stBolted && !d.prot.causes.any (fun c => c.src == 0x0802)) (fun d =>
    d.raise { src := 0x0802, cls := 4, detail := d.g F.SAF_STATE_LOCK_CAUSE, event := false })

end Sys2Proof.Machine
end

