-- ==== Sys2Proof/Machine/Thermal.lean ====
section
/-! DEFINITION. Temperature (chapter *Thermal sensing and Louvre derating*): the sixteen inputs (R354 to R357), Louvre
derating (R358 to R360), shutdown and warning (R361, R362), and the two windows (R363 to R366). Temperatures are
signed numbers of 0.0625 degrees. -/
namespace Sys2Proof.Machine

/-- The reading of an input (R354): 0 to 7 are TD0 to TD7, 8 to 15 TH0 to TH7. -/
def Dev.reading (d : Dev) (k : Nat) : Int := d.gs (F.THM_TEMP_TEMP k)

/-- An input is declared broken (R356). -/
def Dev.broken (d : Dev) (k : Nat) : Bool := (d.g F.THM_STATUS_BROKEN).testBit k

/-- The die inputs, and the external inputs of a role (R354: 1 COOLANT, 2 BOARD). -/
def dieInputs : List Nat := List.range 8
def Dev.roleInputs (d : Dev) (p : Nat → Bool) : List Nat :=
  ((List.range 8).filter (fun j => p (d.g (F.THM_TH_CFG_ROLE j)))).map (· + 8)

/-! ## Conversions -/

/-- The temperature of a conversion, none when it is bad (R356). `x` is the temperature of a die diode, or the
terminal voltage of an external input in microvolts. -/
def Dev.converted (d : Dev) (k : Nat) (x : Int) : Option Int :=
  let inRange (t : Int) : Option Int := if -800 ≤ t ∧ t ≤ 3200 then some t else none
  if k < 8 then inRange x
  else if 2000000 < x ∨ x < 2000 then none
  else
    let n := (d.conf.ntc[k - 8]?).getD (0, 0)
    inRange (extTemp (d.g (F.THM_TH_CFG_TYPE (k - 8))) n.1 n.2 x.toNat)

/-- A conversion recorded (R356): consecutive bad and good conversions, the last good value, and the reading of an
input that is not broken. -/
def Dev.convRecord (d : Dev) (k : Nat) (t : Option Int) : Dev :=
  let th := d.thm
  let th := { th with seen := th.seen ||| 2 ^ k }
  match t with
  | none => { d with thm := { th with bad := mset th.bad k (mget th.bad k + 1), good := mset th.good k 0 } }
  | some v =>
    let d := { d with thm := { th with bad := mset th.bad k 0, good := mset th.good k (mget th.good k + 1),
                                       last := mset th.last k (unsgn 16 v) } }
    if d.broken k then d else d.ps (F.THM_TEMP_TEMP k) v

/-! ## What follows from the readings -/

/-- Shutdown (R361): F4 when a die reading is 135.0 degrees or higher, until every one is 125.0 or lower; an optional
cause to relinquish (R417). -/
def Dev.thmShutdown (d : Dev) : Dev :=
  match dieInputs.find? (fun k => decide (2160 ≤ d.reading k)) with
  | some k =>
    if d.b F.THM_STATUS_SHUTDOWN then d
    else
      let d := (d.pb F.THM_STATUS_SHUTDOWN true).raise { src := 0x0704, cls := 4, detail := k, event := false }
      d.when (d.relqMask 1) (Dev.relinquish relqThermal)
  | none =>
    if d.b F.THM_STATUS_SHUTDOWN && dieInputs.all (fun k => decide (d.reading k ≤ 2000)) then
      (d.pb F.THM_STATUS_SHUTDOWN false).endSource 0x0704
    else d

/-- The hottest die reading. -/
def Dev.hottest (d : Dev) : Int := dieInputs.foldl (fun m k => max m (d.reading k)) (d.reading 0)

/-- The warning (R362), with its 2.0 degrees of hysteresis. -/
def Dev.thmWarn (d : Dev) : Dev :=
  let w := d.gs F.THM_TJ_WARN_TEMP
  if !d.b F.THM_STATUS_WARN && decide (w ≤ d.hottest) then
    (d.pb F.THM_STATUS_WARN true).raise { src := 0x0703, cls := 1, event := false }
  else if d.b F.THM_STATUS_WARN && decide (d.hottest ≤ w - 32) then
    (d.pb F.THM_STATUS_WARN false).endSource 0x0703
  else d

/-- The non-volatile window (R363): low until the first round of conversions is complete. -/
def Dev.thmNv (d : Dev) : Dev :=
  let within (lo hi : Int) := dieInputs.all (fun k => decide (lo ≤ d.reading k) && decide (d.reading k ≤ hi))
  let first := decide (d.thm.seen = 2 ^ 16 - 1)
  if d.b F.THM_STATUS_NV_OK then d.pb F.THM_STATUS_NV_OK (within (-320) 1600)
  else d.pb F.THM_STATUS_NV_OK (first && within (-288) 1568)

/-- The fall of another head's ENERGIZE_OK, as its report shows it, is one that COOLANT_WINDOW still waits for (R366). -/
def Dev.coolElsewhere (d : Dev) : Bool :=
  d.isLead && (List.range 8).any (fun p => match mget d.bal.reports p with
    | some r => !r.energize
    | none => false)

/-- The energization window (R365, R366): every COOLANT reading within it. A fall is counted, and raises
COOLANT_WINDOW once the converter is energized. Mark: DEDUCED, unsafe (log entry 94); DEDUCED, unsafe (log entry 95). -/
def Dev.thmCool (d : Dev) : Dev :=
  let cs := d.roleInputs (· == 1)
  let ok := !cs.isEmpty && cs.all (fun k => !d.broken k && decide (d.gs F.THM_COOL_WINDOW_MIN ≤ d.reading k) &&
    decide (d.reading k ≤ d.gs F.THM_COOL_WINDOW_MAX))
  if d.b F.THM_STATUS_ENERGIZE_OK && !ok then
    let d := (d.pb F.THM_STATUS_ENERGIZE_OK false).inc F.THM_COOL_EXIT_COUNT
    d.when (d.g F.AV_ENG_STATUS_STATE == 2) (fun d => d.raise { src := 0x0707, cls := 1, event := false })
  else if ok then (d.pb F.THM_STATUS_ENERGIZE_OK true).when (d.hasCause 0x0707 0 && !d.coolElsewhere) (fun d => d.endSource 0x0707)
  else d

/-- Everything that follows from the present readings. -/
def Dev.thmEval (d : Dev) : Dev := d.thmShutdown.thmWarn.thmNv.thmCool

/-- An input's conversion ends (R354, R356). -/
def Dev.tempConversion (k : Nat) (x : Int) (d : Dev) : Dev :=
  if k < 16 then (d.convRecord k (d.converted k x)).thmEval else d

/-- The third consecutive bad conversion declares an input broken (R356, R357). -/
def Dev.sensorBroken (k : Nat) (d : Dev) : Dev :=
  if k < 16 ∧ 3 ≤ mget d.thm.bad k ∧ d.broken k = false then
    let d := (d.p F.THM_STATUS_BROKEN (setBit (d.g F.THM_STATUS_BROKEN) k)).ps (F.THM_TEMP_TEMP k) 3200
    ((d.raise { src := 0x0701, cls := 1, detail := k, event := false }).inc F.THM_BROKEN_COUNT).thmEval
  else d

/-- Sixteen consecutive good conversions clear BROKEN (R356); the reading is the last good one again. -/
def Dev.brokenClear (k : Nat) (d : Dev) : Dev :=
  if k < 16 ∧ 16 ≤ mget d.thm.good k ∧ d.broken k = true then
    let d := (d.p F.THM_STATUS_BROKEN (clrBit (d.g F.THM_STATUS_BROKEN) k)).p (F.THM_TEMP_TEMP k) (mget d.thm.last k)
    (d.endCause 0x0701 k).thmEval
  else d

/-! ## Louvre derating at a tick -/

/-- A member of group `g` as in force at the tick: a set taken at the cut-off and accepted goes in force with it (R358, R571). -/
def Dev.atTick (d : Dev) (g : Nat) (f : Fld) : Nat :=
  if mget d.cmt.taken g && mget d.cmt.verdict g == 0 then mget d.cmt.staging f.key else d.g f

/-- The excess temperature e of R358. -/
def Dev.louvreExcess (d : Dev) : Int :=
  let die := dieInputs.map (fun k => d.reading k - sgn 16 (d.atTick 10 F.THM_LOUVRE_KNEE_DIE))
  let ext := (d.roleInputs (fun r => r == 1 || r == 2)).map (fun k => d.reading k - sgn 16 (d.atTick 10 F.THM_LOUVRE_KNEE_EXT))
  (die ++ ext).foldl max 0

/-- The unclamped limit, in binary64, for an excess. -/
def Dev.louvreRaw (d : Dev) (e : Int) : Nat :=
  f64.sub (to64 (d.g F.THM_PLIM_UNDRATED_WATTS))
    (f64.mul (to64 (d.atTick 10 F.THM_LOUVRE_SLOPE_WATTS_PER_K)) (f64.div (f64.ofInt e) (f64.ofInt 16)))

/-- The clamp of R358 in binary64. -/
def clamp64 (x lo hi : Nat) : Nat := if f64.lt x lo then lo else if f64.lt hi x then hi else x

/-- LOUVRE_PLIM at a tick (R358, R360). -/
def Dev.louvreTick (d : Dev) : Dev :=
  let e := d.louvreExcess
  let raw := d.louvreRaw e
  let floor := to64 (d.atTick 10 F.THM_LOUVRE_FLOOR_WATTS)
  let x := clamp64 raw floor (to64 (d.g F.THM_PLIM_UNDRATED_WATTS))
  let x := if d.b F.PROT_STATUS_DERATE then f64.mul x (to64 (d.atTick 7 F.PROT_DERATE_FACTOR)) else x
  let was := d.b F.THM_STATUS_ACTIVE
  let d := (d.p F.THM_PLIM_WATTS (to32 x)).pb F.THM_STATUS_AT_FLOOR (f64.lt raw floor)
  let d := d.pb F.THM_STATUS_ACTIVE (decide (0 < e))
  if 0 < e then
    if was then d else (d.raise { src := 0x0705, cls := 0, event := false }).inc F.THM_LOUVRE_COUNT
  else d.when was (fun d => d.endSource 0x0705)

end Sys2Proof.Machine
end

