-- ==== Sys2Proof/Machine/Ce.lean ====
section
/-! DEFINITION. The control engine's pass (chapter *The control engine*): sources (R201 to R204), the order of
evaluation (R195, R202), non-finite values (R208, R209), initialisation (R216, R217) and freezing (R218), and the
validators of its parameters (R211). -/
namespace Sys2Proof.Machine

/-! ## Parameters (R210) -/

/-- The parameter Pk of instance `i`, and of group set `s`: fields behind the selection windows, kept above the
register map. Mark: DEDUCED, unsafe (log entry 21). -/
def F.ceParam (i k : Nat) : Fld := ⟨0x1000000 + (i * 8 + k) * 4, 0, 32⟩
def F.ceSet (s k : Nat) : Fld := ⟨0x2000000 + (s * 8 + k) * 4, 0, 32⟩

/-- The table entry of an instance number. -/
def Dev.ceInst (d : Dev) (i : Nat) : CeInst := (d.conf.ce[i]?).getD default

/-- The instance numbers of the graph. -/
def Dev.ceRange (d : Dev) : List Nat := List.range d.conf.ce.length

/-- The primary instances. -/
def Dev.cePrimary (d : Dev) : List Nat := d.ceRange.filter (fun i => (d.ceInst i).ty != tExt)

/-- Parameter Pk of an instance in force. -/
def Dev.ceP (d : Dev) (i k : Nat) : Nat :=
  if (d.ceInst i).grouped then d.g (F.ceSet (d.ceInst i).set k) else d.g (F.ceParam i k)

/-! ## Sources -/

/-- The exact sum of the usable VCAPs of an arm's lanes in the frame before, as binary32 (R201, HEAD_VSUM).
Mark: DEDUCED, unsafe (log entry 59). -/
def Dev.headVsum (d : Dev) (a : Nat) : Nat :=
  unfix32 ((d.armLanes a).foldl (fun s l =>
    if (d.port! l).wasUsable then s + fix32 (d.port! l).vcapPrev else s) 0)

/-- ARM_VSUM and ARM_N of the last quota computation (R201). -/
def Dev.armVsum (d : Dev) (a : Nat) : Nat := unfix32 (mget d.bal.armCalc a).s
def Dev.armCount (d : Dev) (a : Nat) : Nat := cOf ((mget d.bal.armCalc a).bigN : Int)

/-- A source other than an instance output (R201). -/
def Dev.ceSource (d : Dev) (code : Nat) : Nat :=
  let v :=
    if code < 0x110 then d.g (F.FS_MEAN_LIVE_VALUE (code - 0x100))
    else if code < 0x120 then d.g (F.FS_LAST_LIVE_VALUE (code - 0x110))
    else if code < 0x130 then d.g (F.AV_REF_VALUE (code - 0x120))
    else if code < 0x132 then d.armVsum (code - 0x130)
    else if code < 0x134 then d.headVsum (code - 0x132)
    else if code < 0x136 then d.armCount (code - 0x134)
    else if 0x140 ≤ code ∧ code < 0x15C then
      ((mget d.ce.span ((code - 0x140) / 4 + 1)).vals[(code - 0x140) % 4]?).getD 0
    else if code = 0x160 then d.g F.THM_PLIM_WATTS
    else if code = 0x161 then hOf (d.g F.CAD_FRAME_PERIOD_PERIOD)
    else 0
  ftz v

/-- An input in the pass of reader `i`: outputs of the same pass below it, of the previous pass from it on (R202). -/
def Dev.ceInput (d : Dev) (now : SMap Nat) (i code : Nat) : Nat :=
  if code < 0x100 then
    if code < i then mget now code else if d.ce.fresh then 0 else mget d.ce.out code
  else d.ceSource code

/-! ## The pass -/

/-- The target of a tracked controller (R225): the previous output of the MANAUTO that tracks it, while its mode in
force is manual. -/
def Dev.ceTarget (d : Dev) (i : Nat) : Option Nat :=
  match d.cePrimary.find? (fun j => (d.ceInst j).ty == tManauto && (d.ceInst j).count == i) with
  | none => none
  | some j => if cEq (d.ceP j 0) f32one then some (if d.ce.fresh then 0 else mget d.ce.out j) else none

/-- The controllers that freezing and tracking concern. -/
def isController (ty : Nat) : Bool := ty == tInteg || ty == tPi || ty == tPid

/-- What instance `i` is given in a pass. -/
def Dev.blockIn (d : Dev) (now : SMap Nat) (i : Nat) : BlockIn :=
  let c := d.ceInst i
  let old := mget d.ce.inst i
  { ty := c.ty, x := c.ins.map (fun s => if s = 0xFFF then 0 else d.ceInput now i s),
    conn := c.ins.map (fun s => s != 0xFFF), p := (List.range 8).map (fun k => d.ceP i k),
    y1 := (List.range 3).map (fun k => if d.ce.fresh then 0 else mget d.ce.out (i + k)), st := old.st, old := old,
    h := hOf (d.g F.CAD_FRAME_PERIOD_PERIOD), period := d.g F.CAD_FRAME_PERIOD_PERIOD, count := c.count,
    signs := c.signs, preset := c.preset, frozen := isController c.ty && c.freeze && d.ce.freeze,
    target := if isController c.ty then d.ceTarget i else none, lut := mget d.conf.lut i,
    vsum0 := d.armVsum 0, vsum1 := d.armVsum 1, fresh := d.ce.fresh }

/-- The fault class of a FOLLOW (R223): P2 as an integer. -/
def followClass (p : Nat) : Nat := (f32.unpack p).roundInt.toNat

/-- One instance of a pass (R208, R219, R223): its outputs enter the pass, its state is kept unless something in it
is not finite: then it is what it was before the pass, in the first pass its initial values, and a FOLLOW that trips raises its fault. Answers the outputs so far and the head. -/
def Dev.ceStep (acc : SMap Nat × Dev) (i : Nat) : SMap Nat × Dev :=
  let (now, d) := acc
  let b := d.blockIn now i
  let o := blk b
  let old := b.old
  if (o.y ++ o.st).all (fun v => f32.isFin v) then
    let now := (List.range o.y.length).foldl (fun m k => mset m (i + k) ((o.y[k]?).getD 0)) now
    let inst : CeState :=
      { st := o.st, limited := o.limited, conflict := o.conflict, nonfinite := false, frozen := o.frozen,
        tracking := o.tracking, manual := o.manual, tripped := o.tripped, floored := o.floored,
        events := if o.event then (old.events + 1) % 2 ^ 32 else old.events, aux := o.aux, nfRun := 0 }
    let d := { d with ce := { d.ce with inst := mset d.ce.inst i inst } }
    let d := d.when (b.ty == tFollow && o.event) (fun d =>
      d.raise { src := 0x0302, cls := followClass (b.pi 2), detail := i, event := false })
    (now, d.when (b.ty == tFollow && !o.tripped && d.hasCause 0x0302 i) (fun d => d.endCause 0x0302 i))
  else
    let now := (List.range (ceOuts b.ty)).foldl (fun m k => mset m (i + k) (b.yp k)) now
    let inst : CeState :=
      { old with st := if b.fresh then initWords b else old.st, limited := o.limited, conflict := o.conflict, nonfinite := true, frozen := o.frozen,
                 tracking := o.tracking, manual := o.manual, floored := o.floored, nfRun := old.nfRun + 1 }
    (now, { d with ce := { d.ce with inst := mset d.ce.inst i inst } }.inc F.CE_NONFINITE_COUNT)

/-- The heads that send SPAN_OUT to the lead: every other admitted position (R204). Mark: DEDUCED, unsafe (log entry 63). -/
def Dev.spanHeads (d : Dev) : List Nat := ((List.range 7).map (· + 1)).filter (fun p => (d.g F.LANE_ENUM_ADMITTED).testBit p)

/-- SPAN_OUT values that have not reached the lead by its tick (R204). -/
def Dev.spanLate (d : Dev) : Dev :=
  if d.isLead then
    d.spanHeads.foldl (fun d p =>
      let v := mget d.ce.span p
      if v.got && frameAdd v.frame 1 == d.cad.frame then d else d.inc F.CE_SPAN_LATE_COUNT) d
  else d

/-- The value that a sink carries: the output of the instance that it is bound to (R205). Sinks 0 and 1 are the
arm references at the lead, and SPAN_OUT0 to SPAN_OUT3 are sinks 2 to 5. -/
def Dev.sink (d : Dev) (n : Nat) : Nat :=
  match d.conf.sinks.find? (fun s => s.1 == n) with
  | some (_, i) => mget d.ce.out i
  | none => 0

/-- What the selection window shows of the selected instance (R227). -/
def Dev.showCe (d : Dev) : Dev :=
  let i := d.g F.CE_SEL_INSTANCE
  let c := d.ceInst i
  let s := mget d.ce.inst i
  let d := (d.p F.CE_SEL_INFO_TYPE c.ty).p F.CE_SEL_INFO_SET (if c.grouped then c.set else 0)
  let d := (d.pb F.CE_SEL_INFO_GROUPED c.grouped).p F.CE_SEL_INFO_COST (ceCost c.ty c.count)
  let d := ((d.pb F.CE_SEL_STATE_LIMITED s.limited).pb F.CE_SEL_STATE_CONFLICT s.conflict).pb
    F.CE_SEL_STATE_NONFINITE s.nonfinite
  let d := ((d.pb F.CE_SEL_STATE_FROZEN s.frozen).pb F.CE_SEL_STATE_TRACKING s.tracking).pb
    F.CE_SEL_STATE_MANUAL s.manual
  let d := (d.pb F.CE_SEL_STATE_TRIPPED s.tripped).pb F.CE_SEL_STATE_FLOORED s.floored
  (d.p F.CE_SEL_EVENT_COUNT s.events).p F.CE_SEL_OUT_VALUE (mget d.ce.out i)

/-- An instance in the condition of R213. -/
def Dev.cePeriodBad (d : Dev) (i period : Nat) : Bool :=
  ((d.ceInst i).ty == tNotch && freqOver (d.ceP i 0) period) || ((d.ceInst i).ty == tPll && freqOver (d.ceP i 4) period)

/-- A discarded pass (R106, R197, R198): counted by the cause, F3 CE_OVERRUN, a miss of the CE stage. -/
def Dev.ceDiscard (cause : Nat) (d : Dev) : Dev :=
  let d := { d with cad := { d.cad with work := { d.cad.work with ceOver := true } } }
  let d := d.pb F.CE_STATUS_HELD true
  (d.raise { src := 0x0101, cls := 3, detail := cause }).missed 2 0

/-- May the pass of this frame run (R199)? On a wake the passes run from LOAD on (R433). -/
def Dev.ceRuns (d : Dev) : Bool :=
  d.ticking && d.cad.started && !d.conf.ce.isEmpty && decide (2 ≤ d.redState) && !d.cad.work.cePass &&
  !d.cad.work.ceOver && !(d.redState == 2 && d.g F.RED_STATE_PHASE == 4)

/-- The CE pass (R194 to R208): `corr` single-bit errors corrected; `uncorr` abandons the pass (R197). -/
def Dev.cePass (corr : Nat) (uncorr : Bool) (d : Dev) : Dev :=
  if d.ceRuns then
    let d := (d.addTo F.CE_ECC_CORR_COUNT corr).pb F.CE_STATUS_RUNNING true
    if uncorr then (d.inc F.CE_ECC_UNCORR_COUNT).ceDiscard 1
    else
      let d := d.spanLate
      let (now, d) := d.cePrimary.foldl Dev.ceStep ([], d)
      let d := { d with ce := { d.ce with out := now, fresh := false } }
      let d := d.pb F.CE_STATUS_HELD false
      let d := d.pb F.CE_STATUS_NONFINITE (d.cePrimary.any (fun i => (mget d.ce.inst i).nonfinite))
      let d := d.pb F.CE_STATUS_CONFLICT (d.cePrimary.any (fun i => d.cePeriodBad i (d.g F.CAD_FRAME_PERIOD_PERIOD)))
      let d := d.showCe.deadlineMet 2 0
      let d := { d with cad := { d.cad with work := { d.cad.work with cePass := true } } }
      if d.isLead then d
      else d.spanSend (.span spSpanOut 0 (d.cad.frame :: (List.range 4).map (fun k => d.sink (2 + k))))
  else d

/-- The pass has not ended at its deadline (R106). -/
def Dev.ceOverrun (d : Dev) : Dev :=
  if d.ceRuns then (d.inc F.CAD_CE_OVERRUN_COUNT).ceDiscard 0 else d

/-- R208 in CE_NONFINITE_LIMIT consecutive frames at one instance: F3 (R209). Mark: DEDUCED, unsafe (log entry 64). -/
def Dev.nonfiniteLimit (i : Nat) (d : Dev) : Dev :=
  let s := mget d.ce.inst i
  if i < 256 ∧ d.g F.CE_NONFINITE_LIMIT_FRAMES ≤ s.nfRun ∧ 1 ≤ s.nfRun then
    { d with ce := { d.ce with inst := mset d.ce.inst i { s with nfRun := 0 } } }.raise
      { src := 0x0301, cls := 3, detail := i }
  else d

/-! ## Initialisation -/

/-- INIT written (R217): it reads 1 until it is done. -/
def Dev.ceInitWrite (d : Dev) : Dev := d.pb F.CE_CTRL_INIT true

/-- Initialise at a tick (R216): the states take their initial values in the pass that follows. INIT clears with the one that was taken
for this tick; one written since then still waits (R217). -/
def Dev.ceInit (d : Dev) : Dev :=
  let again (s : CeState) : CeState := { s with st := [], aux := 0, limited := false, nfRun := 0 }
  let inst := d.ce.inst.foldl (fun m e => mset m e.1 (again e.2)) []
  let taken := d.ce.initDue
  let d := { d with ce := { d.ce with fresh := true, initDue := false, inst := inst } }
  (d.when taken (fun d => d.pb F.CE_CTRL_INIT false)).inc F.CE_INIT_COUNT

/-- The state words and the outputs of an instance as they stand before the first pass after an initialisation (R206, R216): those that
an input decides are computed from the inputs of that pass. -/
def Dev.ceInitial (d : Dev) (i : Nat) : List Nat × List Nat :=
  let b := d.blockIn (d.cePrimary.foldl Dev.ceStep ([], d)).1 i
  (initWords b, initOuts b)

/-- The tick after an INIT was taken, or after configuration (R216, R217). -/
def Dev.ceInitialise (d : Dev) : Dev :=
  if d.ce.initDue && d.cad.started && d.ticking then d.ceInit else d

/-- A head's SPAN_OUT values reach the lead (R204). -/
def Dev.spanOut (h : SpanHdr) (frame : Nat) (vals : List Nat) (d : Dev) : Dev :=
  let (ok, d) := d.spanTake spSpanOut h
  if ok && decide (1 ≤ h.origin) && decide (h.origin ≤ 7) then
    { d with ce := { d.ce with spanNew := mset d.ce.spanNew h.origin ⟨frame % 2 ^ 32, vals, true⟩ } }
  else d

/-- A Shutter is latched, SO0 is off or the arms are held (R218, R435). -/
def Dev.ceFrozen (d : Dev) : Bool :=
  d.b F.PROT_STATUS_LATCHED0 || d.b F.PROT_STATUS_LATCHED1 || !(d.g F.SAF_IO_SO).testBit 0 || d.red.hold

/-- What a tick latches for the pass (R21, R204, R218): SPAN_IN values and the freeze. -/
def Dev.ceTick (d : Dev) : Dev :=
  let sp := d.ce.spanNew.foldl (fun m e => mset m e.1 e.2) d.ce.span
  { d with ce := { d.ce with span := sp, spanNew := [], freeze := d.ceFrozen } }

/-- A release at this very tick lets the frame that begins with it run unfrozen (R218, R326, R435). -/
def Dev.ceThaw (d : Dev) : Dev := { d with ce := { d.ce with freeze := d.ce.freeze && d.ceFrozen } }

/-! ## Validators (R211) -/

/-- Reason codes of R62 and R211. -/
def rsnRange : Nat := 0x01
def rsnPair : Nat := 0x02
def rsnNonfinite : Nat := 0x03
def rsnState : Nat := 0x04
def rsnUnstable : Nat := 0x80
def rsnFreq : Nat := 0x81
def rsnIntegral : Nat := 0x82
def rsnNegative : Nat := 0x83

/-- The first failing check of a list: a code where the check fails. -/
def firstFail : List (Bool × Nat) → Nat
  | [] => 0
  | (ok, code) :: r => if ok then firstFail r else code

/-- Strictly above zero; not below zero. -/
def pos32 (a : Nat) : Bool := cLt 0 a
def nonneg32 (a : Nat) : Bool := cLe 0 a

/-- Does an arm of the leg group hold a lane configured other than FB, on this head or by a head's summary? -/
def Dev.armNotFb (d : Dev) : Bool :=
  (List.range 64).any (fun l => (d.armOf l).isSome && d.configured l && !d.isFb l) ||
  d.reports.any (fun r => decide (r.2.a0.fbLanes < r.2.a0.lanes) || decide (r.2.a1.fbLanes < r.2.a1.lanes))

/-- The number of parameters that a type has (R219). -/
def ceParams (ty : Nat) : Nat :=
  match ty with
  | 0x02 => 2 | 0x03 => 1 | 0x04 => 1 | 0x05 => 2 | 0x06 => 3 | 0x07 => 4 | 0x08 => 5 | 0x09 => 7 | 0x0A => 5
  | 0x0B => 3 | 0x0C => 3 | 0x12 => 6 | 0x14 => 2 | 0x16 => 3 | 0x17 => 3 | 0x18 => 3 | _ => 0

/-- The checks of a type on its parameters, in the order of the catalogue (R211, R219), at a frame period. -/
def Dev.ceCheck (d : Dev) (ty : Nat) (p : Nat → Nat) (period : Nat) : Nat :=
  let pair (a b : Nat) : Bool × Nat := (cLe (p a) (p b), rsnPair)
  let above (k : Nat) : Bool × Nat := (pos32 (p k), rsnRange)
  let atLeast (k : Nat) : Bool × Nat := (nonneg32 (p k), rsnRange)
  let oneOf (k : Nat) (vs : List Int) : Bool × Nat := (vs.any (fun v => cEq (p k) (cOf v)), rsnIntegral)
  let finite := ((List.range (ceParams ty)).all (fun k => f32.isFin (p k)), rsnNonfinite)
  let own := match ty with
    | 0x04 => [above 0]
    | 0x05 => [pair 0 1]
    | 0x06 => [above 0, above 1]
    | 0x07 => [pair 1 2]
    | 0x08 => [pair 2 3]
    | 0x09 => [atLeast 3, pair 4 5]
    | 0x0A => [(cLt (cAbs (p 4)) f32one && f64.lt (to64 (cAbs (p 3))) (f64.add (f64.ofInt 1) (to64 (p 4))), rsnUnstable)]
    | 0x0B => [(pos32 (p 0) && !freqOver (p 0) period, rsnFreq),
               (pos32 (p 1) && f64.le (to64 (p 1)) (f64.mul (f64.ofInt 2) (to64 (p 0))), rsnPair),
               (nonneg32 (p 2) && cLe (p 2) (cOf 80), rsnRange)]
    | 0x0C => [atLeast 1, atLeast 2]
    | 0x12 => [pair 3 0, pair 0 4, (!freqOver (p 4) period, rsnFreq), above 5]
    | 0x14 => [atLeast 1]
    | 0x16 => [above 0, above 1, oneOf 2 [0, 1, 3, 4]]
    | 0x17 => [oneOf 0 [0, 1], above 2]
    | 0x18 => [pair 0 1, (pos32 (p 2) && cLe (p 2) f32one, rsnRange),
               (nonneg32 (p 0) || !d.armNotFb, rsnNegative)]
    | _ => []
  firstFail (finite :: own)

/-- The first reason over a list of instances. -/
def firstReason (xs : List Nat) : Nat := (xs.find? (fun r => r != 0)).getD 0

/-- The validator of CE_LOCAL on a staged set (R211). -/
def Dev.validateCe (d : Dev) (s : SMap Nat) (period : Nat) : Nat :=
  firstReason ((d.cePrimary.filter (fun i => !(d.ceInst i).grouped)).map (fun i =>
    d.ceCheck (d.ceInst i).ty (fun k => mget s (F.ceParam i k).key) period))

/-- A head's part of AV1, CE_GROUP (R211). -/
def Dev.validateCeGroup (d : Dev) (s : SMap Nat) (period : Nat) : Nat :=
  firstReason ((d.cePrimary.filter (fun i => (d.ceInst i).grouped)).map (fun i =>
    d.ceCheck (d.ceInst i).ty (fun k => mget s (F.ceSet (d.ceInst i).set k).key) period))

/-- The validator of AV0, ARM_REF (R214). -/
def Dev.validateRefs (d : Dev) (s : SMap Nat) : Nat :=
  firstReason ((List.range 16).map (fun k =>
    let v := mget s (F.AV_REF_VALUE k).key
    match d.conf.refRange[k]? with
    | some (lo, hi) => firstFail [(f32.isFin v, rsnNonfinite), (cLe lo v && cLe v hi, rsnRange)]
    | none => firstFail [(f32.isFin v, rsnNonfinite)]))

/-- The instances that a new period puts in the condition of R213, and those it takes out of it: the F1 of R213 is
raised for the first and its cause ends for the second. -/
def Dev.cePeriodChange (d : Dev) (old : Nat) : Dev :=
  let now := d.g F.CAD_FRAME_PERIOD_PERIOD
  d.cePrimary.foldl (fun d i =>
    if d.cePeriodBad i now && !d.cePeriodBad i old then
      d.raise { src := 0x0303, cls := 1, detail := i, event := false }
    else if !d.cePeriodBad i now && d.hasCause 0x0303 i then d.endCause 0x0303 i
    else d) d

end Sys2Proof.Machine
end

