-- ==== Sys2Proof/Machine/Edge.lean ====
section
/-! DEFINITION. The edge scheduler (chapter *Edge scheduler: legs, dead time and carriers*): from the selection of a
frame to the timed switch edges of each lane (R255 to R280, R573 to R575). Times are on the running clock, in
250 ps units. -/
namespace Sys2Proof.Machine

/-! ## Widths -/

/-- The consumption of a switch, d_rise less d_fall (R262). -/
def Dev.consQ (d : Dev) (l s : Nat) : Int :=
  (d.riseQ l s : Int) - (d.fallQ (d.g (F.HCL_PORT_CTRL_CELL_TYPE l)) s : Int)

/-- The switch that a command of leg `k` turns on. -/
def swOf (k cmd : Nat) : Nat := if cmd = cmdUp then 2 * k else 2 * k + 1

/-- The shortest interval of a leg command that is not short (R262): t_min + c. -/
def Dev.minWidth (d : Dev) (l k cmd : Nat) : Nat :=
  (((40 * d.g F.EDGE_MIN_PULSE_MIN : Nat) : Int) + d.consQ l (swOf k cmd)).toNat

/-! ## Legs and switches as they stand -/

def EdgeLane.leg (e : EdgeLane) (k : Nat) : LegSt := mget e.legs k
def EdgeLane.legUpd (e : EdgeLane) (k : Nat) (f : LegSt → LegSt) : EdgeLane := { e with legs := mupd e.legs k f }
def Dev.edgeOf (d : Dev) (l : Nat) : EdgeLane := mget d.edge l

/-- One edge passes. -/
def EdgeLane.pass (e : EdgeLane) (x : SwEdge) : EdgeLane :=
  let e := { e with sw := if x.on then setBit e.sw x.sw else clrBit e.sw x.sw }
  if x.on then e
  else e.legUpd (x.sw / 2) (fun g => if x.sw % 2 = 0 then { g with offUp := some x.t } else { g with offDn := some x.t })

/-- Edges in time order, off edges before on edges at one time (R144, R280). -/
def edgeBefore (x y : SwEdge) : Bool :=
  decide (x.t < y.t) || (x.t == y.t && ((!x.on && y.on) || (x.on == y.on && decide (x.sw < y.sw))))

/-- Everything sent that lies before `t` has happened. -/
def EdgeLane.advance (e : EdgeLane) (t : Nat) : EdgeLane :=
  let e' := (e.sent.filter (fun c => decide (c.t < t))).foldl (fun e c =>
    e.legUpd c.leg (fun g => { g with cmd := c.cmd, since := c.t })) e
  let e' := (e.sentEdges.filter (fun x => decide (x.t < t))).foldl EdgeLane.pass e'
  { e' with sent := e.sent.filter (fun c => decide (t ≤ c.t)), sentEdges := e.sentEdges.filter (fun x => decide (t ≤ x.t)) }

/-- The edges of changes before `t` that still lie ahead; those of a change at or after `t` were provisional, and the DSF that is built
now replaces them (R143, R264). -/
def EdgeLane.begun (e : EdgeLane) (t : Nat) : List SwEdge :=
  (e.sentEdges ++ e.owed.map (fun (x : SwEdge) => { x with t := max t x.t })).filter (fun x => decide (x.unit < t))

/-- The command of a leg at `t`, from what was sent (R281). -/
def EdgeLane.cmdAt (e : EdgeLane) (k t : Nat) : Nat :=
  (e.sent.filter (fun c => c.leg == k && decide (c.t ≤ t))).foldl (fun _ c => c.cmd) (e.leg k).cmd

/-! ## The trim carrier (R263, R264) -/

/-- A binary64 pattern of a natural number. -/
def f64n (n : Nat) : Nat := f64.ofInt (n : Int)

/-- The on and the off length of R263, in binary64, for a fraction `num / den`. Mark: DEDUCED, unsafe (log entry 72). -/
def trimLens (num den ton pmax : Nat) : Nat × Nat :=
  let f := f64.ofRatio num den
  let one := f64n 1
  let t := f64n ton
  let p := f64n pmax
  let g := f64.sub one f
  let (on, off) := if f64.le f (f64.ofRatio 1 2) then (t, f64.div (f64.mul t g) f) else (f64.div (f64.mul t f) g, t)
  if f64.lt p (f64.add on off) then (f64.mul f p, f64.mul g p) else (on, off)

/-- An interval's end: its start plus a length, rounded to 250 ps with ties to even (R263). -/
def trimEnd (start len : Nat) : Nat := (FVal.add (FVal.ofInt (start : Int)) (f64.unpack len)).roundInt.toNat

/-- The intervals of the carrier from the one in progress on: start and whether it is an on interval. -/
def trimRun (on off t1 : Nat) : Nat → Nat → Bool → List (Nat × Bool)
  | 0, start, b => [(start, b)]
  | n + 1, start, b => (start, b) :: trimRun on off t1 n (max t1 (trimEnd start (if b then on else off))) (!b)

/-! ## Minimum pulses of one leg (R262, R266, R267, R575) -/

/-- What handling one leg's changes answers. -/
structure LegOut where
  changes : List LegChange
  leg : LegSt
  shorts : Nat
  lost : Nat
  deriving DecidableEq, Repr, Inhabited

/-- Residuals held. -/
def LegSt.held (g : LegSt) : Nat := bit (decide (0 < g.resUp)) + bit (decide (0 < g.resDn))
def LegSt.dropRes (g : LegSt) : LegSt := { g with resUp := 0, resDn := 0 }
def LegSt.res (g : LegSt) (c : Nat) : Nat := if c = cmdUp then g.resUp else g.resDn
def LegSt.setRes (g : LegSt) (c w : Nat) : LegSt := if c = cmdUp then { g with resUp := w } else { g with resDn := w }

/-- The width that CARRY adds to the interval in progress. -/
def LegSt.ext (g : LegSt) : Nat := if g.extraAt = g.since then g.extra else 0

/-- Keep changes in rising time order, the later one of two that collide, and none that changes nothing. -/
def tidy (cur : Nat) : List LegChange → List LegChange
  | [] => []
  | c :: r =>
    match tidyHead r with
    | some t' => if t' ≤ c.t then tidy cur r else if c.cmd = cur then tidy cur r else c :: tidy c.cmd r
    | none => if c.cmd = cur then [] else [c]
where
  /-- the time of the next change -/
  tidyHead : List LegChange → Option Nat
    | [] => none
    | c :: _ => some c.t

/-- The last command of changes in time order. -/
def lastCmd (cur : Nat) (cs : List LegChange) : Nat := cs.foldl (fun _ c => c.cmd) cur

/-- One leg's changes from tick n+1 on. `cs` begins with what its insertion or carrier has it at by then; the leg takes that up again
where it shows another command (R276, R280), but for an interval that handling has removed. What handling has moved past the window of
an earlier frame goes before what follows. `anew`: the commands are those of a new state, from tick n+1. -/
def legLine (t1 : Nat) (anew : Bool) (g : LegSt) : List LegChange → List LegChange
  | [] => []
  | c :: r =>
    if anew then tidy g.cmd ({ c with t := max t1 c.t, raw := max t1 c.t } :: r)
    else match g.defer with
      | [] =>
        let cmd := match g.skip with
          | some (a, kept) => if a = c.raw then kept else c.cmd
          | none => c.cmd
        tidy g.cmd ({ c with t := max t1 (c.t + g.ext), cmd := cmd } :: r)
      | ds => ds.map (fun x => { x with t := max t1 x.t }) ++ tidy (lastCmd g.cmd ds) r

/-- The intervals after the one in progress, in time order (R266). `pc` is the command before the first of them, `v` the leg as the
plan sees it, with the residuals of what it has removed so far, and `g` the leg as the frame leaves it: an interval that begins at
or after `t2` is provisional (R264) and changes `v` alone. Mark: DEDUCED, unsafe (log entry 73). -/
def handleShort (minW : Nat → Nat) (mode t2 : Nat) : Nat → Nat → List LegChange → LegSt → LegSt → LegOut
  | 0, _, cs, _, g => ⟨cs, g, 0, 0⟩
  | _ + 1, _, [], _, g => ⟨[], g, 0, 0⟩
  | n + 1, pc, c :: r, v, g =>
    let final := decide (c.t < t2)
    if c.cmd = cmdOff then
      let o := handleShort minW mode t2 n c.cmd r v.dropRes (if final then g.dropRes else g)
      ⟨c :: o.changes, o.leg, o.shorts, o.lost + (if final then g.held else 0)⟩
    else
      match r with
      | [] => ⟨[c], g, 0, 0⟩
      | x :: r' =>
        let res := if mode = 2 then v.res c.cmd else 0
        let w := (x.t - c.t) + res
        let v' := if mode = 2 then v.setRes c.cmd 0 else v
        let g' := if final && mode == 2 then g.setRes c.cmd 0 else g
        if minW c.cmd ≤ w then
          let o := handleShort minW mode t2 n c.cmd ({ x with t := x.t + res } :: r') v'
            (if final then { g' with extra := res, extraAt := c.t } else g')
          ⟨c :: o.changes, o.leg, o.shorts, o.lost⟩
        else
          let k := bit final
          if mode = 1 then
            let o := handleShort minW mode t2 n c.cmd ({ x with t := c.t + minW c.cmd } :: r') v'
              (if final then { g' with countedAt := some c.t } else g')
            ⟨c :: o.changes, o.leg, o.shorts + k, o.lost⟩
          else
            let v'' := if mode = 2 then v'.setRes c.cmd w else v'
            let g'' := if final && mode == 2 then g'.setRes c.cmd w else g'
            let o := handleShort minW mode t2 n pc (if x.cmd = pc then r' else x :: r') v''
              (if final then { g'' with skip := some (c.raw, pc) } else g'')
            ⟨o.changes, o.leg, o.shorts + k, o.lost⟩

/-- All of one leg's changes from tick n+1 on (R266, R575): the interval in progress is never removed, and is cut
no earlier than t_min + c after it began. `plain` is false in the last frame of a suppression (R274). A change at `hor`, where
the placing of a carrier stops, only ends the interval before it. -/
def legHandle (minW : Nat → Nat) (mode t1 t2 : Nat) (plain : Bool) (hor : Option Nat) (g : LegSt) (cs : List LegChange) : LegOut :=
  let g := { g with defer := [] }
  if !plain then ⟨cs, g.dropRes, 0, g.held⟩
  else
    match cs with
    | [] => ⟨[], g, 0, 0⟩
    | c :: r =>
      let te := c.t + (if c.raw < t1 ∨ c.t ≤ t1 then 0 else g.ext)
      let least := g.since + minW g.cmd
      let cut := g.cmd != cmdOff && decide (te < least)
      let t' := if cut then least else te
      let count := cut && decide (c.t < t2) && g.countedAt != some g.since
      let lost := if count then g.held else 0
      let g' := if count then { g.dropRes with countedAt := some g.since } else g
      let o := handleShort minW mode t2 100 g.cmd ({ c with t := t' } :: r) g' g'
      let out := tidy g.cmd o.changes
      ⟨out.filter (fun x => hor.all (fun h => decide (x.t < h))),
        { o.leg with defer := out.filter (fun x => decide (x.raw < t2) && decide (t2 ≤ x.t)) }, o.shorts + bit count, o.lost + lost⟩

/-! ## From changes to edges (R259, R277) -/

/-- Does a leg command hold a switch on? -/
def holdsOn (k cmd s : Nat) : Bool := cmd != cmdOff && s == swOf k cmd

/-- The edges of one change (R259). -/
def Dev.changeEdges (d : Dev) (l : Nat) (old : Nat) (c : LegChange) : List SwEdge :=
  let ty := d.g (F.HCL_PORT_CTRL_CELL_TYPE l)
  [2 * c.leg, 2 * c.leg + 1].filterMap (fun s =>
    if holdsOn c.leg old s && !holdsOn c.leg c.cmd s then some ⟨c.t + d.fallQ ty s, s, false, c.t⟩
    else if !holdsOn c.leg old s && holdsOn c.leg c.cmd s then some ⟨c.t + d.riseQ l s, s, true, c.t⟩
    else none)

/-- The force code of a switch (R277). -/
def Dev.forceOf (d : Dev) (l s : Nat) : Nat := d.g (F.force l s)

/-- All force codes of a lane, two bits a switch. -/
def Dev.forces (d : Dev) (l : Nat) : Nat := (List.range 8).foldl (fun m s => m + d.forceOf l s * 4 ^ s) 0

/-- A switch that has just been made FREE (R277). -/
def Dev.freed (d : Dev) (l : Nat) (e : EdgeLane) (s : Nat) : Bool := d.forceOf l s == 0 && e.forceSeen / 4 ^ s % 4 != 0

/-- Edges of forced switches at tick n+1, unless they are still on their way, and of switches just made FREE, which take the command of
their leg at that tick (R277). -/
def Dev.forceEdges (d : Dev) (l : Nat) (e : EdgeLane) (pend : List SwEdge) (cmdAt : Nat → Nat) (t1 : Nat) : List SwEdge :=
  (List.range (2 * d.legCount l)).filterMap (fun s =>
    let now := d.forceOf l s
    let on := e.sw.testBit s
    let want := if now = 1 then false else if now = 2 then true else holdsOn (s / 2) (cmdAt (s / 2)) s
    if (now == 0 && !d.freed l e s) || pend.any (fun x => x.sw == s && x.on == want) then none
    else if on && !want then some ⟨t1 + (if now = 0 then d.fallQ (d.g (F.HCL_PORT_CTRL_CELL_TYPE l)) s else 0), s, false, t1⟩
    else if !on && want then some ⟨t1 + d.riseQ l s, s, true, t1⟩
    else none)

/-- The pending edges that a lane keeps: a forced switch ignores every other command (R277), and one just made FREE starts anew. -/
def Dev.pendEdges (d : Dev) (l t1 : Nat) (e : EdgeLane) : List SwEdge :=
  (e.begun t1).filter (fun x => match d.forceOf l x.sw with
    | 0 => !d.freed l e x.sw
    | 1 => !x.on
    | _ => x.on)

/-! ## The twelve-edge fit (R272) and the interlock (R280) -/

/-- Place units of change in order; one that would overfill the window of tick n+1 is put off to the next tick, and with it the later
ones of its legs, or with `all` every later one. A unit that began before is never put off. Answers the changes placed, the edges, the
units put off. `own` takes out the edges of a change that a switch does not follow. Mark: DEDUCED, unsafe (log entry 74). -/
def fit (d : Dev) (l t1 t2 : Nat) (all : Bool) (own : LegChange → SwEdge → Bool) : List (List LegChange) → (Nat → Nat) → Nat → List Nat →
    List LegChange × List SwEdge × List (List LegChange)
  | [], _, _, _ => ([], [], [])
  | u :: us, cmds, used, off =>
    let (es, cmds') := u.foldl (fun (acc : List SwEdge × (Nat → Nat)) c =>
      let e := (d.changeEdges l (acc.2 c.leg) c).filter (own c)
      (acc.1 ++ e, fun k => if k = c.leg then c.cmd else acc.2 k)) ([], cmds)
    let n := (es.filter (fun x => decide (x.t < t2))).length
    let inWin := u.any (fun c => decide (c.t < t2))
    let held := u.any (fun c => decide (c.unit < t1))
    if !held && ((inWin && decide (12 < used + n)) || ((inWin || all) && u.any (fun c => off.contains c.leg))) then
      let (a, b, p) := fit d l t1 t2 all own us cmds used (if all then [0, 1, 2, 3] else off ++ u.map LegChange.leg)
      (a, b, u :: p)
    else
      let (a, b, p) := fit d l t1 t2 all own us cmds' (used + n) off
      (u ++ a, es ++ b, p)

/-- Would the interlock fail a leg in the window (R280)? -/
def legFails (e : EdgeLane) (k minGap t2 : Nat) (es : List SwEdge) : Bool :=
  let mine := sortBy edgeBefore (es.filter (fun x => x.sw / 2 == k && decide (x.t < t2)))
  let g := e.leg k
  let gap (o : Option Nat) (t : Nat) : Bool := match o with
    | some x => decide (t < x + minGap)
    | none => false
  (mine.foldl (fun (a : Bool × Nat × Option Nat × Option Nat) x =>
    let (bad, sw, ou, od) := a
    let up := x.sw % 2 == 0
    if x.on then
      (bad || sw.testBit (partner x.sw) || gap (if up then od else ou) x.t, setBit sw x.sw, ou, od)
    else (bad, clrBit sw x.sw, if up then some x.t else ou, if up then od else some x.t))
    (false, e.sw, g.offUp, g.offDn)).1

/-! ## One lane in one frame -/

/-- What the scheduler of a frame does for one lane: the state, what it counts, and the units put off. -/
structure LanePlan where
  lane : EdgeLane
  shorts : Nat
  lost : Nat
  postponed : Nat
  locked : List Nat
  put : List Nat
  deriving Repr

/-- Units in time order. -/
def unitBefore (x y : List LegChange) : Bool :=
  match x, y with
  | a :: _, b :: _ => decide (a.t < b.t)
  | _, _ => false

/-- The units that are placed or put off as one: a DX pulse with its secondary edges, or else one change. Changes of a pulse begun go
first, each alone. -/
def unitsOf (t1 : Nat) (dx : Bool) (cs : List LegChange) : List (List LegChange) :=
  if dx then
    let old := cs.filter (fun c => decide (c.unit < t1))
    let new := cs.filter (fun c => decide (t1 ≤ c.unit))
    let starts := new.foldl (fun (acc : List Nat) c => if acc.contains c.unit then acc else acc ++ [c.unit]) []
    old.map (fun c => [c]) ++ (sortBy (fun a b => decide (a < b)) starts).map (fun u => new.filter (fun c => c.unit == u))
  else sortBy unitBefore (cs.map (fun c => [{ c with unit := max t1 c.t }]))

/-- Steps 4 to 8 of R255 for a lane whose raw changes are given leg by leg. -/
def Dev.finishLane (d : Dev) (l t1 t2 : Nat) (plain : Bool) (hor : Option Nat) (dx anew : Bool) (e : EdgeLane) (legs : List (List LegChange)) :
    LanePlan :=
  let outs := (List.range legs.length).map (fun k =>
    let g := e.leg k
    legHandle (fun c => d.minWidth l k c) (d.g F.EDGE_MIN_PULSE_HANDLING) t1 t2 plain hor g (legLine t1 anew g ((legs[k]?).getD [])))
  let e := (List.range outs.length).foldl (fun e k => { e with legs := mset e.legs k ((outs[k]?).getD default).leg }) e
  let cs := outs.flatMap (fun o => o.changes)
  let cmdOf (xs : List LegChange) (k : Nat) : Nat := lastCmd (e.leg k).cmd (xs.filter (fun c => c.leg == k && decide (c.t ≤ t1)))
  let own (c : LegChange) (x : SwEdge) : Bool := d.forceOf l x.sw == 0 && !(d.freed l e x.sw && decide (c.t ≤ t1))
  let pend := d.pendEdges l t1 e
  let used := ((pend ++ d.forceEdges l e pend (cmdOf cs) t1).filter (fun x => decide (x.t < t2))).length
  let (chs, es, put) := fit d l t1 t2 dx own (unitsOf t1 dx cs) (fun k => (e.leg k).cmd) used []
  let e := put.flatten.foldl (fun e c => e.legUpd c.leg (fun g =>
    if g.defer.isEmpty ∨ t2 ≤ c.t then g else { g with defer := { c with t := t2, raw := t2 } :: g.defer.filter (fun x => x.t != t2) })) e
  let all := pend ++ d.forceEdges l e pend (cmdOf chs) t1 ++ es
  let bad := (List.range (d.legCount l)).filter (fun k => legFails e k (max 40 (d.cl l).minDead) t2 all)
  let keep := all.filter (fun x => !bad.contains (x.sw / 2))
  let offs := bad.flatMap (fun k => [2 * k, 2 * k + 1].filterMap (fun s =>
    if e.sw.testBit s then some (⟨t1, s, false, t1⟩ : SwEdge) else none))
  let chs' := chs.filter (fun c => !bad.contains c.leg) ++ bad.map (fun k => ⟨t1, k, cmdOff, t1, t1⟩)
  let dropped := bad.foldl (fun n k => n + (e.leg k).held) 0
  let e := bad.foldl (fun e k => e.legUpd k (fun g => { g.dropRes with defer := [], skip := none })) e
  { lane := { e with plan := chs', planEdges := sortBy edgeBefore (keep ++ offs), forceSeen := d.forces l,
                     swapSeen := d.g (F.swap l) + 16 * d.g (F.invert l) },
    shorts := outs.foldl (fun n o => n + o.shorts) 0, lost := outs.foldl (fun n o => n + o.lost) 0 + dropped,
    postponed := if dx then bit (!put.isEmpty) else put.length, locked := bad,
    put := put.flatMap (fun u => (u.take 1).map LegChange.unit) }

/-- All residuals of a lane are discarded (R267): how many. -/
def EdgeLane.heldCount (e : EdgeLane) : Nat := (List.range 4).foldl (fun n k => n + (e.leg k).held) 0
/-- CARRY_HELD, DEAD_RAISED and FORCED of a lane (R281). -/
def Dev.showLane (d : Dev) (l : Nat) : Dev :=
  ((d.showDead l).pb (F.laneCarry l) (decide (0 < (d.edgeOf l).heldCount))).pb (F.laneForced l) (d.forces l != 0)

def EdgeLane.dropAll (e : EdgeLane) : EdgeLane := (List.range 4).foldl (fun e k => e.legUpd k LegSt.dropRes) e

/-- What a carrier that has ended leaves behind is forgotten. -/
def EdgeLane.forget (e : EdgeLane) : EdgeLane :=
  (List.range 4).foldl (fun e k => e.legUpd k (fun g => { g with extra := 0, defer := [], skip := none })) e

/-- The legs by their lists of changes from lists of command vectors. -/
def byLeg (n : Nat) (vs : List (Nat × List Nat)) : List (List LegChange) :=
  (List.range n).map (fun k => vs.map (fun v => ⟨v.1, k, (v.2[k]?).getD 0, v.1, v.1⟩))

/-- An HB or FB lane that is not the trim cell: its commands from `t0` (tick n+1, or that plus a stagger). -/
def Dev.planBase (d : Dev) (l ins t1 t2 t0 : Nat) (e : EdgeLane) : LanePlan :=
  let ty := d.g (F.HCL_PORT_CTRL_CELL_TYPE l)
  let was := e.trim.isSome
  let lost := if was then e.heldCount else 0
  let e := (if was then { e.dropAll with trim := none } else e).forget
  let p := d.finishLane l t1 t2 true none false true e (byLeg (d.legCount l) [(t0, d.mapCmds l (insCmds ty ins))])
  { p with lost := p.lost + lost }

/-- Every switch of an FB lane off, for the last frame of a suppression (R250, R274). -/
def Dev.planOff (d : Dev) (l t1 t2 t0 : Nat) (e : EdgeLane) : LanePlan :=
  d.finishLane l t1 t2 false none false true { e.forget with trim := none }
    (byLeg (d.legCount l) [(t0, [cmdOff, cmdOff, cmdOff, cmdOff])])

/-- The trim cell (R263 to R265): `held` says whether the cell was inserted in frame n. -/
def Dev.planTrim (d : Dev) (l : Nat) (neg held : Bool) (fNum fDen t1 t2 t0 : Nat) (e : EdgeLane) : LanePlan :=
  let ty := d.g (F.HCL_PORT_CTRL_CELL_TYPE l)
  let (on, off) := trimLens fNum fDen (40 * d.g F.EDGE_TRIM_ON_ON) (40 * d.g F.EDGE_TRIM_PMAX_PERIOD)
  let same := match e.trim with
    | some r => r.neg == neg
    | none => false
  let swNow := d.g (F.swap l) + 16 * d.g (F.invert l)
  let restart := !same || e.swapSeen != swNow
  let lost := if e.trim.isSome && !same then e.heldCount else 0
  let e' := if e.trim.isSome && !same then e.dropAll else e
  let e' := if restart then e'.forget else e'
  let (st, b) := match e.trim with
    | some r => if same then (r.start, r.on) else (t0, held)
    | none => (t0, held)
  let run := trimRun on off t1 40 st b
  let vec (x : Nat × Bool) : Nat × List Nat :=
    (x.1, d.mapCmds l (insCmds ty (if x.2 then (if neg then 2 else 1) else 0)))
  let vs := match run with
    | [] => []
    | x :: r => (if restart then (max t0 x.1, (vec x).2) else vec x) :: r.map vec
  let lastIn := (run.filter (fun x => decide (x.1 < t2))).foldl (fun _ x => x) (st, b)
  let hor := ((run.getLast?).map (fun x => min x.1 (t1 + 2 ^ 28))).filter (fun x => decide (t2 ≤ x))
  let p := d.finishLane l t1 t2 true hor false restart { e' with trim := some ⟨lastIn.2, lastIn.1, neg⟩ } (byLeg (d.legCount l) vs)
  { p with lost := p.lost + lost }

/-! ## The DX carrier (R268 to R271) -/

/-- The DX lanes configured on the head, in lane order. -/
def Dev.dxLanes (d : Dev) : List Nat := (List.range 64).filter (fun l => d.b (F.LANE_CFG_USED l) && d.isDx l)

/-- P_cell as a fraction in 250 ps units, before the limit of R269. -/
def Dev.pCell (d : Dev) (nRun : Nat) : Nat × Nat :=
  let p := 40 * d.g F.EDGE_DX_PERIOD_PERIOD
  if d.b F.EDGE_DX_CTRL_SPREAD then (p * nRun, max 1 d.dxLanes.length) else (p, 1)

/-- One pulse that starts at `s` on leg `p`, with its secondary edges when SEC_MODE is SYNC (R268). -/
def Dev.pulse (d : Dev) (s p : Nat) : List LegChange :=
  let w := 40 * d.g F.EDGE_DX_ON_ON
  let dl := 40 * d.g F.EDGE_DX_CTRL_SEC_DELAY
  let ch (t k c : Nat) : LegChange := ⟨t, k, c, s, t⟩
  [ch s p cmdUp, ch (s + w) p cmdDown] ++
    (if d.b F.EDGE_DX_CTRL_SEC_MODE then [ch (s + dl) (2 + p) cmdUp, ch (s + dl + w) (2 + p) cmdDown] else [])

/-- The pulses from the next one on (R271), `n` of them, by start and leg. -/
def pulseStarts (half w : Nat) : Nat → Nat → Bool → List (Nat × Nat)
  | 0, _, _ => []
  | n + 1, s, neg => (s, bit neg) :: pulseStarts half w n (max (s + half) (s + w)) (!neg)

/-- The changes of one leg at or after `t` of a carrier's line, led by the last one before. -/
def lineOf (t k : Nat) (cs : List LegChange) : List LegChange :=
  let mine := cs.filter (fun c => c.leg == k)
  let past := mine.filter (fun c => decide (c.t < t))
  (past.getLast?).toList ++ mine.filter (fun c => decide (t ≤ c.t))

/-- Invert, then swap, of a carrier's line (R275): the changes that each leg of the lane takes. -/
def Dev.mapLine (d : Dev) (l : Nat) (cs : List LegChange) : List (List LegChange) :=
  (List.range 4).map (fun k =>
    let src := if (d.g (F.invert l)).testBit (k / 2) then (if k % 2 = 0 then k + 1 else k - 1) else k
    (cs.filter (fun c => c.leg == src)).map (fun c =>
      let cmd := if (d.g (F.swap l)).testBit k then (if c.cmd = cmdUp then cmdDown else if c.cmd = cmdDown then cmdUp else c.cmd) else c.cmd
      { c with leg := k, cmd := cmd }))

/-- A DX lane whose DSF is to carry RUN 1. -/
def Dev.planDx (d : Dev) (l nRun t1 t2 : Nat) (e : EdgeLane) : LanePlan :=
  let (pn, pd) := d.pCell nRun
  let ton := 40 * d.g F.EDGE_DX_ON_ON
  let (pn, pd) := if pn < 2 * ton * pd then (2 * ton, 1) else (pn, pd)
  let half := (rneDiv pn (2 * pd)).toNat
  let idx := (d.dxLanes.takeWhile (fun x => x != l)).length
  let offs := if d.b F.EDGE_DX_CTRL_INTERLEAVE then (rneDiv (idx * pn) (2 * pd * max 1 d.dxLanes.length)).toNat else 0
  let sec := if d.b F.EDGE_DX_CTRL_SEC_MODE then cmdDown else cmdOff
  let idle : List LegChange := [⟨t1, 0, cmdDown, 0, t1⟩, ⟨t1, 1, cmdDown, 0, t1⟩, ⟨t1, 2, sec, 0, t1⟩, ⟨t1, 3, sec, 0, t1⟩]
  let r := e.dx.getD ⟨t1 + offs, none, t1, false, idle⟩
  let s := match r.lastStart with
    | none => max t1 r.first
    | some x => max t1 (max (x + half) r.lastEnd)
  let starts := pulseStarts half ton 12 s r.nextNeg
  let line := (List.range 4).flatMap (fun k => lineOf t1 k r.line)
  let swNow := d.g (F.swap l) + 16 * d.g (F.invert l)
  let anew := e.dx.isNone || e.swapSeen != swNow
  let p := d.finishLane l t1 t2 true none true anew (if anew then e.forget else e)
    (d.mapLine l (line ++ starts.flatMap (fun x => d.pulse x.1 x.2)))
  let begun := (starts.filter (fun x => decide (x.1 < t2))).takeWhile (fun x => !p.put.contains x.1)
  let r' : DxRun := { r with line := line ++ begun.flatMap (fun x => d.pulse x.1 x.2) }
  let r' := match begun.getLast? with
    | none => r'
    | some x => { r' with lastStart := some x.1, lastEnd := x.1 + ton, nextNeg := x.2 == 0 }
  { p with lane := { p.lane with dx := some r' } }

/-! ## RUN 0 -/

/-- A lane that is sent RUN 0 carries no edges, and its cell holds every switch off from tick n+1 (R143, R256). -/
def EdgeLane.halt (e : EdgeLane) (t1 : Nat) : EdgeLane :=
  let e := (List.range 4).foldl (fun e k => e.legUpd k (fun g =>
    { g with cmd := cmdOff, since := t1, extra := 0, resUp := 0, resDn := 0, defer := [], skip := none,
             offUp := if e.sw.testBit (2 * k) then some t1 else g.offUp,
             offDn := if e.sw.testBit (2 * k + 1) then some t1 else g.offDn })) e
  { e with sw := 0, sent := [], sentEdges := [], owed := [], plan := [], planEdges := [], trim := none, dx := none }

end Sys2Proof.Machine
end

