-- ==== Sys2Proof/Machine/Energize.lean ====
section
/-! DEFINITION. The energization sequence of the lead (chapter *From power-up to first deblock*, R508 to R518). -/
namespace Sys2Proof.Machine

/-! ## What the lead knows of the group -/

/-- The positions admitted (R460); the lead's own is 0. -/
def Dev.admitted (d : Dev) : List Nat := (List.range 8).filter (fun p => p == 0 || (d.g F.LANE_ENUM_ADMITTED).testBit p)

/-- The most recent report of a position. -/
def Dev.reportOf (d : Dev) (p : Nat) : Option Report := mget d.bal.reports p

/-- The lowest admitted position whose report satisfies `q`. -/
def Dev.headWith (d : Dev) (q : Report → Bool) : Option Nat :=
  d.admitted.find? (fun p => match d.reportOf p with
    | some r => q r
    | none => false)

/-- Every admitted head has reported, and satisfies `q`. -/
def Dev.everyHead (d : Dev) (q : Report → Bool) : Bool :=
  d.admitted.all (fun p => match d.reportOf p with
    | some r => q r
    | none => false)

/-- The arms to which lanes of the admitted heads are assigned. Mark: DEDUCED, unsafe (log entry 67). -/
def Dev.armsUsed (d : Dev) : List Nat := [0, 1].filter (fun a => decide (0 < overHeads d.reports (fun r => (r.arm a).lanes)))

/-- The ready cells of an arm over the heads (R510). -/
def Dev.readyOf (d : Dev) (a : Nat) : Nat := overHeads d.reports (fun r => (r.arm a).ready)

/-- Every arm has at least R_a cells by a count (R435, R508). -/
def Dev.armsHave (d : Dev) (n : Nat → Nat) : Bool := [0, 1].all (fun a => decide (d.needed a ≤ n a))

/-! ## The steps (R508) -/

def engCheck : Nat := 1
def engPrecharge : Nat := 2
def engCellsUp : Nat := 3
def engPassive : Nat := 4
def engCharge : Nat := 5
def engResistor : Nat := 6

def Dev.engState (d : Dev) : Nat := d.g F.AV_ENG_STATUS_STATE
def Dev.engStep (d : Dev) : Nat := d.g F.AV_ENG_STATUS_STEP

/-- The timeout of a step in seconds, from its register. -/
def Dev.engSeconds (d : Dev) (step : Nat) : Nat :=
  if step = engPrecharge then d.g F.AV_ENG_TIMEOUT_A_CLOSE
  else if step = engCellsUp then d.g F.AV_ENG_TIMEOUT_A_CELLS
  else if step = engPassive then d.g F.AV_ENG_TIMEOUT_B_PASSIVE
  else if step = engCharge then d.g F.AV_ENG_TIMEOUT_B_CHARGE
  else d.g F.AV_ENG_TIMEOUT_C_RESISTOR

/-- A step starts: its timeout is fixed in frames, and the steps that wait for the host set WAIT_HOST. -/
def Dev.engEnter (d : Dev) (step : Nat) : Dev :=
  let t := max 1 d.periodQ
  let d := { d with eng := { d.eng with frames := 0, limit := (d.engSeconds step * secQ + t - 1) / t, confirm := false } }
  let d := ((d.p F.AV_ENG_STATUS_STEP step).pb F.AV_ENG_STATUS_WAIT_HOST (step == engPrecharge || step == engResistor))
  (d.p F.AV_ENG_STEP_TIME_SECONDS 0).pb F.AV_ENG_CMD_CONFIRM false

/-- The sequence ends in a state with a result. -/
def Dev.engEnd (d : Dev) (state result detail : Nat) : Dev :=
  let d := ((d.p F.AV_ENG_STATUS_STATE state).p F.AV_ENG_STATUS_STEP 0).pb F.AV_ENG_STATUS_WAIT_HOST false
  let d := (d.p F.AV_ENG_STATUS_RESULT result).p F.AV_ENG_STATUS_DETAIL detail
  let d := ((d.pb F.AV_ENG_CMD_START false).pb F.AV_ENG_CMD_CONFIRM false).pb F.AV_ENG_CMD_ABORT false
  { d with eng := { d.eng with confirm := false, abort := false } }

/-- The sequence ends under R511: ABORTED, counted; both arms are held again once RESUME has been named. -/
def Dev.engAbort (d : Dev) (result detail : Nat) : Dev :=
  let d := (d.engEnd 3 result detail).inc F.AV_ENG_ABORT_COUNT
  if !d.red.hold || d.red.resumeAt.isSome then
    { d with red := { d.red with hold := true, resumeAt := none, holdFrames := 0, lateRaised := false },
             eng := { d.eng with holdDue := true } }
  else d

/-- The first condition of R511 that holds: its result and DETAIL. -/
def Dev.engCondition (d : Dev) : Option (Nat × Nat) :=
  if d.eng.abort then some (7, 0)
  else match d.headWith (fun r => r.hold || r.f4) with
    | some p => some (6, p)
    | none => match d.headWith (fun r => !r.so2) with
      | some p => some (2, p)
      | none => match d.headWith (fun r => !r.energize) with
        | some p => some (3, p)
        | none => none

/-- End by a condition of R511; a coolant fault is raised with THERMAL (R366). -/
def Dev.engByCondition (d : Dev) (c : Nat × Nat) : Dev :=
  let d := d.engAbort c.1 c.2
  d.when (c.1 == 3) (fun d => d.raise { src := 0x0707, cls := 1, event := false })

/-- The end condition of a step (R508). -/
def Dev.engEnds (d : Dev) (step : Nat) : Bool :=
  if step = engPrecharge ∨ step = engResistor then d.eng.confirm
  else if step = engCellsUp then d.armsHave d.readyOf
  else if step = engPassive then
    d.armsUsed.all (fun a => decide (fix32 (d.g F.AV_ENG_V_PASSIVE_VOLTS) ≤ (mget d.bal.armCalc a).s))
  else d.armsUsed.all (fun a => decide (fix32 (d.g F.AV_ENG_V_CHARGED_VOLTS) ≤ (mget d.bal.armCalc a).s))

/-- CELLS_UP has ended for the first time: the exemption of R506 ends, and the lanes that it held back are handled. -/
def Dev.endExemption (d : Dev) : Dev :=
  if d.eng.cellsUp then d
  else (List.range 64).foldl (fun d l => d.cellLostAt l) { d with eng := { d.eng with cellsUp := true } }

/-- Go on while the present step's end condition holds (R508): at most `n` steps. -/
def Dev.engAdvance : Nat → Dev → Dev
  | 0, d => d
  | n + 1, d =>
    if d.engState == 1 && decide (2 ≤ d.engStep) && d.engEnds d.engStep then
      if d.engStep = engResistor then d.engEnd 2 1 0
      else
        let d := d.when (d.engStep == engCellsUp) Dev.endExemption
        Dev.engAdvance n (d.engEnter (d.engStep + 1))
    else d

/-- Once the converter is energized, another head's fall of ENERGIZE_OK raises COOLANT_WINDOW at the lead; its cause stays while any head's
ENERGIZE_OK is low (R366). -/
def Dev.engCool (d : Dev) : Dev :=
  let cold := (List.range 8).filter (fun p => match d.reportOf p with
    | some r => !r.energize
    | none => false)
  let fell := cold.any (fun p => p != 0 && !mget d.eng.cold p)
  let d := { d with eng := { d.eng with cold := cold.foldl (fun m p => mset m p true) [] } }
  let d := d.when (fell && d.engState == 2) (fun d => d.raise { src := 0x0707, cls := 1, event := false })
  d.when (d.hasCause 0x0707 0 && d.b F.THM_STATUS_ENERGIZE_OK && cold.isEmpty) (fun d => d.endSource 0x0707)

/-- The lead's work on the sequence in a frame, after the arms are computed: R511 first, then the steps (R508,
R515). -/
def Dev.engFrame (d : Dev) : Dev :=
  let d := (d.p (F.AV_ENG_READY_CELLS 0) (d.readyOf 0)).p (F.AV_ENG_READY_CELLS 1) (d.readyOf 1)
  let d := d.engCool
  if d.engState = 1 ∧ 2 ≤ d.engStep then
    match d.engCondition with
    | some c => d.engByCondition c
    | none => d.engAdvance 5
  else d

/-- Frames in the present step, and the time that shows them, at a tick (R110, R517). -/
def Dev.engTick (d : Dev) : Dev :=
  if d.engState = 1 then
    let n := d.eng.frames + 1
    { d with eng := { d.eng with frames := n } }.p F.AV_ENG_STEP_TIME_SECONDS (min 65535 (n * d.periodQ / secQ))
  else d

/-! ## The commands -/

/-- The check of step CHECK (R508): result and DETAIL of the first failure, in the order of precedence. -/
def Dev.engChecks (d : Dev) : Option (Nat × Nat) :=
  let failing (q : Report → Bool) : Option Nat := d.admitted.find? (fun p => match d.reportOf p with
    | some r => !q r
    | none => true)
  match failing (fun r => r.active) with
  | some p => some (8, p)
  | none => match failing (fun r => r.so2) with
    | some p => some (2, p)
    | none => match failing (fun r => r.energize) with
      | some p => some (3, p)
      | none => match failing (fun r => !r.f4) with
        | some p => some (6, p)
        | none => if d.b F.AV_ENG_CTRL_NEED_LOCK && d.g F.CAD_SYNC_STATE_STATE != 2 then some (9, 0) else none

/-- START (R508, R513). -/
def Dev.engStart (d : Dev) : Dev :=
  if !d.isLead || d.engState == 1 then d
  else if d.engState = 2 then d.inc F.AV_ENG_REFUSE_COUNT
  else
    let d := ((d.p F.AV_ENG_STATUS_STATE 1).pb F.AV_ENG_CMD_START true).inc F.AV_ENG_START_COUNT
    let d := { d with eng := { d.eng with confirm := false, abort := false, frames := 0 } }
    let d := (d.p F.AV_ENG_STATUS_STEP engCheck).p F.AV_ENG_STEP_TIME_SECONDS 0
    match d.engChecks with
    | some c => d.engEnd 3 c.1 c.2
    | none => d.engEnter engPrecharge

/-- CONFIRM (R508, R513): taken in the lead's work of the frame. Mark: DEDUCED, unsafe (log entry 96). -/
def Dev.engConfirm (d : Dev) : Dev :=
  if !d.isLead then d
  else if d.b F.AV_ENG_STATUS_WAIT_HOST then { d with eng := { d.eng with confirm := true } }.pb F.AV_ENG_CMD_CONFIRM true
  else d.inc F.AV_ENG_REFUSE_COUNT

/-- ABORT (R511): taken in the lead's work of the frame. -/
def Dev.engAbortCmd (d : Dev) : Dev :=
  if d.isLead && d.engState == 1 then { d with eng := { d.eng with abort := true } }.pb F.AV_ENG_CMD_ABORT true else d

/-- DISCHARGED (R513). -/
def Dev.engDischarged (d : Dev) : Dev :=
  if !d.isLead then d
  else if (d.engState == 2 || d.engState == 3) &&
      ((d.b F.PROT_STATUS_LATCHED0 && d.b F.PROT_STATUS_LATCHED1) || d.red.hold) then d.p F.AV_ENG_STATUS_STATE 0
  else d.inc F.AV_ENG_REFUSE_COUNT

/-- The timeout of the present step passes (R508, R511): a condition of R511 or the step's end comes first. -/
def Dev.engTimeout (d : Dev) : Dev :=
  if d.isLead && d.engState == 1 && decide (2 ≤ d.engStep) && decide (d.eng.limit ≤ d.eng.frames) then
    match d.engCondition with
    | some c => d.engByCondition c
    | none =>
      if d.engEnds d.engStep then d.engAdvance 5
      else if d.engStep = engCellsUp then
        d.engAbort 5 (bit (decide (d.readyOf 0 < d.needed 0)) + 2 * bit (decide (d.readyOf 1 < d.needed 1)))
      else d.engAbort 4 d.engStep
  else d

end Sys2Proof.Machine
end

