-- ==== Sys2Proof/Machine/Lanes.lean ====
section
/-! DEFINITION. The lane fabric (chapter *Lane fabric: training, span transport and the uplink*): lane settings,
training (R447 to R452), power states (R453, R454), enumeration (R28, R460), the uplinks (R461 to R463), and patterns
and injection (R464 to R466). Lane indices are those of R439. -/
namespace Sys2Proof.Machine

/-! ## Training states -/

/-- Training states of LANE_STATE. -/
def trNone : Nat := 0
def trDetect : Nat := 1
def trAlign : Nat := 2
def trCheck : Nat := 3
def trReady : Nat := 4
def trUp : Nat := 5
def trTest : Nat := 6

def Dev.tr (d : Dev) (i : Nat) : Nat := d.g (F.LANE_STATE_TRAIN i)
def Dev.powerOf (d : Dev) (i : Nat) : Nat := d.g (F.LANE_STATE_POWER_STATE i)
def Dev.laneTrain (d : Dev) (i : Nat) : LaneTrain := mget d.fab.train i
def Dev.laneTrainUpd (d : Dev) (i : Nat) (f : LaneTrain → LaneTrain) : Dev :=
  { d with fab := { d.fab with train := mupd d.fab.train i f } }

/-- RED_STATE is WAKING or ACTIVE (R454, R465). -/
def Dev.inService (d : Dev) : Bool := d.redState == 2 || d.redState == 3

/-! ## The uplinks (R461) -/

/-- Everything that waits on an uplink leaves while its lane is UP. Mark: DESIGN CHOICE, unsafe (log entry 107). -/
def Dev.ulDrain (d : Dev) (i : Nat) : Dev :=
  if d.laneUp i then
    let d := (mget d.fab.ulq i).foldl (fun d m => d.emit (.uplink i m.1 m.2)) d
    { d with fab := { d.fab with ulq := mset d.fab.ulq i [] } }
  else d

/-- Queue a message on an uplink: the queue holds 32, and the oldest is discarded for a new one. -/
def Dev.ulQueue (d : Dev) (i ty : Nat) (words : List Nat) : Dev :=
  let q := mget d.fab.ulq i
  let d := d.when (decide (32 ≤ q.length)) (fun d => d.inc F.UL_DROP_COUNT)
  let q := (if 32 ≤ q.length then q.drop 1 else q) ++ [(ty, words)]
  { d with fab := { d.fab with ulq := mset d.fab.ulq i q } }.ulDrain i

/-- A message on both uplinks. -/
def Dev.uplink (d : Dev) (ty : Nat) (words : List Nat) : Dev := (d.ulQueue 70 ty words).ulQueue 71 ty words

/-- SEQ of the newest fault record (R462). -/
def Dev.newestSeq (d : Dev) : Nat := (d.prot.seq + 2 ^ 32 - 1) % 2 ^ 32

/-- The STATION message (R461, R462), at a tick whose frame number is a multiple of PERIOD. -/
def Dev.station (d : Dev) : Dev :=
  let p := d.g F.UL_CTRL_PERIOD
  if d.cad.started && d.ticking && decide (1 ≤ p) && decide (d.cad.frame % p = 0) then
    let st (f : Fld) (n : Nat) : Nat := d.g f * 2 ^ n
    let prot := st F.PROT_STATUS_LATCHED0 0 + st F.PROT_STATUS_LATCHED1 1 + st F.PROT_STATUS_DCSIDE 2 +
      st F.PROT_STATUS_HOLD 3 + st F.PROT_STATUS_TRIPPED 4 + st F.PROT_STATUS_DERATE 5 + st F.PROT_STATUS_WARN 6 +
      st F.PROT_STATUS_HOST_HELD 7 + st F.PROT_STATUS_REASON 8 + st F.PROT_STATUS_ORIGIN 12
    let thm := st F.THM_STATUS_BROKEN 0 + st F.THM_STATUS_ACTIVE 16 + st F.THM_STATUS_AT_FLOOR 17 +
      st F.THM_STATUS_NV_OK 18 + st F.THM_STATUS_ENERGIZE_OK 19 + st F.THM_STATUS_WARN 20 + st F.THM_STATUS_SHUTDOWN 21
    let n := if d.isLead then (mget d.bal.armCalc 0).bigN % 1024 + (mget d.bal.armCalc 1).bigN % 1024 * 2 ^ 16 else 0
    d.uplink 0x10 [d.cad.frame, d.cad.epoch + d.redState * 2 ^ 16 + st F.SAF_STATE_STATE 20,
      d.tickGlobal / 2 ^ 32, d.tickGlobal % 2 ^ 32, prot, thm, d.newestSeq, n]
  else d

/-- A fault record goes to the uplinks when FAULTS is set (R461). -/
def Dev.faultMessage (d : Dev) (r : FaultRec) : Dev :=
  if d.b F.UL_CTRL_FAULTS then d.uplink 0x11 (recordWords d r) else d

/-- The fault engine takes an entry from a queue (R344 to R347), and the record goes to the uplinks. -/
def Dev.faultEngine (d : Dev) : Dev :=
  match d.engineTake with
  | (some r, d) => d.faultMessage r
  | (none, d) => d

/-! ## Span state -/

def Dev.showSpan (d : Dev) : Dev :=
  (d.p F.LANE_SPAN_STATE_EAST_UP (d.bundleUp 0)).p F.LANE_SPAN_STATE_WEST_UP (d.bundleUp 1)

/-! ## Leaving and reaching UP -/

/-- What follows when a lane is no longer UP (R138, R171, R451, R454, R461, R572). -/
def Dev.laneLeft (d : Dev) (i : Nat) : Dev :=
  let d := d.pb (F.LANE_STATE_LANE_UP i) false
  let d := d.probeReset i
  if i < 64 then
    let d := d.pb (F.HCL_PORT_STATE_LINK_UP i) false
    let d := d.portUpd i (fun p => { p.spoil with got := false, boot := p.boot })
    let d := (d.endLane i resLaneLost).clUpd i (fun c => { c with seen := false })
    d.showPort i
  else if i < 70 then
    let d := (d.raise { src := 0x0A02, cls := 1, detail := i, event := false }).showSpan
    d.when (d.isLead && decide (d.bundleUp (bundleOf i) = 0)) (fun d =>
      d.raise { src := 0x010C, cls := 1, detail := bundleOf i, event := false })
  else d.raise { src := 0x0A03, cls := 1, detail := i, event := false }

/-- A lane reaches UP (R447): LANE_UP, LINK_UP of a cell lane, and the ends of the faults that its absence raised. -/
def Dev.laneReached (d : Dev) (i : Nat) : Dev :=
  let d := (d.p (F.LANE_STATE_TRAIN i) trUp).pb (F.LANE_STATE_LANE_UP i) true
  let d := d.laneTrainUpd i (fun _ => default)
  let d := ((d.endCause 0x0A04 i).endCause 0x0A01 i)
  if i < 64 then
    ((d.pb (F.HCL_PORT_STATE_LINK_UP i) true).portUpd i (fun p => { p with ever := true })).showPort i
  else if i < 70 then (((d.endCause 0x0A02 i).endCause 0x010C (bundleOf i)).showSpan).spanDrain (bundleOf i)
  else (d.endCause 0x0A03 i).ulDrain i

/-- A training attempt starts in a state (R447): polarity and what CHECK has counted begin anew. -/
def Dev.attempt (d : Dev) (i st : Nat) : Dev :=
  let d := (d.p (F.LANE_STATE_TRAIN i) st).laneTrainUpd i (fun t => { t with good := 0, said := 0, ready := 0 })
  if st = trDetect then d.pb (F.LANE_STATE_RX_INVERTED i) false else d

/-- Leave whatever state the lane is in for another one that is not UP. -/
def Dev.laneTo (d : Dev) (i st : Nat) : Dev :=
  let d := d.when (d.laneUp i) (fun d => d.laneLeft i)
  d.attempt i st

/-! ## Power (R453, R454) -/

/-- Put a lane in a power state. -/
def Dev.laneSetPower (d : Dev) (i v : Nat) : Dev :=
  let was := d.powerOf i
  let d := d.p (F.LANE_STATE_POWER_STATE i) v
  if v = was then d
  else if v = 0 then
    if 1 ≤ d.g (F.LANE_TEST_MODE i) then d.p (F.LANE_STATE_TRAIN i) trTest
    else if was = 1 then d.attempt i trAlign
    else if mget d.fab.pll (pllGroup i) then d.attempt i trDetect
    else d.p (F.LANE_STATE_TRAIN i) trNone
  else
    let d := d.laneTo i trNone
    let d := d.when (v == 2 && !isSpan i) (fun d => d.pb (F.LANE_STATE_SIGNAL i) false)
    if (List.range 72).all (fun j => pllGroup j != pllGroup i || d.powerOf j == 2) then
      { d with fab := { d.fab with pll := mset d.fab.pll (pllGroup i) false } }
    else d

/-- A host write of POWER (R454). -/
def Dev.lanePower (i v : Nat) (d : Dev) : Dev :=
  let v := v % 4
  if 72 ≤ i ∨ v = 3 then d
  else if (!isCell i && d.inService && decide (1 ≤ v)) || (!d.b (F.LANE_CFG_USED i) && decide (v ≤ 1)) then
    d.inc (F.LANE_POWER_REFUSE_COUNT i)
  else (d.p (F.LANE_CTRL_POWER i) v).laneSetPower i v

/-- On entering DORMANT the head shuts every lane itself (R416, R454). -/
def Dev.shutLanes (d : Dev) : Dev := (List.range 72).foldl (fun d i => d.laneSetPower i 2) d

/-- On waking it opens every configured lane, and POWER then reads OPEN (R430, R454). -/
def Dev.openLanes (d : Dev) : Dev :=
  ((List.range 72).filter (fun i => d.b (F.LANE_CFG_USED i))).foldl (fun d i =>
    (d.p (F.LANE_CTRL_POWER i) 0).laneSetPower i 0) d

/-! ## Training -/

/-- The PLL of a lane's group locks (R447, R453): every lane of the group that is OPEN and waits starts at DETECT. -/
def Dev.pllLock (i : Nat) (d : Dev) : Dev :=
  if 72 ≤ i ∨ d.powerOf i = 2 ∨ mget d.fab.pll (pllGroup i) = true then d
  else
    let d := { d with fab := { d.fab with pll := mset d.fab.pll (pllGroup i) true } }
    ((List.range 72).filter (fun j => pllGroup j == pllGroup i && d.powerOf j == 0 && d.tr j == trNone)).foldl
      (fun d j => d.attempt j trDetect) d

/-- The signal detector sees a signal (R447): DETECT ends. -/
def Dev.signalDetect (i : Nat) (d : Dev) : Dev :=
  if 72 ≤ i then d
  else
    let d := d.pb (F.LANE_STATE_SIGNAL i) true
    if d.tr i = trDetect then d.p (F.LANE_STATE_TRAIN i) trAlign else d

/-- CDR and alignment complete (R447): ALIGN ends. -/
def Dev.alignLock (i : Nat) (d : Dev) : Dev :=
  if i < 72 ∧ d.tr i = trAlign then
    (d.p (F.LANE_STATE_TRAIN i) trCheck).laneTrainUpd i (fun t => { t with good := 0, said := 0 })
  else d

/-- The role that a lane expects (R449). -/
def expectRole (i : Nat) : Nat := if i < 64 then 2 else if i < 67 then 4 else if i < 70 then 3 else 6

/-- The index that a span lane's peer said, for a lane in CHECK or beyond that has accepted a TRAIN (R450). -/
def Dev.peerIndex (d : Dev) (i : Nat) : Option Nat :=
  if trCheck ≤ d.tr i ∧ d.tr i ≤ trUp ∧ (1 ≤ (d.laneTrain i).good ∨ trReady ≤ d.tr i) then
    some (d.g (F.LANE_STATE_PEER_LANE i) % 4)
  else none

/-- The order of a bundle (R450): some false is direct, some true reversed, none miswired. -/
def Dev.bundleOrder (d : Dev) (b : Nat) : Option Bool :=
  let base := if b = 0 then 64 else 67
  let said := (List.range 3).filterMap (fun j => (d.peerIndex (base + j)).map (fun x => (j, x)))
  if said.all (fun x => x.1 == x.2) then some false
  else if said.all (fun x => 2 - x.1 == x.2) then some true
  else none

/-- SPAN_MISWIRE, once for the lane until it is next UP (R449). -/
def Dev.miswire (d : Dev) (i : Nat) : Dev :=
  if (d.laneTrain i).wireRaised then d
  else (d.laneTrainUpd i (fun t => { t with wireRaised := true })).raise { src := 0x0A01, cls := 1, detail := i, event := false }

/-- RATE_MISMATCH, once for the lane until it is next UP (R449). -/
def Dev.rateMismatch (d : Dev) (i : Nat) : Dev :=
  if (d.laneTrain i).rateRaised then d
  else (d.laneTrainUpd i (fun t => { t with rateRaised := true })).raise { src := 0x0A04, cls := 1, detail := i, event := false }

/-- A good TRAIN in CHECK (R447 to R450). -/
def Dev.trainCheck (d : Dev) (i role lane rates : Nat) : Dev :=
  let said := role * 2 ^ 16 + lane * 2 ^ 8 + rates
  let t := d.laneTrain i
  let n := if t.said = said ∧ 1 ≤ t.good then t.good + 1 else 1
  let d := d.laneTrainUpd i (fun t => { t with good := n, said := said })
  let roleOk := role == expectRole i && (!isSpan i || lane / 32 % 2 == d.unit)
  let rateOk := rates.testBit (d.g (F.LANE_CFG_RATE i))
  if !roleOk || !rateOk then
    let d := d.pb (F.LANE_STATE_MISMATCH i) true
    let d := d.when (!rateOk) (fun d => d.rateMismatch i)
    d.when (!roleOk && isSpan i) (fun d => d.miswire i)
  else if isSpan i then
    match d.bundleOrder (bundleOf i) with
    | none => (d.pb (F.LANE_STATE_MISMATCH i) true).miswire i
    | some rev =>
      let b := bundleOf i
      let d := d.pb (if b = 0 then F.LANE_SPAN_STATE_EAST_REVERSED else F.LANE_SPAN_STATE_WEST_REVERSED) rev
      let d := (bundleLanes b).foldl (fun d j => d.pb (F.LANE_STATE_REVERSED j) rev) d
      let d := d.pb (F.LANE_STATE_MISMATCH i) false
      if 8 ≤ n then d.p (F.LANE_STATE_TRAIN i) trReady else d
  else
    let d := d.pb (F.LANE_STATE_MISMATCH i) false
    if 8 ≤ n then d.p (F.LANE_STATE_TRAIN i) trReady else d

/-- A TRAIN arrives on lane `i` (R446 to R451): its content, and whether it passes only with every bit complemented
(R448). A bad one restarts the count of CHECK. The lane sends one TRAIN for each that it receives, as the two ends send back to back. -/
def Dev.takeTrain (d : Dev) (i : Nat) (content : List Byte) (inverted : Bool) : Dev :=
  if !(content.length == 6 && orderedOk 0x78 content) then
    (d.laneTrainUpd i (fun t => { t with good := 0 })).lineError i
  else if inverted then
    if d.tr i = trCheck then
      let inv := !d.b (F.LANE_STATE_RX_INVERTED i)
      ((d.pb (F.LANE_STATE_RX_INVERTED i) inv).inc (F.LANE_POLARITY_COUNT i)).laneTrainUpd i (fun t => { t with good := 0 })
    else d.lineError i
  else
    let role := beAt content 0 1
    let lane := beAt content 1 1
    let st := beAt content 2 1
    let rates := beAt content 3 1 % 16
    let d := ((d.p (F.LANE_STATE_PEER_LANE i) lane).p (F.LANE_STATE_PEER_RATES i) rates).p (F.LANE_STATE_PEER_ROLE i) role
    if d.tr i = trUp then (d.laneTo i trDetect).inc (F.LANE_DOWN_COUNT i)
    else if d.tr i = trCheck then d.trainCheck i role lane rates
    else
      let d := d.laneTrainUpd i (fun t => { t with ready := t.ready + 1 })
      if 4 ≤ (d.laneTrain i).ready ∧ 4 ≤ st then d.laneReached i else d

/-- What reaches lane `i`, complemented when `inverted`, where a TRAIN may be. A lane that is not OPEN receives nothing, one in test mode
only the pattern (R453, R465), and one in DETECT or ALIGN reads nothing yet (R447). Mark: DEDUCED, safe (log entry 106). -/
def Dev.train (i : Nat) (line : Line) (inverted : Bool) (d : Dev) : Dev :=
  if 72 ≤ i ∨ d.powerOf i ≠ 0 ∨ d.tr i = trTest then d
  else
    let d := d.heard i line
    if d.tr i < trCheck then d
    else match d.got i line with
      | .ordered 0x78 content => d.takeTrain i content inverted
      | _ => d.other i line

/-- An attempt reaches its limit of 250 us (R447). -/
def Dev.attemptLimit (i : Nat) (d : Dev) : Dev :=
  if i < 72 ∧ d.powerOf i = 0 ∧ trDetect ≤ d.tr i ∧ d.tr i < trUp then
    (d.attempt i trDetect).inc (F.LANE_TRAIN_FAIL_COUNT i)
  else d

/-- A lane that is UP loses its signal (`errors` 0), or fails by code errors, which are counted (R451). -/
def Dev.laneDown (i errors : Nat) (d : Dev) : Dev :=
  if i < 72 ∧ d.tr i = trUp then
    let d := d.addTo (F.LANE_CODE_ERR_COUNT i) errors
    let d := d.when (isCell i) (fun d => d.addTo (F.HCL_LINE_ERR_COUNT i) errors)
    let d := d.when (errors == 0) (fun d => d.pb (F.LANE_STATE_SIGNAL i) false)
    (d.laneTo i trDetect).inc (F.LANE_DOWN_COUNT i)
  else d

/-! ## Settings and tests -/

/-- A host write of LANE_EQ (R444). -/
def Dev.laneEq (i v : Nat) (d : Dev) : Dev :=
  let pre := bits v 11 8
  let post := bits v 20 16
  if 72 ≤ i ∨ 32 < pre + post ∨ 16 < bits v 28 24 then d
  else (((d.p (F.LANE_EQ_CTLE i) (bits v 3 0)).p (F.LANE_EQ_PRE i) pre).p (F.LANE_EQ_POST i) post).p
    (F.LANE_EQ_SWING i) (bits v 28 24)

/-- A host write of MODE (R465). -/
def Dev.modeWrite (i v : Nat) (d : Dev) : Dev :=
  let v := v % 4
  if 72 ≤ i then d
  else if 1 ≤ v ∧ ((isCell i = true ∧ d.b (F.HCL_PORT_CTRL_ENABLE i) = true) ∨ (isCell i = false ∧ d.inService = true)) then
    d.inc (F.LANE_TEST_REFUSE_COUNT i)
  else
    let was := d.g (F.LANE_TEST_MODE i)
    let d := d.p (F.LANE_TEST_MODE i) v
    let d := (d.pb (F.LANE_TEST_CHK_LOCK i) false).pb (F.LANE_TEST_CHK_INVERTED i) false
    if v = was ∨ d.powerOf i ≠ 0 then d
    else if v = 0 then d.laneTo i trDetect
    else if was = 0 then d.laneTo i trTest else d

/-- The checker locks (R464). -/
def Dev.checkerLock (i : Nat) (inverted : Bool) (d : Dev) : Dev :=
  if i < 72 ∧ 2 ≤ d.g (F.LANE_TEST_MODE i) ∧ d.tr i = trTest then
    (d.pb (F.LANE_TEST_CHK_LOCK i) true).pb (F.LANE_TEST_CHK_INVERTED i) inverted
  else d

/-- The checker loses lock after comparing `kbits` times 1,024 bits with `wrong` of them wrong (R464). -/
def Dev.checkerLoss (i wrong kbits : Nat) (d : Dev) : Dev :=
  if i < 72 ∧ d.b (F.LANE_TEST_CHK_LOCK i) = true then
    let d := (d.addTo (F.LANE_PRBS_ERR_COUNT i) wrong).addTo (F.LANE_PRBS_KBIT_COUNT i) kbits
    (d.pb (F.LANE_TEST_CHK_LOCK i) false).inc (F.LANE_CHK_LOSS_COUNT i)
  else d

/-- INJECT_ONE and INJECT_BURST (R466): the injection is made and its CMD bit has cleared. Mark: DESIGN CHOICE, unsafe (log entry 20). -/
def Dev.injectOne (i : Nat) (d : Dev) : Dev :=
  if i < 72 then (d.pb (F.LANE_TEST_INJECT_ONE i) false).inc (F.LANE_INJECT_COUNT i) else d
def Dev.injectBurst (i : Nat) (d : Dev) : Dev :=
  if i < 72 then (d.pb (F.LANE_TEST_INJECT_BURST i) false).inc (F.LANE_INJECT_COUNT i) else d

/-! ## Enumeration (R28, R460) -/

/-- The lead itself is admitted; a group of one head needs no enumeration. -/
def Dev.enumStart (d : Dev) : Dev :=
  if d.isLead then
    let d := d.p F.LANE_ENUM_ADMITTED 1
    if d.conf.heads ≤ 1 then (d.p F.LANE_ENUM_RING 1).pb F.LANE_ENUM_DONE true else d
  else d

/-- The lead sends ENUM (R460): the admitted positions and the ring count. -/
def Dev.enumSend (d : Dev) : Dev :=
  if d.isLead && !d.b F.LANE_ENUM_DONE && decide (1 ≤ d.bundleUp 0 + d.bundleUp 1) then
    d.spanSend (.span spEnum 8 [d.g F.LANE_ENUM_ADMITTED, d.g F.LANE_ENUM_RING])
  else d

/-- A head receives ENUM (R460): it answers, and takes the admission state that it carries. -/
def Dev.enumTake (h : SpanHdr) (admitted ring : Nat) (done spectator : Bool) (d : Dev) : Dev :=
  let (ok, d) := d.spanTake spEnum h
  if ok && !d.isLead then
    let d := ((d.p F.LANE_ENUM_ADMITTED admitted).p F.LANE_ENUM_RING ring).pb F.LANE_ENUM_DONE done
    let d := d.pb F.LANE_ENUM_SPECTATOR spectator
    d.spanSend (.span spEnumReply 0 [d.pos, d.unit, d.unit])
  else d

/-- The lead receives an ENUM_REPLY (R28, R460): the head at that place in the ring is admitted or refused, once. A
head admitted after the claim was named waits for it (R505). Mark: DEDUCED, unsafe (log entry 92). -/
def Dev.enumReply (h : SpanHdr) (position : Nat) (d : Dev) : Dev :=
  let (ok, d) := d.spanTake spEnumReply h
  let idx := h.hops + 1
  if !(ok && d.isLead) then d
  else match mget d.fab.ring idx with
    | some _ => d
    | none =>
      let adm := d.g F.LANE_ENUM_ADMITTED
      let refuse := decide (d.conf.heads ≤ position) || adm.testBit position || decide (8 ≤ idx)
      let who : Option Nat := if refuse then none else some position
      let d := { d with fab := { d.fab with ring := mset d.fab.ring idx (some who) } }
      let d := d.p F.LANE_ENUM_RING (d.fab.ring.length + 1)
      if refuse then (d.inc F.LANE_SPECTATOR_COUNT).raise { src := 0x0A06, cls := 0, detail := idx }
      else
        let adm := setBit adm position
        let d := (d.p F.LANE_ENUM_ADMITTED adm).pb F.LANE_ENUM_DONE (popCount 8 adm == d.conf.heads)
        d.when (d.redState == 3 || d.red.claimAt.isSome) (fun d =>
          { d with fab := { d.fab with late := d.fab.late ++ [position] } })

/-! ## SHUTTER on an uplink (R463) -/

def Dev.takeUlShutter (d : Dev) (i : Nat) (content : List Byte) : Dev :=
  if d.b F.UL_CTRL_SHUTTER_IN && content.length == 6 && orderedOk 0xE1 content then
    (d.inc F.UL_SHUTTER_COUNT).raise { src := 0x0A05, cls := 3, detail := i, event := false }
  else d.inc (F.LANE_CODE_ERR_COUNT i)

/-- What reaches an uplink, where a SHUTTER may be: anything but IDLE, TRAIN and SHUTTER is discarded and counted in
LANE_CODE_ERR_COUNT. -/
def Dev.ulShutter (i : Nat) (line : Line) (d : Dev) : Dev :=
  if !isUplink i then d
  else
    let d := d.heard i line
    match d.got i line with
    | .ordered 0xE1 content => d.takeUlShutter i content
    | .ordered ty _ => if mayCome i ty then d else d.inc (F.LANE_CODE_ERR_COUNT i)
    | .run _ => d.inc (F.LANE_CODE_ERR_COUNT i)
    | .malformed => if line.bads = 0 then d.inc (F.LANE_CODE_ERR_COUNT i) else d

/-- 1 ms without such a SHUTTER ends the cause. -/
def Dev.ulShutterClear (d : Dev) : Dev := if d.prot.causes.any (fun c => c.src == 0x0A05) then d.endSource 0x0A05 else d

/-! ## What the lanes carry (R115 to R117, R132, R133, R138, R447) -/

/-- ROLE and LANE of the TRAIN that a lane sends (R446). -/
def Dev.trainRole (i : Nat) : Nat := if i < 64 then 1 else if i < 67 then 3 else if i < 70 then 4 else 5
def Dev.trainLane (d : Dev) (i : Nat) : Nat :=
  if i < 64 then i else if i < 70 then (i - 64) % 3 + 4 * (d.pos % 8) + 32 * d.unit else i - 70

/-- RATES of a head's TRAIN (R187, R446): the lane's own rate and what else the head can do. -/
def Dev.trainRates (d : Dev) (i : Nat) : Nat := (Config.otherRates i % 16) ||| 2 ^ d.g (F.LANE_CFG_RATE i)

/-- The content of the TRAIN that a lane sends in its state (R446). -/
def Dev.trainContent (d : Dev) (i : Nat) : List Byte :=
  sealOrdered osTrain (be 1 (Dev.trainRole i) ++ be 1 (d.trainLane i) ++ be 1 (d.tr i) ++ be 1 (d.trainRates i) ++ be 1 0)

/-- What a lane sends while it has neither a frame nor another ordered set to send: IDLE once it is UP (R132), whether or not it is used;
TRAIN and one IDLE, back to back, while it trains (R138, R447); nothing where it is not OPEN, waits for its PLL, or carries a pattern
(R453, R465). -/
def Dev.laneFill (d : Dev) (i : Nat) : Option Line :=
  let r := d.g (F.LANE_CFG_RATE i)
  if 72 ≤ i ∨ d.powerOf i ≠ 0 ∨ d.tr i = trNone ∨ d.tr i = trTest then none
  else if d.tr i = trUp then some (idleLine r)
  else some ((setLine r osTrain (d.trainContent i)).then (idleLine r))

/-- A frame and its bulk segments, with the IDLE before and behind that separate it (R117, R124). -/
def Dev.lineFrame (d : Dev) (i : Nat) (bytes : List Byte) : Line :=
  let r := d.g (F.LANE_CFG_RATE i)
  ((idleLine r).then (frameLine r bytes)).then (idleLine r)

/-- An ordered set behind an IDLE, and the IDLE that follows it (R131, R132). -/
def Dev.lineSet (d : Dev) (i ty : Nat) (content : List Byte) : Line :=
  let r := d.g (F.LANE_CFG_RATE i)
  ((idleLine r).then (setLine r ty content)).then (idleLine r)

/-- Four SHUTTERs back to back, then IDLE (R127, R133). -/
def Dev.lineShutter (d : Dev) (i claim source : Nat) : Line :=
  let r := d.g (F.LANE_CFG_RATE i)
  let s := setLine r osShutter (sealOrdered osShutter (be 4 claim ++ be 1 source))
  (((s.then s).then s).then s).then (idleLine r)

/-- The lanes that carry a SHUTTER: those that are OPEN and carry no pattern, trained or not (R447, R452, R465). -/
def Dev.shutterLanes (d : Dev) (is : List Nat) : List Nat := is.filter (fun i => (d.laneFill i).isSome)

/-- What something that the head sends puts on its lanes. -/
def Dev.lineOut (d : Dev) (o : Out) : List (Nat × Line) :=
  match o with
  | .dsf l bytes bulk => [(l, d.lineFrame l (bytes ++ bulk.flatten))]
  | .idle l => [(l, idleLine (d.g (F.LANE_CFG_RATE l)))]
  | .shutter claim source => (d.shutterLanes (List.range 64)).map (fun i => (i, d.lineShutter i claim source))
  | .spanShutter claim source => (d.shutterLanes [64, 65, 66, 67, 68, 69]).map (fun i => (i, d.lineShutter i claim source))
  | .ordered i ty content => [(i, d.lineSet i ty content)]
  | _ => []

end Sys2Proof.Machine
end

