-- ==== Sys2Proof/Machine/Protect.lean ====
section
/-! DEFINITION. Protection (chapter *Protection and fault handling*): the hard and soft comparators (R314 to R319),
DC-side classification (R322, R323), release of the latches at a head (R326), host commands (R327, R328, R341, R347),
and the substitution of a failed arm-current sensor (R334 to R338). -/
namespace Sys2Proof.Machine

/-! ## Channels -/

def Dev.chan (d : Dev) (k : Nat) : Chan := mget d.prot.chan k

/-- The class that a PROT_CFG bit selects: F3 or F4 (R351). -/
def Dev.classOf (d : Dev) (f : Fld) : Nat := if d.b f then 4 else 3

/-- The arm of a channel of role ARM0 or ARM1, as an arm mask. -/
def Dev.chanArms (d : Dev) (k : Nat) : Nat := if d.role k = 1 then 1 else if d.role k = 2 then 2 else 0

/-- The threshold at which a hard comparator operates (R314). -/
def Dev.hardHi (d : Dev) (k : Nat) : Option Int :=
  let v := d.gs (F.PROT_HARD_HI k)
  if v = 32767 then none else some (v + clampInt (Config.hardTol k true) (-128) 128)
def Dev.hardLo (d : Dev) (k : Nat) : Option Int :=
  let v := d.gs (F.PROT_HARD_LO k)
  if v = -32768 then none else some (v + clampInt (Config.hardTol k false) (-128) 128)

/-- Which side of the hard window an input lies beyond: true for HI. -/
def Dev.beyondHard (d : Dev) (k : Nat) (x : Int) : Option Bool :=
  let above := match d.hardHi k with | some h => decide (h < x) | none => false
  let below := match d.hardLo k with | some l => decide (x < l) | none => false
  if above then some true else if below then some false else none

/-- Which side of the soft window a code lies beyond (R316). -/
def Dev.beyondSoft (d : Dev) (k : Nat) (x : Int) : Option Bool :=
  if d.gs (F.PROT_SOFT_HI k) < x then some true
  else if x < d.gs (F.PROT_SOFT_LO k) then some false else none

/-- Inside a blanking window of the channel (R317). -/
def Dev.blanked (d : Dev) (k t : Nat) : Bool :=
  (d.role k == 1 || d.role k == 2) &&
  (d.chan k).changes.any (fun c => decide (c ≤ t) && decide (t < c + d.g (F.PROT_SOFT_CTRL_BLANK k) * 40))

/-! ## DC-side classification -/

/-- Two roles that R322 pairs: the two arms, or an arm and a partner. -/
def dcPair (a b : Nat) : Bool :=
  (a == 1 && b == 2) || (a == 2 && b == 1) || ((a == 1 || a == 2) && b == 3) || (a == 3 && (b == 1 || b == 2))

/-- Does a detection lie no more than PROT_DCS_WINDOW from another, and on the same side where SAME_SIGN asks it
(R322)? -/
def Dev.dcNear (d : Dev) (x : Det) (o : Option Det) : Bool :=
  match o with
  | none => false
  | some y =>
    decide ((max x.t y.t) - (min x.t y.t) ≤ d.g F.PROT_DCS_WINDOW_WINDOW * 40) &&
    (!d.b F.PROT_CFG_SAME_SIGN || x.hi == y.hi)

/-- Does a detection pair with one of another channel (R322)? -/
def Dev.dcMatch (d : Dev) (k : Nat) (x : Det) (j : Nat) : Bool :=
  j != k && dcPair (d.role k) (d.role j) && (d.dcNear x (d.chan j).hard || d.dcNear x (d.chan j).soft)

/-- The channel of the later detection of a pair (R343): `k`, unless the paired one of `j` came after. -/
def Dev.dcLater (d : Dev) (k : Nat) (x : Det) (j : Nat) : Nat :=
  let after (o : Option Det) : Bool := d.dcNear x o && (match o with | some y => decide (x.t < y.t) | none => false)
  if after (d.chan j).hard || after (d.chan j).soft then j else k

/-- DC-side classification after a detection on channel `k` with current `value` (R322, R323): the fault, DCSIDE, and
a further Shutter request with reason 2. Mark: DEDUCED, unsafe (log entry 145). -/
def Dev.dcSide (d : Dev) (k : Nat) (x : Det) (value : Nat) : Dev :=
  if d.prot.causes.any (fun c => c.src == 0x0603) then d
  else
    match (List.range 16).find? (d.dcMatch k x) with
    | some j =>
      d.raise { src := 0x0603, cls := d.classOf F.PROT_CFG_DCS_CLASS, detail := d.dcLater k x j, arms := 3, extra := 0x40,
                value := value, reason := reasonDc, event := false }
    | none => d

/-! ## The comparators -/

/-- The DC_SIDE cause of a channel ends when its input lies inside both windows (R576). -/
def Dev.dcEnd (d : Dev) (k : Nat) : Dev :=
  if !d.b (F.PROT_CH_STATE_HARD k) && !d.b (F.PROT_CH_STATE_SOFT k) && d.hasCause 0x0603 k then d.endCause 0x0603 k
  else d

/-- The current that a code of channel `k` stands for, binary32 (R285, R345). -/
def Dev.codeValue (d : Dev) (k : Nat) (code : Int) : Nat := d.scaled k code 1

/-- The input of channel `k`, as a code, passes the hard comparator at time `t` (R314, R315): the comparator operates
when it goes beyond a level, and its output follows the input. -/
def Dev.hardOc (k : Nat) (code : Int) (t : Nat) (d : Dev) : Dev :=
  if 16 ≤ k then d
  else
    let d := d.at t
    match d.beyondHard k code with
    | some hi =>
      if d.b (F.PROT_CH_STATE_HARD k) then d
      else
        let x : Det := ⟨d.cad.now, hi⟩
        let d := (d.pb (F.PROT_CH_STATE_HARD k) true).inc (F.PROT_HARD_COUNT k)
        let d := d.chanUpd k (fun c => { c with hard := some x })
        let d := d.raise { src := 0x0601, cls := d.classOf F.PROT_CFG_HARD_CLASS, detail := k, arms := d.chanArms k,
                           value := d.codeValue k code, reason := reasonHard, event := false }
        d.dcSide k x (d.codeValue k code)
    | none =>
      let d := d.pb (F.PROT_CH_STATE_HARD k) false
      (d.when (d.hasCause 0x0601 k) (fun d => d.endCause 0x0601 k)).dcEnd k

/-- The current of a soft detection: that of its code, or the estimate on a substituted channel (R336, R345). -/
def Dev.softValue (d : Dev) (k : Nat) (code : Int) : Nat :=
  if d.b (F.PROT_CH_STATE_SUBST k) then d.estValue k else d.codeValue k code

/-- A soft detection acts (R319). Mark: DEDUCED, unsafe (log entry 83). -/
def Dev.softAct (d : Dev) (k : Nat) (x : Det) (code : Int) : Dev :=
  let d := (d.inc (F.PROT_SOFT_COUNT k)).chanUpd k (fun c => { c with soft := some x })
  let d := d.raise { src := 0x0602, cls := d.classOf F.PROT_CFG_SOFT_CLASS, detail := k, arms := d.chanArms k,
                     value := d.softValue k code, event := false }
  d.dcSide k x (d.softValue k code)

/-- A code with aperture `t` passes the soft comparator (R316 to R318). Mark: DEDUCED, unsafe (log entry 148). -/
def Dev.softCompare (k : Nat) (d : Dev) (x : Int × Nat) : Dev :=
  let (code, t) := x
  let bl := d.blanked k t
  let d := d.pb (F.PROT_CH_STATE_BLANKED k) bl
  match d.beyondSoft k code with
  | none =>
    let d := (d.pb (F.PROT_CH_STATE_SOFT k) false).chanUpd k (fun c => { c with beyond := 0, taken := false })
    (d.when (d.hasCause 0x0602 k) (fun d => d.endCause 0x0602 k)).dcEnd k
  | some hi =>
    let c := d.chan k
    let n := c.beyond + 1
    let d := (d.pb (F.PROT_CH_STATE_SOFT k) true).chanUpd k (fun c => { c with beyond := n })
    if c.taken || decide (n < d.g (F.PROT_SOFT_CTRL_FILTER k)) then d
    else
      let d := d.chanUpd k (fun c => { c with taken := true })
      if bl then
        let d := d.inc (F.PROT_PEND_COUNT k)
        (d.pb (F.PROT_CH_STATE_PENDING k) true).chanUpd k (fun c => { c with pend := some (c.pend.getD ⟨t, hi⟩) })
      else if c.pend.isSome then d
      else d.softAct k ⟨t, hi⟩ code

/-- What the soft comparator of channel `k` gets when a code is converted, each code with its aperture: what is delivered of it (R289), or
on a substituted channel the code of the estimate, once a frame, with its tick as aperture (R336). -/
def Dev.softCodes (d : Dev) (k : Nat) (code : Int) : List (Int × Nat) × Dev :=
  if d.b (F.PROT_CH_STATE_SUBST k) then
    if (d.chan k).estAt = some d.cad.tickAt then ([], d)
    else ([(d.estCode k, d.cad.tickAt)], d.chanUpd k (fun c => { c with estAt := some d.cad.tickAt }))
  else d.codeIn k code d.cad.now

/-- A code with aperture `t` is converted on channel `k`, for the soft comparator (R316 to R319). -/
def Dev.softOc (k : Nat) (code : Int) (t : Nat) (d : Dev) : Dev :=
  if 16 ≤ k then d
  else
    let (cs, d) := (d.at t).softCodes k code
    cs.foldl (Dev.softCompare k) d

/-- The first code outside blanking, or 4.0 us on, evaluates a pending detection (R318). -/
def Dev.pendingCode (k : Nat) (d : Dev) (x : Int × Nat) : Dev :=
  match (d.chan k).pend with
  | none => d
  | some y =>
    if d.blanked k x.2 && decide (x.2 < y.t + 16000) then d
    else
      let d := (d.pb (F.PROT_CH_STATE_PENDING k) false).chanUpd k (fun c => { c with pend := none })
      if (d.beyondSoft k x.1).isSome then d.softAct k y x.1
      else d.inc (F.PROT_PEND_DROP_COUNT k)

/-- A code with aperture `t` is converted on channel `k`, for its pending detection (R318). -/
def Dev.pendingEvaluate (k : Nat) (code : Int) (t : Nat) (d : Dev) : Dev :=
  if 16 ≤ k then d
  else
    let d := d.at t
    let (cs, d) := if d.b (F.PROT_CH_STATE_SUBST k) then ([(d.estCode k, d.cad.tickAt)], d) else d.codeIn k code d.cad.now
    cs.foldl (Dev.pendingCode k) d

/-! ## The Shutter from elsewhere -/

/-- A SHUTTER on the span (R29, R129, R135, R323, R324): the first copy is relayed unchanged on the cell lanes and round the ring; the
second, which comes by the other bundle, is discarded. -/
def Dev.takeSpanShutter (d : Dev) (i : Nat) (content : List Byte) : Dev :=
  if content.length == 6 && orderedOk 0xE1 content then
    let c : ShutCopy := ⟨beAt content 0 4, beAt content 4 1, some (decide (67 ≤ i)), d.cad.frame⟩
    if d.prot.copies.any (fun x => x.matches c) then
      { d with prot := { d.prot with copies := d.prot.copies.filter (fun x => !(x.matches c && x.by_.isSome)) } }
    else (d.shutter c.claim c.source).copied c
  else d

/-- What reaches a span lane, where a SHUTTER may be. -/
def Dev.spanShutter (i : Nat) (line : Line) (d : Dev) : Dev :=
  let d := d.heard i line
  match d.got i line with
  | .ordered 0xE1 content => d.takeSpanShutter i content
  | _ => d.other i line

/-- A host Shutter (R327). Mark: DEDUCED, unsafe (log entry 85). -/
def Dev.hostShutter (d : Dev) : Dev := d.raise { src := 0x060F, cls := 3, reason := reasonHost }

/-! ## Release at a head (R326) -/

/-- The named release of tick `f` is void at this head. -/
def Dev.releaseVoid (d : Dev) (f : Nat) : Bool :=
  d.prot.relLate || (match d.prot.lastShutter with
    | some s => decide ((s + 2 ^ 32 + 3 - f) % 2 ^ 32 ≤ 3)
    | none => false)

/-- The handlings that a release ends (R329): those of F3, and of F4 once it has been reset. -/
def Dev.endHandlings (d : Dev) : Dev :=
  let keep (h : Handling) : Bool := decide (h.cls < 3) || (h.cls == 4 && d.b F.PROT_STATUS_TRIPPED)
  { d with prot := { d.prot with handling := d.prot.handling.filter keep } }

/-- The latches clear at tick F, and suppression may be entered again for the next DC-side latch (R246).
Mark: DEDUCED, unsafe (log entry 150). -/
def Dev.clearLatches (d : Dev) : Dev :=
  let d := (d.pb F.PROT_STATUS_LATCHED0 false).pb F.PROT_STATUS_LATCHED1 false
  let free (m : SMap Supp) (a : Nat) : SMap Supp := mupd m a (fun s => { s with used := false })
  let d := { d with bal := { d.bal with supp := free (free d.bal.supp 0) 1 } }
  ((d.pb F.PROT_STATUS_DCSIDE false).pb F.PROT_STATUS_HOST_HELD false).endHandlings

/-- What the lead counts of a release that takes effect (R325, R326). Mark: DEDUCED, unsafe (log entry 88). -/
def Dev.releaseCount (d : Dev) : Dev :=
  if d.isLead then
    let d := d.inc F.AV_PROT_RELEASE_COUNT
    if d.prot.relAuto then
      { d with prot := { d.prot with relTimes := d.prot.relTimes ++ [d.cad.tickAt] } }.inc F.AV_PROT_RESTART_COUNT
    else { d with prot := { d.prot with hostOnly := false } }.pb F.AV_PROT_CMD_RELEASE false
  else d

/-- Tick F of a named release (R326). -/
def Dev.releaseApply (d : Dev) : Dev :=
  match d.prot.relF with
  | some f =>
    if f = d.cad.frame then
      let void := d.releaseVoid f
      let init := d.prot.relInit
      let d := if void then d.inc F.PROT_RELEASE_VOID_COUNT
        else ({ d with prot := { d.prot with relDone := some f, limitRaised := false } }.clearLatches.ceThaw.releaseCount).when init
          (fun d => d.ceInit)
      { d with prot := { d.prot with relF := none, relAuto := false, relInit := false, relLate := false } }.pb
        F.AV_PROT_STATUS_RELEASE_NAMED false
    else d
  | none => d

/-- RELEASE written in AV_PROT_CMD (R325): it stands until a release named while it is set is applied. -/
def Dev.hostReleaseCmd (d : Dev) : Dev := if d.isLead then d.pb F.AV_PROT_CMD_RELEASE true else d

/-! ## F4 reset (R328) -/

/-- An F4 cause is present on the head. -/
def Dev.f4Cause (d : Dev) : Bool := !d.ticking || d.g F.SAF_STATE_STATE == 5 || d.prot.causes.any (fun c => c.cls == 4)

/-- The reset is taken: the hold clears, or the reset is refused and counted. -/
def Dev.f4Take (d : Dev) : Dev :=
  let d := { d with prot := { d.prot with f4Due := false } }
  let d := (d.p F.PROT_RESET_KEY_KEY 0).pb F.PROT_CMD_F4_RESET false
  if d.f4Cause then d.inc F.PROT_RESET_REFUSE_COUNT
  else (d.pb F.PROT_STATUS_TRIPPED false).protStatus

/-- F4_RESET written in PROT_CMD. Mark: DEDUCED, unsafe (log entry 90). -/
def Dev.f4Reset (d : Dev) : Dev :=
  if d.g F.PROT_RESET_KEY_KEY = 0xF4A5 then
    if d.ticking then { d with prot := { d.prot with f4Due := true } }.pb F.PROT_CMD_F4_RESET true
    else d.f4Take
  else d

/-! ## Records and bypass -/

/-- UNPIN: the record in slot INDEX of PROT_SEL (R347). -/
def Dev.unpin (d : Dev) : Dev :=
  let ring := mupd d.prot.ring (d.g F.PROT_SEL_INDEX) (fun o => o.map (fun r => { r with pinned := false }))
  { d with prot := { d.prot with ring := ring } }

/-- UNPIN_ALL (R347). -/
def Dev.unpinAll (d : Dev) : Dev :=
  let ring := (List.range 256).foldl (fun m i =>
    mupd m i (fun o => o.map (fun r => { r with pinned := false }))) d.prot.ring
  { d with prot := { d.prot with ring := ring } }

/-- CLEAR_BYPASS: the lane of PROT_SEL, when it reports no BYPASSED status (R341). -/
def Dev.clearBypass (d : Dev) : Dev :=
  let l := d.g F.PROT_SEL_LANE
  if (d.port! l).status.testBit 9 then d
  else if l < 32 then d.p F.PROT_BYPASS_LO_MASK (clrBit (d.g F.PROT_BYPASS_LO_MASK) l)
  else d.p F.PROT_BYPASS_HI_MASK (clrBit (d.g F.PROT_BYPASS_HI_MASK) (l - 32))

/-! ## Sensor substitution -/

/-- An ARM channel is declared failed (R334). -/
def Dev.sensorSubst (k : Nat) (d : Dev) : Dev :=
  let c := d.chan k
  let failed := (d.g F.FS_STATUS_TEST_FAIL).testBit k || decide (16 ≤ c.differ)
  if k < 16 ∧ (d.role k = 1 ∨ d.role k = 2) ∧ failed = true ∧ d.b (F.PROT_CH_STATE_SUBST k) = false then
    let d := (d.pb (F.PROT_CH_STATE_SUBST k) true).chanUpd k (fun c => { c with substFrames := 0, agree := 0, beyond := 0 })
    d.raise { src := 0x0604, cls := 1, detail := k, arms := d.chanArms k, event := false, derate := true }
  else d

/-- Substituted for PROT_EST_LIMIT frames: F4 (R337), whose cause lasts while the channel is substituted (R328). -/
def Dev.sensorTimeout (k : Nat) (d : Dev) : Dev :=
  if k < 16 ∧ d.b (F.PROT_CH_STATE_SUBST k) = true ∧ d.g F.PROT_EST_LIMIT_FRAMES ≤ (d.chan k).substFrames ∧
     d.hasCause 0x0605 k = false then
    d.raise { src := 0x0605, cls := 4, detail := k, arms := d.chanArms k, event := false }
  else d

/-- A substituted channel is restored (R338). -/
def Dev.sensorRestore (k : Nat) (d : Dev) : Dev :=
  let c := d.chan k
  if k < 16 ∧ d.b (F.PROT_CH_STATE_SUBST k) = true ∧ (d.g F.FS_STATUS_TEST_FAIL).testBit k = false ∧ 1024 ≤ c.agree then
    let d := (d.pb (F.PROT_CH_STATE_SUBST k) false).chanUpd k (fun c => { c with differ := 0, agree := 0, substFrames := 0 })
    (d.endCause 0x0604 k).endCause 0x0605 k
  else d

/-! ## The validator of group PROT (R353) -/

/-- The checks of one channel on a staged set. -/
def protChan (s : SMap Nat) (k : Nat) : List (Bool × Nat) :=
  let v (f : Fld) : Int := sgn 16 (mget s f.key)
  let fl := mget s (F.PROT_SOFT_CTRL_FILTER k).key
  let bl := mget s (F.PROT_SOFT_CTRL_BLANK k).key
  let hh := v (F.PROT_HARD_HI k)
  let hl := v (F.PROT_HARD_LO k)
  [(decide (1 ≤ fl) && decide (bl ≤ 200), rsnRange),
   (decide (v (F.PROT_SOFT_LO k) ≤ v (F.PROT_SOFT_HI k)) && decide (hl ≤ hh), rsnPair),
   (decide (hh = 32767 ∨ v (F.PROT_SOFT_HI k) ≤ hh) && decide (hl = -32768 ∨ hl ≤ v (F.PROT_SOFT_LO k)), 0x80)]

/-- The validator of group PROT. -/
def validateProt (s : SMap Nat) : Nat :=
  let tol := mget s F.PROT_EST_TOL_AMPS.key
  let der := mget s F.PROT_DERATE_FACTOR.key
  firstReason ((List.range 16).map (fun k => firstFail (protChan s k)) ++
    [firstFail [(f32.isFin tol && f32.isFin der, rsnNonfinite),
                (f32.lt 0 tol && f32.le 0 der && f32.le der f32one && decide (1 ≤ mget s F.PROT_EST_LIMIT_FRAMES.key), rsnRange)]])

end Sys2Proof.Machine
end

