-- ==== Sys2Proof/Machine/Commit.lean ====
section
/-! DEFINITION. Commit groups (chapter *Register interface and the consistency model*, R56 to R67): the members of each
group, every validator, the cut-off, the outcome at a tick, and arm view commits. Arm view groups AV0 to AV4 are
numbered 13 to 17 here, as in the register map. -/
namespace Sys2Proof.Machine

/-! ## Members (R63) -/

/-- Every register row. -/
def allRows : List RegRow :=
  rowsGlobal ++ rowsCommit ++ rowsCadence ++ rowsLanes ++ rowsPorts ++ rowsEngine ++ rowsBalEdge ++ rowsMeasure ++
    rowsThermal ++ rowsSafety ++ rowsRedund ++ rowsSecurity ++ rowsServices ++ rowsArmView

/-- The addresses of a row's copies. -/
def RegRow.addrs (r : RegRow) : List Nat := (List.range (max 1 r.count)).map (fun i => r.base + r.stride * i)

/-- The SHD fields of the register tables in group `g`. -/
def tableFields (g : Nat) : List Fld :=
  (allRows.filter (fun r => r.grp == g)).flatMap (fun r => r.addrs.flatMap (fun a => r.flds a .shd))

/-- The members of group `g` on this head: those of the tables, and for CE_LOCAL and CE_GROUP the parameters behind the
selection windows (R210), for CE_LOCAL those of every instance (R227). -/
def Dev.members (d : Dev) (g : Nat) : List Fld :=
  if g = 1 then
    d.cePrimary.flatMap (fun i => (List.range 8).map (fun k => F.ceParam i k))
  else if g = 14 then (List.range 64).flatMap (fun s => (List.range 8).map (fun k => F.ceSet s k))
  else tableFields g

/-- Copy the values of some fields from one set to another. -/
def copyFields (fs : List Fld) (src dst : SMap Nat) : SMap Nat := fs.foldl (fun m f => mset m f.key (mget src f.key)) dst

/-- The values of a group's members in address order, one word a register (R73, R426). Mark: DESIGN CHOICE, unsafe (log entry 34). -/
def groupWords (fs : List Fld) (src : SMap Nat) : List Nat :=
  let as := sortBy (fun a b => decide (a < b)) ((fs.map Fld.addr).eraseDups)
  as.map (fun a => (fs.filter (fun f => f.addr == a)).foldl (fun w f => w + mget src f.key * 2 ^ f.lo) 0)

/-- The values back from the words. -/
def ofGroupWords (fs : List Fld) (ws : List Nat) (dst : SMap Nat) : SMap Nat :=
  let as := sortBy (fun a b => decide (a < b)) ((fs.map Fld.addr).eraseDups)
  fs.foldl (fun m f => match as.idxOf? f.addr with
    | some i => mset m f.key ((ws[i]?).getD 0 / 2 ^ f.lo % 2 ^ f.w)
    | none => m) dst

/-! ## Validators -/

/-- A member of a set. -/
def sv (s : SMap Nat) (f : Fld) : Nat := mget s f.key

/-- The cell types configured on the head: 0 HB, 1 FB, 2 DX. -/
def Dev.types (d : Dev) : List Nat :=
  [0, 1, 2].filter (fun t => (List.range 64).any (fun l => d.configured l && d.g (F.HCL_PORT_CTRL_CELL_TYPE l) == t))

/-- Switches of a cell type (R120). -/
def typeSwitches (t : Nat) : Nat := if t = 0 then 2 else if t = 1 then 4 else 8

/-- d_rise and d_fall of a switch of a type in a set, in 10 ns units. -/
def setRise (s : SMap Nat) (t k : Nat) : Nat :=
  sv s (if t = 0 then F.EDGE_DELAY_HB_RISE k else if t = 1 then F.EDGE_DELAY_FB_RISE k else F.EDGE_DELAY_DX_RISE k)
def setFall (s : SMap Nat) (t k : Nat) : Nat :=
  sv s (if t = 0 then F.EDGE_DELAY_HB_FALL k else if t = 1 then F.EDGE_DELAY_FB_FALL k else F.EDGE_DELAY_DX_FALL k)

/-- The dead times of R259 of the configured types. -/
def Dev.deadTimes (d : Dev) (s : SMap Nat) : List Int :=
  d.types.flatMap (fun t => (List.range (typeSwitches t)).map (fun k => (setRise s t k : Int) - setFall s t (partner k)))

/-- c_max of R265. -/
def Dev.cMax (d : Dev) (s : SMap Nat) : Int :=
  maxInt (d.types.flatMap (fun t => (List.range (typeSwitches t)).map (fun k => (setRise s t k : Int) - setFall s t k)))

/-- t_on_c and t_dx are long enough for t_min (R265, R573). -/
def Dev.pulseOk (d : Dev) (s : SMap Nat) : Bool :=
  let low : Int := (sv s F.EDGE_MIN_PULSE_MIN : Int) + d.cMax s
  decide (low ≤ sv s F.EDGE_TRIM_ON_ON) && (!d.types.contains 2 || decide (low ≤ sv s F.EDGE_DX_ON_ON))

/-- EDGE_TIMING (R259, R261, R282). -/
def Dev.validateTiming (d : Dev) (s : SMap Nat) : Nat :=
  let dts := d.deadTimes s
  firstFail [(decide (sv s F.EDGE_MIN_PULSE_HANDLING ≤ 2), rsnRange), (dts.all (fun x => decide (1 ≤ x)), 0x80),
    (dts.all (fun x => decide (x ≤ sv s F.EDGE_MIN_PULSE_MIN)) && d.pulseOk s, 0x81)]

/-- CARRIER (R265, R282, R573). -/
def Dev.validateCarrier (d : Dev) (s : SMap Nat) : Nat :=
  let within (x lo hi : Nat) : Bool := decide (lo ≤ x) && decide (x ≤ hi)
  firstFail
    [(within (sv s F.EDGE_TRIM_ON_ON) 200 50000 && within (sv s F.EDGE_TRIM_PMAX_PERIOD) 500 2000000 &&
      within (sv s F.EDGE_DX_ON_ON) 200 50000 && within (sv s F.EDGE_DX_PERIOD_PERIOD) 500 2000000, rsnRange),
     (decide (2 * sv s F.EDGE_TRIM_ON_ON ≤ sv s F.EDGE_TRIM_PMAX_PERIOD) &&
      (!d.types.contains 2 || decide (2 * sv s F.EDGE_DX_ON_ON ≤ sv s F.EDGE_DX_PERIOD_PERIOD)), rsnPair),
     (d.pulseOk s, 0x81)]

/-- Swap or invert is set on a leg. -/
def swappedLeg (s : SMap Nat) (l k : Nat) : Bool :=
  (sv s (F.swap l)).testBit k || (sv s (F.invert l)).testBit (k / 2)

/-- Lanes with a switch forced ON whose partner is not forced OFF (R278). -/
def bothOnLanes (s : SMap Nat) : List Nat :=
  (List.range 64).filter (fun l => (List.range 8).any (fun k => sv s (F.force l k) == 2 && sv s (F.force l (partner k)) != 1))

/-- FORCE (R277, R278). Mark: DEDUCED, unsafe (log entry 33). -/
def Dev.validateForce (d : Dev) (s : SMap Nat) : Nat :=
  let every (p : Nat → Nat → Bool) : Bool := (List.range 64).all (fun l => (List.range 8).all (fun k =>
    sv s (F.force l k) == 0 || p l k))
  firstFail [(every (fun l k => sv s (F.force l k) != 3), rsnRange), (every (fun l k => decide (k < 2 * d.legCount l)), 0x84),
    (every (fun l k => !swappedLeg s l (k / 2)), 0x83), ((bothOnLanes s).isEmpty, 0x82)]

/-- SWAP (R275, R276). -/
def Dev.validateSwap (d : Dev) (s : SMap Nat) : Nat :=
  let lanes := List.range 64
  firstFail
    [(lanes.all (fun l => decide (sv s (F.swap l) < 2 ^ d.legCount l) && decide (sv s (F.invert l) < 2 ^ (d.legCount l / 2))), 0x84),
     (lanes.all (fun l => (List.range 8).all (fun k => sv s (F.force l k) == 0 || !swappedLeg s l (k / 2))), 0x83)]

/-- BAL_LOCAL (R251). -/
def validateBal (s : SMap Nat) : Nat :=
  let p := sv s F.BAL_SWAP_PENALTY_VOLTS
  firstFail [(f32.isFin p, rsnNonfinite),
    (f32.le 0 p && decide (fix32 p ≤ 65535 * fix32 (sv s F.BAL_KEY_LSB_VOLTS)), rsnRange)]

/-- FS_TEST (R290, R311) at a period in 10 ns units. -/
def validateFsTest (s : SMap Nat) (period : Nat) : Nat :=
  let all (p : Nat → Bool) : Bool := (List.range 4).all p
  firstFail [(all (fun g => decide (1 ≤ sv s (F.FS_TEST_SCHED_PERIOD g)) && decide (sv s (F.FS_TEST_SCHED_SLOT g) ≤ 498)), rsnRange),
    (all (fun g => decide (sv s (F.FS_TEST_SCHED_SLOT g) + 2 ≤ samplesOf (period * 40))), 0x80)]

/-- METROLOGY (R293, R295, R301, R310, R311). -/
def Dev.validateMet (d : Dev) (s : SMap Nat) (period : Nat) : Nat :=
  let all (p : Nat → Bool) : Bool := (List.range 4).all p
  let en := d.b F.MET_STATUS_ENERGY
  let same (f : Nat → Fld) : Bool := sv s (f 0) == sv s (f 1)
  firstFail
    [(all (fun c => decide (sv s (F.MET_CTRL_INPUT c) ≤ 5) && decide (sv s (F.MET_CTRL_REFSEL c) ≤ 2) &&
        decide (1 ≤ sv s (F.MET_CTRL_CYCLES c)) && decide (sv s (F.MET_CTRL_CYCLES c) ≤ 16) &&
        decide (1 ≤ sv s (F.MET_WINDOW_UNITS c)) && decide (sv s (F.MET_WINDOW_UNITS c) ≤ 10000)), rsnRange),
     (!en || (same F.MET_CTRL_REFSEL && same F.MET_CTRL_CYCLES && same F.MET_CTRL_CONT && same F.MET_WINDOW_UNITS), rsnPair),
     (!en || [0, 1].all (fun c => sv s (F.MET_CTRL_INPUT c) == d.g (F.MET_CTRL_INPUT c)), rsnState),
     (mfOk (sv s F.MET_MF_FRAMES_FRAMES) (period * 40), 0x81)]

/-- LOUVRE (R359). -/
def validateLouvre (s : SMap Nat) : Nat :=
  let sl := sv s F.THM_LOUVRE_SLOPE_WATTS_PER_K
  let fl := sv s F.THM_LOUVRE_FLOOR_WATTS
  firstFail [(f32.isFin sl && f32.isFin fl, rsnNonfinite), (f32.le 0 sl && f32.le 0 fl, rsnRange),
    (f32.lt fl (sv s F.THM_PLIM_UNDRATED_WATTS), 0x80)]

/-- REDUND (R436). -/
def validateRedund (s : SMap Nat) : Nat :=
  firstFail [(decide (70 ≤ sv s F.RED_CKPT_INTERVAL_UNITS) && decide (sv s F.RED_CKPT_INTERVAL_UNITS ≤ 1000) &&
    decide (sv s F.RED_GAP_COAST ≤ 20000), rsnRange)]

/-- CELLPORT (R154). -/
def validatePort (s : SMap Nat) : Nat :=
  firstFail [((List.range 64).all (fun l => sv s (F.HCL_PORT_CTRL_ENABLE l) == 0 || sv s (F.HCL_PORT_CTRL_CELL_TYPE l) != 3), 0x80)]

/-- The lanes and the FB lanes of an arm over the admitted heads. -/
def Dev.groupLanes (d : Dev) (a : Nat) : Nat := overHeads d.reports (fun r => (r.arm a).lanes)
def Dev.groupFb (d : Dev) (a : Nat) : Nat := overHeads d.reports (fun r => (r.arm a).fbLanes)

/-- AV2, BAL_GROUP (R252, R253): the lead holds the sum over the heads. -/
def Dev.validateBalGroup (d : Dev) (s : SMap Nat) : Nat :=
  let b := sv s F.AV_BAL_IDIR_BAND_AMPS
  firstFail [(f32.isFin b, rsnNonfinite), (f32.le 0 b && decide (1 ≤ sv s F.AV_BAL_TRIM_ROTATE_FRAMES), rsnRange),
    (!d.isLead || (decide (sv s F.AV_BAL_SPARES_SPARES0 ≤ d.groupLanes 0) && decide (sv s F.AV_BAL_SPARES_SPARES1 ≤ d.groupLanes 1)), 0x80)]

/-- AV3, DC_FAULT (R252, R253). -/
def Dev.validateDcFault (d : Dev) (s : SMap Nat) : Nat :=
  let fs := [F.AV_DCF_RSUP_OHMS, F.AV_DCF_VMAX_VOLTS, F.AV_DCF_IZERO_AMPS]
  let tm := sv s F.AV_DCF_TMAX_MS
  firstFail [(fs.all (fun f => f32.isFin (sv s f)), rsnNonfinite),
    (fs.all (fun f => f32.lt 0 (sv s f)) && decide (sv s F.AV_DCF_STAGGER_STEP ≤ 100) &&
      decide (1 ≤ sv s F.AV_DCF_HOLD_FRAMES) && decide (1 ≤ tm) && decide (tm ≤ 1000), rsnRange),
    (!d.isLead || sv s F.AV_DCF_MODE_MODE == 0 || [0, 1].all (fun a => d.groupLanes a == 0 || decide (0 < d.groupFb a)), 0x81),
    (decide ((d.conf.heads - 1) * sv s F.AV_DCF_STAGGER_STEP ≤ d.g F.CAD_FRAME_PERIOD_PERIOD), 0x82)]

/-- The frame period that will be in force at the next tick, in 10 ns units (R99). -/
def Dev.periodNext (d : Dev) : Nat :=
  match mget d.cmt.staged 17 with
  | some x => if x.target = frameAdd d.cad.frame 1 ∧ x.outcome = some true then sv x.set F.AV_FRAME_PERIOD_PERIOD
    else d.g F.CAD_FRAME_PERIOD_PERIOD
  | none => d.g F.CAD_FRAME_PERIOD_PERIOD

/-- The frame period that will be in force at tick `f`, as this head knows it: that of an AV4 set which it has staged, or as the lead has
taken, to apply by then and which is neither cancelled nor refused here (R211). Mark: DEDUCED, unsafe (log entry 166). -/
def Dev.periodAt (d : Dev) (f : Nat) : Nat :=
  let due (t : Nat) : Bool := t == f || later f t
  let cur := d.g F.CAD_FRAME_PERIOD_PERIOD
  let own := match mget d.cmt.av 17 with
    | some c => if !c.sent && due c.target then sv c.set F.AV_FRAME_PERIOD_PERIOD else cur
    | none => cur
  match mget d.cmt.staged 17 with
  | some x => if due x.target && x.outcome != some false && (x.outcome == some true || x.budget.isSome) then
      sv x.set F.AV_FRAME_PERIOD_PERIOD else own
  | none => own

/-- The validator of a group on a complete set `s` (R57): 0 where every check holds, else the first failing reason.
Mark: DEDUCED, unsafe (log entry 32). -/
def Dev.validate (d : Dev) (g : Nat) (s : SMap Nat) : Nat :=
  let p := d.periodNext
  match g with
  | 0 => d.validateCad s p
  | 1 => d.validateCe s p
  | 2 => validateBal s
  | 3 => d.validateTiming s
  | 4 => d.validateCarrier s
  | 5 => d.validateForce s
  | 6 => d.validateSwap s
  | 7 => validateProt s
  | 8 => validateFsTest s p
  | 9 => d.validateMet s p
  | 10 => validateLouvre s
  | 11 => validateRedund s
  | 12 => validatePort s
  | 13 => d.validateRefs s
  | 14 => d.validateCeGroup s d.periodNext
  | 15 => d.validateBalGroup s
  | 16 => d.validateDcFault s
  | 17 => d.validatePeriod (sv s F.AV_FRAME_PERIOD_PERIOD)
  | _ => 0

/-! ## A local commit -/

/-- COMMIT written in a local group (R56, R59, R61). -/
def Dev.commit (g : Nat) (d : Dev) : Dev :=
  if g < 13 then (d.pb (F.CMT_COMMIT_COMMIT g) true).pb (F.CMT_STATUS_PENDING g) true else d

/-- One pending group at the cut-off: its shadows are staged and validated against what the validations before it
accepted (R279). -/
def Dev.cutGroup (acc : SMap Nat × Dev) (g : Nat) : SMap Nat × Dev :=
  let (eff, d) := acc
  let fs := d.members g
  let s := copyFields fs d.shadow eff
  let r := d.validate g s
  let d := { d with cmt := { d.cmt with taken := mset d.cmt.taken g true, verdict := mset d.cmt.verdict g r,
                                        staging := copyFields fs d.shadow d.cmt.staging } }
  let d := d.when (g == 0) (fun d => { d with cmt := { d.cmt with budget := if r = 0 then some (d.budgetIn s) else none } })
  let d := d.when (g == 5 && r == 0x82) (fun d =>
    (d.inc F.EDGE_BOTH_ON_COUNT).raise
      { src := 0x0404, cls := 2, detail := ((bothOnLanes s).head?).getD 0,
        arms := d.armMask (((bothOnLanes s).head?).getD 0), value := d.g (F.HCL_PORT_VCAP_VCAP (((bothOnLanes s).head?).getD 0)) })
  (if r = 0 then s else eff, d)

/-! ## Settings messages (R426) -/

/-- Bytes as blocks of 256, the last one padded (R422). -/
def blocksOf (bs : List Byte) : List (List Byte) :=
  (List.range (max 1 ((bs.length + 255) / 256))).map (fun i => padTo 256 (bs.drop (256 * i)))

/-- The settings message of a group as it is in force: group, SETTINGS_SEQ, frame, then the members. -/
def Dev.settingsBytes (d : Dev) (g seq : Nat) : List Byte :=
  be 4 g ++ be 4 seq ++ be 4 d.cad.frame ++ (groupWords (d.members g) d.rf).flatMap (be 4)

/-- A commit has applied: the settings message to the partner is due (R426), from a head that transmits (R421). -/
def Dev.settingsDue (d : Dev) (g : Nat) : Dev :=
  if d.redState = 3 then
    let seq := (d.g F.RED_SETTINGS_SEQ_SEQ + 1) % 2 ^ 32
    let m := d.settingsBytes g seq
    { d with red := { d.red with settings := d.red.settings ++ [m] } }.p F.RED_SETTINGS_SEQ_SEQ seq
  else d

/-! ## What an applied set brings with it -/

/-- A lane that a CELLPORT commit disables is ABSENT (R151, R171); its first usable USF afterwards starts discovery
(R185). -/
def Dev.portApplied (d : Dev) (was : List Nat) : Dev :=
  let d := was.foldl (fun d l => if d.b (F.HCL_PORT_CTRL_ENABLE l) then d else
    ((d.endLane l resLaneLost).clUpd l (fun c => { c with seen := false })).portUpd l (fun p =>
      { p.spoil with bad := 0, lostRaised := false, suspectRaised := false })) d
  (List.range 64).foldl (fun d l => d.showPort l) d

/-- The CARRY residuals of every lane are discarded by a commit of group 3, 4 or 6 (R267). -/
def Dev.dropCarries (d : Dev) : Dev :=
  (List.range 64).foldl (fun d l =>
    let e := d.edgeOf l
    if e.heldCount = 0 then d
    else ({ d with edge := mset d.edge l e.dropAll }.addTo F.EDGE_CARRY_LOST_COUNT e.heldCount).showLane l) d

/-- The deadlines of the evaluation that accepted a CAD_LOCAL set go in force, and are later than those of an AV4 set that waits
(R103). -/
def Dev.cadApplied (d : Dev) : Dev :=
  let b := d.cmt.budget.getD d.budgetNow
  let st := (mget d.cmt.staged 17).map (fun x => { x with budget := some b })
  ({ d with cmt := { d.cmt with budget := none, staged := mset d.cmt.staged 17 st } }.putBudget b).showDelays

/-- The deadlines of the evaluation that accepted the AV4 set of this frame go in force (R103). -/
def Dev.periodApplied (d : Dev) (b : Option Budget) : Dev := d.putBudget (b.getD d.budgetNow)

/-- The effects of a group's new members (R103, R185, R213, R288, R290, R295, R151); `old` is the head before. -/
def Dev.applied (d : Dev) (g : Nat) (old : Dev) : Dev :=
  match g with
  | 0 => d.cadApplied
  | 1 => d.cePrimary.foldl (fun d i =>
      if d.hasCause 0x0303 i && !d.cePeriodBad i (d.g F.CAD_FRAME_PERIOD_PERIOD) then d.endCause 0x0303 i else d) d
  | 3 => d.dropCarries
  | 4 => d.dropCarries
  | 6 => d.dropCarries
  | 8 =>
    let changed (k : Nat) : Bool := [F.FS_TEST_SCHED_SLOT k, F.FS_TEST_SCHED_MASK k, F.FS_TEST_SCHED_PERIOD k,
      F.FS_TEST_LEVELS_A_L0 k, F.FS_TEST_LEVELS_A_L1 k, F.FS_TEST_LEVELS_B_L2 k, F.FS_TEST_LEVELS_B_L3 k].any
        (fun f => d.g f != old.g f)
    ((List.range 4).foldl (fun d k => if changed k then
      { d with fs := { d.fs with win := mset d.fs.win k 0, inj := mset d.fs.inj k 0 } } else d) d).testConflict
  | 9 =>
    let d := d.metHold old d.cad.tickAt
    (d.when (d.g F.MET_MF_FRAMES_FRAMES != old.g F.MET_MF_FRAMES_FRAMES) (fun d =>
      { d with met := { d.met with mfCount := 0 } })).mfConflict
  | 11 => if d.g F.RED_GAP_COAST = old.g F.RED_GAP_COAST then d
    else ((List.range 64).filter (fun l => d.disc l == 3)).foldl (fun d l => d.coastWrite l) d
  | 12 => d.portApplied ((List.range 64).filter (fun l => old.b (F.HCL_PORT_CTRL_ENABLE l)))
  | 14 => d.cePrimary.foldl (fun d i =>
      if d.hasCause 0x0303 i && !d.cePeriodBad i (d.g F.CAD_FRAME_PERIOD_PERIOD) then d.endCause 0x0303 i else d) d
  | 17 => ((((d.p F.CAD_FRAME_PERIOD_PERIOD (d.g F.AV_FRAME_PERIOD_PERIOD)).periodApplied
      ((mget d.cmt.staged 17).bind AvStaged.budget)).cePeriodChange (old.g F.CAD_FRAME_PERIOD_PERIOD)).testConflict).mfConflict
  | _ => d

/-- Put a group's staged members in force. Mark: DEDUCED, unsafe (log entry 30). -/
def Dev.putInForce (d : Dev) (g : Nat) (s : SMap Nat) : Dev :=
  { d with rf := copyFields (d.members g) s d.rf }.applied g d

/-- Does the head keep its commit counters of a group? -/
def statusFld (g : Nat) : Fld × Fld × Fld × Fld × Fld × Fld :=
  if g < 13 then (F.CMT_COMMIT_COMMIT g, F.CMT_STATUS_PENDING g, F.CMT_STATUS_LAST_RESULT g, F.CMT_RESULT_FRAME_FRAME g,
    F.CMT_APPLY_COUNT g, F.CMT_REJECT_COUNT g)
  else (F.AV_CMT_COMMIT_COMMIT (g - 13), F.AV_CMT_STATUS_PENDING (g - 13), F.AV_CMT_STATUS_LAST_RESULT (g - 13),
    F.AV_CMT_RESULT_FRAME_FRAME (g - 13), F.AV_CMT_APPLY_COUNT (g - 13), F.AV_CMT_REJECT_COUNT (g - 13))

/-- The outcome shows (R571): `result` is 1 APPLIED, 2 REJECTED, 3 CANCELLED. Mark: DESIGN CHOICE, unsafe (log entry 29). -/
def Dev.showOutcome (d : Dev) (g result : Nat) : Dev :=
  let (cm, pe, lr, fr, ap, rj) := statusFld g
  let d := ((d.pb cm false).pb pe false).p lr result
  let d := d.p fr d.cad.frame
  d.inc (if result = 1 then ap else rj)

/-- The outcome of one local group that was taken. -/
def Dev.outcomeGroup (d : Dev) (g : Nat) : Dev :=
  let r := mget d.cmt.verdict g
  if r = 0 then ((d.putInForce g d.cmt.staging).showOutcome g 1).settingsDue g
  else (d.p (F.CMT_STATUS_REASON g) r).showOutcome g 2

/-- At the tick every group taken at the cut-off is put in force or rejected (R571). -/
def Dev.commitOutcome (d : Dev) : Dev :=
  let gs := (List.range 13).filter (fun g => mget d.cmt.taken g)
  gs.foldl Dev.outcomeGroup { d with cmt := { d.cmt with taken := [] } }

/-! ## Arm view commits (R65 to R67) -/

/-- The commit bit of arm view group `k` written at the lead. -/
def Dev.avCommit (k : Nat) (d : Dev) : Dev :=
  if k < 5 ∧ d.isLead = true then (d.pb (F.AV_CMT_COMMIT_COMMIT k) true).pb (F.AV_CMT_STATUS_PENDING k) true else d

/-- The cut-off takes a pending arm view group (R65): F = n + 3. -/
def Dev.avTake (d : Dev) (g : Nat) : Dev :=
  if d.isLead && d.b (F.AV_CMT_STATUS_PENDING (g - 13)) && (mget d.cmt.av g).isNone then
    let s := copyFields (d.members g) d.shadow []
    let c : AvCommit :=
      { frame := d.cad.frame, target := frameAdd d.cad.frame 3, set := s,
        mask := d.admitted.foldl (fun m p => setBit m p) 0, sent := false, verdicts := [], decided := none, reason := 0,
        heads := 0, headReason := 0 }
    { d with cmt := { d.cmt with av := mset d.cmt.av g (some c) } }
  else d

/-- The commit cut-off of a frame (R56): pending local groups are staged and validated in turn, arm view groups are
taken, a keyed F4 reset is taken (R328), and an INIT is (R217). -/
def Dev.commitCutoff (d : Dev) : Dev :=
  if !d.ticking then d
  else
    let pend := (List.range 13).filter (fun g => d.b (F.CMT_STATUS_PENDING g))
    let d := (pend.foldl Dev.cutGroup (d.rf, d)).2
    let d := [13, 14, 15, 16, 17].foldl Dev.avTake d
    let d := d.when d.prot.f4Due Dev.f4Take
    d.when (d.b F.CE_CTRL_INIT) (fun d => { d with ce := { d.ce with initDue := true } })

/-- Stage a set at this head and validate the head's part (R65). -/
def Dev.avStage (d : Dev) (g target : Nat) (set : SMap Nat) : Nat × Dev :=
  let full := copyFields (d.members g) set d.rf
  let r := if g = 14 then d.validateCeGroup full (d.periodAt target) else d.validate g full
  let b := if g = 17 ∧ r = 0 then some d.budgetNow else none
  (r, { d with cmt := { d.cmt with staged := mset d.cmt.staged g (some ⟨target, set, none, b⟩) } })

/-- In frame n + 1 the lead sends the staging set, and gives its own verdict (R65, R66). -/
def Dev.avSend (d : Dev) : Dev :=
  [13, 14, 15, 16, 17].foldl (fun d g =>
    match mget d.cmt.av g with
    | some c =>
      if c.sent || !d.isLead then d
      else
        let (r, d) := d.avStage g c.target c.set
        let c := { c with sent := true, verdicts := mset c.verdicts 0 (some r) }
        let d := { d with cmt := { d.cmt with av := mset d.cmt.av g (some c) } }
        d.when (decide (1 < d.conf.heads)) (fun d => d.spanSend (.stage (g - 13) c.target c.set))
    | none => d) d

/-- A head receives STAGE (R65): it validates its part and returns its verdict. -/
def Dev.stageTake (h : SpanHdr) (k target : Nat) (set : SMap Nat) (d : Dev) : Dev :=
  let (act, d) := d.spanTake spStage h
  if act && decide (k < 5) && !d.isLead then
    let (r, d) := d.avStage (13 + k) target set
    d.spanSend (.span spVerdict 0 [k, target, r])
  else d

/-- The lead receives a verdict (R66). Mark: DEDUCED, unsafe (log entry 31). -/
def Dev.verdictTake (h : SpanHdr) (k target reason : Nat) (d : Dev) : Dev :=
  let (act, d) := d.spanTake spVerdict h
  match mget d.cmt.av (13 + k) with
  | some c =>
    if act && decide (k < 5) && d.isLead && c.target == target && c.decided.isNone then
      let c := { c with verdicts := mset c.verdicts (h.origin % 8) (some reason) }
      { d with cmt := { d.cmt with av := mset d.cmt.av (13 + k) (some c) } }
    else d
  | none => d

/-- APPLY or CANCEL of one commit, with what STATUS will show (R66). -/
def AvCommit.settle (c : AvCommit) : AvCommit :=
  let ps := (List.range 8).filter (fun p => c.mask.testBit p)
  let refused := ps.filter (fun p => match mget c.verdicts p with
    | some r => r != 0
    | none => false)
  let silent := ps.filter (fun p => (mget c.verdicts p).isNone)
  let heads := (refused ++ silent).foldl (fun m p => setBit m p) 0
  match refused with
  | p :: _ => { c with decided := some false, reason := 0x05, heads := heads, headReason := (mget c.verdicts p).getD 0 }
  | [] => if silent.isEmpty then { c with decided := some true, reason := 0, heads := 0, headReason := 0 }
    else { c with decided := some false, reason := 0x06, heads := heads, headReason := 0 }

/-- In frame n + 2 the lead decides, and its own staged set takes the outcome. Answers the outcomes for the quota
message. -/
def Dev.avDecide (d : Dev) : List (Nat × Nat × Bool) × Dev :=
  [13, 14, 15, 16, 17].foldl (fun (acc : List (Nat × Nat × Bool) × Dev) g =>
    let (os, d) := acc
    match mget d.cmt.av g with
    | some c =>
      if c.sent && c.decided.isNone && frameAdd c.frame 2 == d.cad.frame then
        let c := c.settle
        let ok := c.decided == some true
        let st := (mget d.cmt.staged g).map (fun x => { x with outcome := some ok })
        (os ++ [(g - 13, c.target, ok)],
          { d with cmt := { d.cmt with av := mset d.cmt.av g (some c), staged := mset d.cmt.staged g st } })
      else acc
    | none => acc) ([], d)

/-- A head takes the outcomes that a quota message carries. -/
def Dev.avOutcomes (d : Dev) (os : List (Nat × Nat × Bool)) : Dev :=
  os.foldl (fun d o =>
    match mget d.cmt.staged (13 + o.1) with
    | some x => if x.target = o.2.1 then
        { d with cmt := { d.cmt with staged := mset d.cmt.staged (13 + o.1) (some { x with outcome := some o.2.2 }) } } else d
    | none => d) d

/-- Tick F of one arm view group at a head (R65, R67, R571). -/
def Dev.avApplyGroup (d : Dev) (g : Nat) : Dev :=
  let mine := mget d.cmt.av g
  let d := match mget d.cmt.staged g with
    | some x =>
      if x.target = d.cad.frame then
        let d := match x.outcome with
          | some true =>
            let d := d.putInForce g x.set
            { d with cmt := { d.cmt with avFrame := mset d.cmt.avFrame g (some d.cad.frame) } }
          | some false => d
          | none => d.inc F.CMT_ORPHAN_COUNT
        { d with cmt := { d.cmt with staged := mset d.cmt.staged g none } }
      else d
    | none => d
  match mine with
  | some c =>
    if c.target = d.cad.frame then
      let d := { d with cmt := { d.cmt with av := mset d.cmt.av g none } }
      if c.decided = some true then
        let d := { d with cmt := { d.cmt with echo := mset d.cmt.echo g (clrBit c.mask 0) } }
        let d := (d.p (F.AV_CMT_STATUS_HEADS (g - 13)) 0).p (F.AV_CMT_STATUS_HEAD_REASON (g - 13)) 0
        (d.showOutcome g 1).settingsDue g
      else
        let d := (d.p (F.AV_CMT_STATUS_REASON (g - 13)) c.reason).p (F.AV_CMT_STATUS_HEADS (g - 13)) c.heads
        (d.p (F.AV_CMT_STATUS_HEAD_REASON (g - 13)) c.headReason).showOutcome g 3
    else d
  | none => d

/-- The arm view groups whose frame F the present frame is: staged here, or under way at the lead. -/
def Dev.avDue (d : Dev) : List Nat :=
  [13, 14, 15, 16, 17].filter (fun g =>
    (match mget d.cmt.staged g with | some x => x.target == d.cad.frame | none => false) ||
    (match mget d.cmt.av g with | some c => c.target == d.cad.frame | none => false))

/-- Tick F of the arm view groups. -/
def Dev.avApply (d : Dev) : Dev := d.avDue.foldl Dev.avApplyGroup d

/-- The lead reads a head's echo of the frames at which its sets are in force (R67). -/
def Dev.avEcho (d : Dev) (p : Nat) (r : Report) : Dev :=
  [13, 14, 15, 16, 17].foldl (fun d g =>
    match mget d.cmt.avFrame g with
    | some f =>
      if (mget d.cmt.echo g).testBit p && (r.frame == f || later r.frame f) then
        let d := { d with cmt := { d.cmt with echo := mset d.cmt.echo g (clrBit (mget d.cmt.echo g) p) } }
        if (r.avFrames[g - 13]?).getD none = some f then d
        else (d.inc F.AV_CMT_ORPHAN_COUNT).raise { src := 0x010D, cls := 1, detail := p }
      else d
    | none => d) d

end Sys2Proof.Machine
end

