-- ==== Sys2Proof/Machine/Otp.lean ====
section
/-! DEFINITION. The one-time-programmable memory (R481 to R484, R488): its words, what is read from them by majority, and
programming, which only sets bits. The memory is a list of numbered 32-bit words (R482), beside the rest of the head. -/
namespace Sys2Proof.Machine

/-- A word of OTP. -/
def otpWord (o : SMap Nat) (i : Nat) : Nat := mget o i

/-- Program bits of a word: bits that are set stay set. -/
def otpSet (o : SMap Nat) (i v : Nat) : SMap Nat := mset o i (mget o i ||| v % 2 ^ 32)

/-- Program words from an index on. -/
def otpSetAll : SMap Nat → Nat → List Nat → SMap Nat
  | o, _, [] => o
  | o, i, v :: vs => otpSetAll (otpSet o i v) (i + 1) vs

/-- `n` bytes from a byte offset that is a multiple of four. -/
def otpBytes (o : SMap Nat) (off n : Nat) : List Byte :=
  ((List.range ((n + 3) / 4)).flatMap (fun i => be 4 (otpWord o (off / 4 + i)))).take n

/-- A bit held in three words, by majority of those without an uncorrectable error (R482): none where no majority decodes.
Bit 0 of each word holds it. Mark: DEDUCED, unsafe (log entry 117). -/
def triple (o : SMap Nat) (unc : List Nat) (i : Nat) : Option Bool :=
  let ws := [i, i + 1, i + 2].filter (fun k => !unc.contains k)
  let ones := (ws.filter (fun k => (otpWord o k).testBit 0)).length
  if 2 ≤ ones then some true else if 2 ≤ ws.length - ones then some false else none

/-- Program a bit held in three words. -/
def tripleSet (o : SMap Nat) (i : Nat) : SMap Nat := otpSet (otpSet (otpSet o i 1) (i + 1) 1) (i + 2) 1

/-- First word of lifecycle bit `k`, of key slot `k` of an algorithm (0 RSA, 1 SLH-DSA) and of its revocation bit (R482). -/
def lifeAt (k : Nat) : Nat := 4 + 3 * k
def slotAt (alg k : Nat) : Nat := (0x40 + 0xC0 * alg + 48 * k) / 4
def revAt (alg k : Nat) : Nat := 0x1C0 / 4 + 3 * (4 * alg + k)

/-- The lifecycle bits (R488), or none where one does not decode. -/
def lifecycle (o : SMap Nat) (unc : List Nat) : Option Nat :=
  match triple o unc (lifeAt 0), triple o unc (lifeAt 1), triple o unc (lifeAt 2) with
  | some a, some b, some c => some (bit a + 2 * bit b + 4 * bit c)
  | _, _, _ => none

/-- The lifecycle as the words hold it, every word read. -/
def lifeBits (o : SMap Nat) : Nat := (lifecycle o []).getD 0

/-- Program the lifecycle bits of a state that is not left backwards. -/
def lifeSet (o : SMap Nat) (st : Nat) : SMap Nat :=
  [0, 1, 2].foldl (fun o k => if st.testBit k then tripleSet o (lifeAt k) else o) o

/-- The hash in a key slot (R481). -/
def slotHash (o : SMap Nat) (alg k : Nat) : List Byte := otpBytes o (4 * slotAt alg k) 48

/-- A slot is programmed. -/
def slotProgrammed (o : SMap Nat) (alg k : Nat) : Bool := (slotHash o alg k).any (fun b => b != 0#8)

/-- A slot is revoked: its bit, or an uncorrectable error in one of its words (R481, R483). A revocation bit with no majority counts
as set. -/
def slotRevoked (o : SMap Nat) (unc : List Nat) (alg k : Nat) : Bool :=
  (triple o unc (revAt alg k)).getD true || unc.any (fun w => decide (slotAt alg k ≤ w) && decide (w < slotAt alg k + 12))

/-- Bits 0 to 3 RSA K0 to K3, bits 4 to 7 SLH-DSA: programmed, and revoked (SEC_KEY_STATE). -/
def keyMask (p : Nat → Nat → Bool) : Nat :=
  (List.range 8).foldl (fun m i => if p (i / 4) (i % 4) then setBit m i else m) 0

/-- The minimum SVN of a kind (0 configuration, 1 firmware): set bits of its thermometer (R484). -/
def svnMin (o : SMap Nat) (kind : Nat) : Nat := popCount 32 (otpWord o (0x220 / 4 + kind))

/-- A thermometer of `n` set bits. -/
def thermo (n : Nat) : Nat := 2 ^ min n 32 - 1

/-- The first words of the wrapped rows and their lengths (R482). -/
def rsaRow : Nat := 0x240 / 4
def rsaRowWords : Nat := 256
def slhRow : Nat := 0x640 / 4
def slhRowWords : Nat := 32

def otpWords (o : SMap Nat) (i n : Nat) : List Nat := (List.range n).map (fun k => otpWord o (i + k))

end Sys2Proof.Machine
end

