-- ==== Sys2Proof/Machine/Container.lean ====
section
/-! DEFINITION. The signed container (R470 to R474, R477, R478) and its verification, steps 1 to 7 of R479, with the result
codes of R486. Step 8 follows in the file that builds the configuration. -/
namespace Sys2Proof.Machine

/-! ## Result codes (R486) -/

def srOk : Nat := 0x00
def srFormat : Nat := 0x01
def srSize : Nat := 0x02
def srKeyUnknown : Nat := 0x03
def srKeyRevoked : Nat := 0x04
def srKeyRole : Nat := 0x05
def srSigRsa : Nat := 0x06
def srSigSlh : Nat := 0x07
def srDigest : Nat := 0x08
def srRollback : Nat := 0x09
def srSection : Nat := 0x0A
def srValidate : Nat := 0x0B
def srBind : Nat := 0x0C
def srLifecycle : Nat := 0x0D
def srState : Nat := 0x0E
def srNvWindow : Nat := 0x0F
def srFlash : Nat := 0x10
def srBusy : Nat := 0x11
def srChallenge : Nat := 0x12
def srLastKey : Nat := 0x13
def srOtpConflict : Nat := 0x14
def srBadKey : Nat := 0x15

/-- A result with its DETAIL. -/
structure SecRes where
  code : Nat
  detail : Nat
  deriving DecidableEq, Repr

def secOk : SecRes := ⟨0, 0⟩
def secFail (c : Nat) : SecRes := ⟨c, 0⟩

/-- The first failing result of a list. -/
def firstBad : List SecRes → SecRes
  | [] => secOk
  | r :: rs => if r.code = 0 then firstBad rs else r

/-! ## Reading a container -/

/-- `n` bytes from an offset. -/
def slice (bs : List Byte) (off n : Nat) : List Byte := (bs.drop off).take n

/-- SHA-384, 48 bytes. -/
def sha (bs : List Byte) : List Byte := padTo 48 (Config.sha384 bs)

/-- Bytes of the signature block (R470). -/
def sigLen : Nat := 17060

/-- A section of the table (R470). -/
structure SecEntry where
  ty : Nat
  off : Nat
  size : Nat
  digest : List Byte
  deriving DecidableEq, Repr, Inhabited

def cLen (bs : List Byte) : Nat := beAt bs 8 4
def cKind (bs : List Byte) : Nat := beAt bs 5 1
def cSeq (bs : List Byte) : Nat := beAt bs 12 4
def cSvn (bs : List Byte) : Nat := beAt bs 16 1

/-- The section table. -/
def cTable (bs : List Byte) : List SecEntry :=
  (List.range (beAt bs 6 2)).map (fun i =>
    let o := 64 + 64 * i
    ⟨beAt bs o 1, beAt bs (o + 4) 4, beAt bs (o + 8) 4, slice bs (o + 16) 48⟩)

/-- The body of the first section of a type. -/
def cBody (bs : List Byte) (ty : Nat) : Option (List Byte) :=
  ((cTable bs).find? (fun e => e.ty == ty)).map (fun e => slice bs e.off e.size)

/-- The signature block. -/
def cSig (bs : List Byte) : List Byte := slice bs (cLen bs - sigLen) sigLen

/-! ## Steps 1 to 6 of R479 -/

/-- Step 1: format and size. `kind` is the KIND expected. -/
def step1 (bs : List Byte) (kind : Nat) : SecRes :=
  let n := beAt bs 6 2
  let len := cLen bs
  let lim := if kind = 1 then 2097152 else 1048576
  let es := cTable bs
  let clear (a b : SecEntry) : Bool := decide (a.off + a.size ≤ b.off) || decide (b.off + b.size ≤ a.off)
  firstBad [
    if beAt bs 0 4 = 0x53584342 ∧ beAt bs 4 1 = 1 ∧ cKind bs = kind ∧ beAt bs 20 4 = 0x6472 ∧ 1 ≤ n ∧ n ≤ 32 then secOk
      else secFail srFormat,
    if len ≤ lim ∧ len ≤ bs.length ∧ 64 + 64 * n + sigLen ≤ len then secOk else secFail srSize,
    if es.all (fun e => decide (64 + 64 * n ≤ e.off) && decide (e.off + e.size + sigLen ≤ len)) then secOk else secFail srSize,
    if (List.range n).all (fun i => (List.range n).all (fun j => i == j ||
        clear ((es[i]?).getD default) ((es[j]?).getD default))) && es.all (fun e => e.off % 64 == 0) then secOk else secFail srFormat]

/-- A slot of a signature block against OTP (R481): `vendor` is the role that must sign. Mark: DEDUCED, unsafe (log entry 119). -/
def slotCheck (o : SMap Nat) (unc : List Nat) (alg k : Nat) (key : List Byte) (vendor : Bool) : SecRes :=
  if 3 < k ∨ !slotProgrammed o alg k ∨ sha key ≠ slotHash o alg k then secFail srKeyUnknown
  else if slotRevoked o unc alg k then secFail srKeyRevoked
  else if (decide (k < 2)) != vendor then secFail srKeyRole
  else secOk

/-- Steps 4 and 5 on a signature block over a signed part (R472, R479). -/
def sigCheck (o : SMap Nat) (unc : List Nat) (signed sig : List Byte) (vendor : Bool) : SecRes :=
  let d := sha (signed ++ sig.take 452)
  let n := slice sig 16 384
  let e := slice sig 400 4
  let pk := slice sig 404 48
  firstBad [
    if beAt sig 0 4 = 0x53585347 then secOk else secFail srFormat,
    slotCheck o unc 0 (beAt sig 4 1) (n ++ e) vendor,
    slotCheck o unc 1 (beAt sig 5 1) pk vendor,
    if Config.rsaVerify n e (slice sig 452 384) d then secOk else secFail srSigRsa,
    if Config.slhVerify pk (slice sig 836 16224) d then secOk else secFail srSigSlh]

/-- Step 6: every section against its digest. -/
def digestCheck (bs : List Byte) : SecRes :=
  firstBad ((List.range (beAt bs 6 2)).map (fun i =>
    let e := ((cTable bs)[i]?).getD default
    if sha (slice bs e.off e.size) = e.digest then secOk else ⟨srDigest, i⟩))

/-- Steps 1 to 6 on a container of a kind. -/
def verifyOne (o : SMap Nat) (unc : List Nat) (bs : List Byte) (kind : Nat) : SecRes :=
  let bind := slice bs 32 16
  firstBad [
    step1 bs kind,
    if bind.all (fun b => b == 0#8) ∨ bind = otpBytes o 0 16 then secOk else secFail srBind,
    if svnMin o (kind - 1) ≤ cSvn bs then secOk else secFail srRollback,
    sigCheck o unc (bs.take (cLen bs - sigLen)) (cSig bs) (kind == 2),
    digestCheck bs]

/-- Steps 1 to 7 on a configuration container: its firmware in its own right, with bit 7 of DETAIL (R478, R479). -/
def verify17 (o : SMap Nat) (unc : List Nat) (bs : List Byte) : SecRes :=
  let r := verifyOne o unc bs 1
  if r.code ≠ 0 then r
  else match cBody bs 0x0E with
    | none => secOk
    | some fw =>
      let f := verifyOne o unc fw 2
      if f.code = 0 then secOk else ⟨f.code, 128 ||| f.detail⟩

/-! ## Records (R473) -/

/-- A record of a section body. -/
inductive Rec where
  | reg (addr mask value : Nat)
  | table (tag : Nat) (data : List Byte)
  deriving DecidableEq, Repr

/-- The records of a body; none where it is not a run of whole records. -/
def records : Nat → List Byte → Option (List Rec)
  | _, [] => some []
  | 0, _ => none
  | k + 1, bs =>
    let w := beAt bs 0 4
    if w / 2 ^ 24 = 1 ∧ 12 ≤ bs.length then (records k (bs.drop 12)).map (fun rs => .reg (w % 2 ^ 24) (beAt bs 4 4) (beAt bs 8 4) :: rs)
    else
      let n := w % 2 ^ 16
      let whole := 4 + (n + 3) / 4 * 4
      if w / 2 ^ 24 = 2 ∧ whole ≤ bs.length then
        (records k (bs.drop whole)).map (fun rs => .table (w / 2 ^ 16 % 256) (slice bs 4 n) :: rs)
      else none

/-- The words of a table's data. -/
def tableWords (bs : List Byte) : List Nat := (List.range ((bs.length + 3) / 4)).map (fun i => beAt (padTo (bs.length + 3) bs) (4 * i) 4)

end Sys2Proof.Machine
end

