-- ==== Sys2Proof/Machine/Configure.lean ====
section
/-! DEFINITION. The configuration that a container holds (R473 to R477): its records and tables as register values and as the tables of
`Conf`, step 8 of R479 with the checks that other chapters assign to configuration, and putting it in force (R502). -/
namespace Sys2Proof.Machine

/-! ## Fields whose reset is cfg, beside those of class CFG and SHD (R14, R473) -/

/-- LIVE fields that take their value from the bitstream: register base and low bits. -/
def cfgLive : List (Nat × List Nat) :=
  [(0x020004, [0]), (0x040004, [0, 2]), (0x048000, [8]), (0x080000, [4]),
   (0x0E0000, (List.range 16).map (2 * ·)), (0x0E0010, [0]), (0x0E1060, [0, 1, 2, 16]), (0x100000, [0]), (0x100040, [0]),
   (0x101060, [0]), (0x101064, [0]), (0x101068, [0]), (0x103008, [12]), (0x103414, [0]), (0x110040, [0, 1]),
   (0x11007C, [0]), (0x130010, [0, 16])]

/-- The fields of a register that a REG record may set. -/
def cfgFields (a : Nat) : List Fld :=
  match regAt a with
  | none => []
  | some r =>
    let live := ((cfgLive.find? (fun e => e.1 == r.base)).map Prod.snd).getD []
    (r.fields.filter (fun x => x.cls == .cfg || x.cls == .shd || (x.cls == .live && live.contains x.lo))).map (fun x => ⟨a, x.lo, x.w⟩)

/-- The mask of a field within its register. -/
def Fld.mask (f : Fld) : Nat := (2 ^ f.w - 1) * 2 ^ f.lo

/-- The mask of some fields. -/
def maskOf (fs : List Fld) : Nat := fs.foldl (fun m f => m ||| f.mask) 0

/-- Masked bits of `old` take those of `new`. -/
def mergeBits (old new mask : Nat) : Nat := (old &&& (0xFFFFFFFF ^^^ mask)) ||| (new &&& mask)

/-! ## Registers behind windows -/

def ceSelAddr : Nat := 0x0C0020
def ceBlkAddr : Nat := 0x0C0040
def avCeSelAddr : Nat := 0x160400
def avCeAddr : Nat := 0x160440

/-- The addresses of the selection windows. -/
def isCeWindow (a : Nat) : Bool := decide (ceBlkAddr ≤ a) && decide (a < ceBlkAddr + 32)
def isAvCeWindow (a : Nat) : Bool := decide (avCeAddr ≤ a) && decide (a < avCeAddr + 32)

/-- Where a record's bits go: the register, or behind a selection window the parameter that the last record of its selection
register names. -/
def recTarget (sel avSel a : Nat) : Nat :=
  if isCeWindow a then (F.ceParam sel ((a - ceBlkAddr) / 4)).addr
  else if isAvCeWindow a then (F.ceSet avSel ((a - avCeAddr) / 4)).addr else a

/-- REG records as they are put in force: the values, the shadows, the two selections, and the bits already set. -/
structure RegAcc where
  rf : SMap Nat
  shadow : SMap Nat
  sel : Nat
  avSel : Nat
  used : SMap Nat
  ok : Bool
  deriving DecidableEq, Repr

/-- One REG record (R473). The selection registers only choose what a later record of their window means.
Mark: DESIGN CHOICE, unsafe (log entry 123). -/
def RegAcc.reg (lead : Bool) (s : RegAcc) (a mask v : Nat) : RegAcc :=
  let fs := cfgFields a
  let t := recTarget s.sel s.avSel a
  let pick := decide (a = ceSelAddr) || decide (a = avCeSelAddr)
  let fits := a % 4 == 0 && (mask &&& (0xFFFFFFFF ^^^ maskOf fs)) == 0 && (lead || decide (a < 0x160000)) &&
    (pick || (mget s.used t &&& mask) == 0)
  let put (m : SMap Nat) (f : Fld) : SMap Nat :=
    let k := if t = a then f.key else t * 8 + f.lo
    mset m k (mergeBits (mget m k * 2 ^ f.lo) v (mask &&& f.mask) / 2 ^ f.lo % 2 ^ f.w)
  let shd := match regAt a with
    | some r => r.flds a .shd
    | none => []
  { rf := fs.foldl put s.rf, shadow := shd.foldl put s.shadow,
    sel := if a = ceSelAddr then mergeBits s.sel v mask % 256 else s.sel,
    avSel := if a = avCeSelAddr then mergeBits s.avSel v mask % 64 else s.avSel,
    used := if pick then s.used else mset s.used t (mget s.used t ||| mask), ok := s.ok && fits }

/-! ## The records of every section -/

/-- The sections that hold records, those that a container must hold, and those that it may (R474). -/
def recTypes : List Nat := [1, 2, 3, 4, 5, 6, 7, 8, 9, 11, 12, 13]
def mustHold : List Nat := [1, 2, 3, 4, 5, 6, 7, 8, 9, 10, 11, 12, 14]
def mayHold : List Nat := [13]

/-- The records of a section; none where the body is broken. -/
def sectionRecs (bs : List Byte) (ty : Nat) : Option (List Rec) :=
  match cBody bs ty with
  | some b => records (b.length + 1) b
  | none => some []

def recsOf (bs : List Byte) (ty : Nat) : List Rec := (sectionRecs bs ty).getD []

/-- The data of a table. -/
def tableOf (bs : List Byte) (ty tag : Nat) : Option (List Byte) :=
  (recsOf bs ty).findSome? (fun r => match r with
    | .table t data => if t = tag then some data else none
    | .reg _ _ _ => none)

def tableWordsOf (bs : List Byte) (ty tag : Nat) : List Nat := tableWords ((tableOf bs ty tag).getD [])
def wordAt (ws : List Nat) (i : Nat) : Nat := (ws[i]?).getD 0

/-! ## The tables of `Conf` -/

/-- An entry of the CE instance table (R475). -/
def ceInstOf (b : List Byte) : CeInst :=
  let ins := beAt b 4 6
  let sg := beAt b 10 1
  { ty := beAt b 0 1, grouped := (beAt b 1 1).testBit 0, freeze := (beAt b 1 1).testBit 1, preset := (beAt b 1 1).testBit 2,
    set := beAt b 2 1, count := beAt b 3 1,
    ins := [ins / 2 ^ 36 % 4096, ins / 2 ^ 24 % 4096, ins / 2 ^ 12 % 4096, ins % 4096],
    signs := [6, 4, 2, 0].map (fun i => let c := sg / 2 ^ i % 4; if c = 1 then 1 else if c = 3 then -1 else 0) }

/-- The instance table. -/
def ceTable (bs : List Byte) : List CeInst :=
  let t := (tableOf bs 4 1).getD []
  (List.range (t.length / 16)).map (fun i => ceInstOf (slice t (16 * i) 16))

/-- LUT points by instance: the points of the LUT instances one after the other, two words each. -/
def lutPoints (is : List CeInst) (ws : List Nat) : SMap (List (Nat × Nat)) :=
  ((List.range is.length).foldl (fun (acc : List Nat × SMap (List (Nat × Nat))) i =>
    let c := (is[i]?).getD default
    if c.ty = tLut then
      (acc.1.drop (2 * c.count), mset acc.2 i ((List.range c.count).map (fun k => (wordAt acc.1 (2 * k), wordAt acc.1 (2 * k + 1)))))
    else acc) (ws, [])).2

/-- Pairs of words. -/
def pairs (ws : List Nat) : List (Nat × Nat) := (List.range (ws.length / 2)).map (fun i => (wordAt ws (2 * i), wordAt ws (2 * i + 1)))

/-- The safety section (R476). -/
def safOf (b : List Byte) : SafConf :=
  { groupId := beAt b 0 2, enable := beAt b 2 2, trip := beAt b 4 2, filter := (List.range 12).map (fun k => beAt b (6 + k) 1),
    startWindow := beAt b 18 2, chans := (List.range 4).map (fun k => beAt b (20 + k) 1),
    gains := (List.range 4).map (fun k => (beAt b (24 + 8 * k) 4, beAt b (28 + 8 * k) 4)),
    slvSets := (List.range 4).map (fun k => (beAt b (56 + 8 * k) 4, beAt b (60 + 8 * k) 4)),
    slvFilter := beAt b 88 1, slvAction := beAt b 89 1, slvSet := beAt b 90 1,
    slrM := beAt b 91 1, slrMax := beAt b 92 4, slrFilter := beAt b 96 1, slrAction := beAt b 97 1,
    sldBand := beAt b 98 4, sldSign := beAt b 102 1, sldFilter := beAt b 103 1, sldAction := beAt b 104 1, sldDir := beAt b 105 1,
    diverseTol := beAt b 106 4, injectTol := beAt b 110 2, msgTimeout := beAt b 112 2, crc := beAt b 120 4 }

/-- Locks by register address (R477). -/
def locksOf (bs : List Byte) : SMap Nat :=
  (recsOf bs 13).foldl (fun m r => match r with
    | .reg a mask _ => mset m a (mget m a ||| mask)
    | .table _ _ => m) []

/-- The configuration of a container. The layouts of the small tables are the model's own where R474 names their items only: one word
for each item in the order named. -/
def confOf (bs : List Byte) : Conf :=
  let top := tableWordsOf bs 1 1
  let is := ceTable bs
  { groupId := wordAt top 0 % 65536, position := wordAt top 1, heads := wordAt top 2, maxDelay := wordAt (tableWordsOf bs 1 2) 0,
    ce := is, lut := lutPoints is (tableWordsOf bs 4 2),
    sinks := (tableWordsOf bs 4 3).map (fun w => (w / 2 ^ 16, w % 2 ^ 16)), cost := wordAt (tableWordsOf bs 4 4) 0,
    refRange := pairs (tableWordsOf bs 4 5),
    armChan := (tableWordsOf bs 5 1).map (fun w => (w % 256, w.testBit 8)),
    ntc := pairs (tableWordsOf bs 9 1), saf := safOf ((cBody bs 10).getD []),
    startRoleA := wordAt (tableWordsOf bs 11 1) 0, startRoleB := wordAt (tableWordsOf bs 11 1) 1,
    services := [1, 2, 3].foldl (fun m t => mset m t (tableWordsOf bs 12 t)) [],
    energyIn := tableWordsOf bs 7 1, locks := locksOf bs,
    seq := cSeq bs, svn := cSvn bs, fwSvn := cSvn ((cBody bs 14).getD []), digest := sha (bs.take (cLen bs)) }

/-! ## Step 8 of R479: the records -/

/-- The REG records of every section but LOCKS, on a base of values and shadows. -/
def regsOf (bs : List Byte) (lead : Bool) (rf shadow : SMap Nat) : RegAcc :=
  (recTypes.filter (fun t => t != 13)).foldl (fun s t => (recsOf bs t).foldl (fun s r => match r with
    | .reg a m v => s.reg lead a m v
    | .table _ _ => s) s) ⟨rf, shadow, 0, 0, [], true⟩

/-- A LOCKS record is a REG record of value 0 on CFG, SHD or CMD fields outside the safety and security blocks (R477). -/
def lockOk (r : Rec) : Bool :=
  match r with
  | .table _ _ => false
  | .reg a mask v =>
    v == 0 && !(decide (0x120000 ≤ a) && decide (a < 0x130000)) && !(decide (0x140000 ≤ a) && decide (a < 0x150000)) &&
    (match regAt a with
     | some row => (mask &&& (0xFFFFFFFF ^^^ maskOf (row.flds a .cfg ++ row.flds a .shd ++ row.flds a .cmd))) == 0
     | none => mask == 0)

/-- SECTION: every required type once, none unknown, every body a run of whole records, every record allowed. -/
def sectionCheck (bs : List Byte) (lead : Bool) : SecRes :=
  let tys := (cTable bs).map SecEntry.ty
  let count (t : Nat) : Nat := (tys.filter (· == t)).length
  firstBad (
    tys.map (fun t => if mustHold.contains t ∨ mayHold.contains t then secOk else ⟨srSection, t⟩) ++
    mustHold.map (fun t => if count t = 1 then secOk else ⟨srSection, t⟩) ++
    mayHold.map (fun t => if count t ≤ 1 then secOk else ⟨srSection, t⟩) ++
    recTypes.map (fun t => if (sectionRecs bs t).isSome then secOk else ⟨srSection, t⟩) ++
    [if (regsOf bs lead resetValues resetShadows).ok then secOk else ⟨srSection, 0⟩,
     if (recsOf bs 13).all lockOk then secOk else ⟨srSection, 13⟩,
     if ((cBody bs 10).getD []).length = 124 then secOk else ⟨srSection, 10⟩])

/-! ## Step 8: the graph (R196 to R206, R219, R225) -/

/-- A primary instance is followed by its EXT instances, and by nothing else of that type (R200). -/
def shapeOk : Nat → List CeInst → Bool
  | _, [] => true
  | need, c :: r =>
    if 0 < need then c.ty == tExt && shapeOk (need - 1) r
    else decide (1 ≤ c.ty) && decide (c.ty ≤ 0x18) && shapeOk (ceOuts c.ty - 1) r &&
      (decide (ceOuts c.ty - 1 ≤ r.length))

/-- A source code of R201, on the lead or another head (R203). -/
def codeOk (lead : Bool) (n code : Nat) : Bool :=
  if code < 0x100 then decide (code < n)
  else decide (code < 0x130) || code == 0x132 || code == 0x133 || code == 0x160 || code == 0x161 || code == 0xFFF ||
    (lead && (code == 0x130 || code == 0x131 || code == 0x134 || code == 0x135 || (decide (0x140 ≤ code) && decide (code ≤ 0x15B))))

/-- LUT points: 2 to 16, finite, x strictly increasing. -/
def lutOk (ps : List (Nat × Nat)) : Bool :=
  decide (2 ≤ ps.length) && decide (ps.length ≤ 16) && ps.all (fun p => f32.isFin p.1 && f32.isFin p.2) &&
  (List.range (ps.length - 1)).all (fun i => f32.lt ((ps[i]?).getD (0, 0)).1 ((ps[i + 1]?).getD (0, 0)).1)

/-- The checks that the control engine's chapter assigns to the bitstream. -/
def graphOk (c : Conf) (lead : Bool) : Bool :=
  let is := c.ce
  let n := is.length
  let at_ (i : Nat) : CeInst := (is[i]?).getD default
  let idx := List.range n
  decide (1 ≤ n) && decide (n ≤ 256) && shapeOk 0 is &&
  is.all (fun x => x.ty == tExt || x.ins.all (codeOk lead n)) &&
  is.all (fun x => lead || x.ty != tArmsplit) &&
  is.all (fun x => !x.grouped || decide (x.set ≤ 63)) &&
  (if lead then c.sinks.any (fun s => s.1 == 0) && c.sinks.any (fun s => s.1 == 1) && c.sinks.all (fun s => decide (s.1 ≤ 1))
   else c.sinks.all (fun s => decide (2 ≤ s.1) && decide (s.1 ≤ 5))) &&
  c.sinks.all (fun s => decide (s.2 < n)) &&
  (is.map (fun x => ceCost x.ty x.count)).foldl (· + ·) 0 == c.cost &&
  decide ((is.map (fun x => 1 + ceWords x.ty x.count)).foldl (· + ·) 0 ≤ 3072) &&
  idx.all (fun i => let x := at_ i
    (x.ty != tMavg && x.ty != tDelay || (decide (1 ≤ x.count) && decide (x.count ≤ 64))) &&
    (x.ty != tLut || lutOk (mget c.lut i)) &&
    (x.ty != tManauto || (decide (x.count < i) && isController (at_ x.count).ty &&
      idx.all (fun j => j == i || (at_ j).ty != tManauto || (at_ j).count != x.count))))

/-! ## Step 8: the safety section (R383, R404) -/

/-- The check of one limited function's filter and action. -/
def filterOk (f act : Nat) : Bool := decide (1 ≤ f) && decide (f ≤ 64) && decide (act ≤ 2)

/-- The CRC and every range of R404, and the schedule of R383. Mark: DEDUCED, unsafe (log entry 176). -/
def safetyOk (d : Dev) (body : List Byte) : Bool :=
  let s := d.conf.saf
  let ch (k : Nat) : Nat := (s.chans[k]?).getD 255
  let on (k : Nat) : Bool := decide (ch k < 16)
  let gain (k : Nat) : Bool := match s.gains[k]? with
    | some (g, o) => f32.isFin g && f32.isFin o
    | none => false
  let sched (k : Nat) : Bool := (d.testChans (ch k / 4)).contains (ch k) && d.g (F.FS_TEST_SCHED_PERIOD (ch k / 4)) != 0
  let nonneg (x : Nat) : Bool := f32.isFin x && f32.le 0 x
  s.crc == crc32c (body.take 120) && s.groupId != 0 && s.groupId == d.conf.groupId && decide (s.enable < 4096) && decide (s.trip < 4096) &&
  (s.filter.take 8).all (fun f => decide (5 ≤ f) && decide (f ≤ 30)) &&
  (s.filter.drop 8).all (fun f => decide (2 ≤ f) && decide (f ≤ 8)) &&
  decide (1 ≤ s.startWindow) && decide (s.startWindow ≤ 1440) &&
  s.chans.all (fun c => decide (c < 16) || c == 255) && on 2 == on 3 &&
  [0, 1, 2, 3].all (fun k => !on k || (gain k && sched k)) &&
  (!on 0 || (s.slvSets.all (fun v => f32.isFin v.1 && f32.isFin v.2 && f32.lt v.1 v.2) && filterOk s.slvFilter s.slvAction &&
    decide (s.slvSet ≤ 3))) &&
  (!on 1 || (decide (1 ≤ s.slrM) && decide (s.slrM ≤ 64) && f32.isFin s.slrMax && f32.lt 0 s.slrMax && filterOk s.slrFilter s.slrAction)) &&
  (!on 2 || (nonneg s.sldBand && filterOk s.sldFilter s.sldAction && decide (s.sldDir ≤ 2) && (s.sldSign == 1 || s.sldSign == 255))) &&
  f32.isFin s.diverseTol && f32.lt 0 s.diverseTol && decide (1 ≤ s.injectTol) && decide (s.injectTol ≤ 4095) &&
  decide (20 ≤ s.msgTimeout) && decide (s.msgTimeout ≤ 1000)

/-! ## The head that a container would make -/

/-- Every register and table of a container on a head (R502, first item): values, shadows, configuration, and what the tables show. -/
def Dev.withConfig (d : Dev) (bs : List Byte) : Dev :=
  let a := regsOf bs d.isLead d.rf d.shadow
  let c := confOf bs
  let d := { d with rf := a.rf, shadow := a.shadow, conf := c }
  let d := (d.p F.CE_GRAPH_INSTANCES c.ce.length).p F.CE_GRAPH_SETS
    ((((c.ce.filter CeInst.grouped).map CeInst.set).eraseDups).length)
  let d := (d.p F.CE_COST_LANE_CYCLES c.cost).p F.CE_COST_WORDS ((c.ce.map (fun x => 1 + ceWords x.ty x.count)).foldl (· + ·) 0)
  let d := d.pb F.RED_STATE_START_ROLE ((if d.unit = 0 then c.startRoleA else c.startRoleB) == 1)
  (d.p F.CE_SEL_INSTANCE 0).p F.AV_CE_SEL_SET 0

/-- Lanes whose rates share a PLL are all at 10.3125 Gb/s or all below (R441). -/
def Dev.ratesOk (d : Dev) : Bool :=
  let fast (i : Nat) : Bool := d.g (F.LANE_CFG_RATE i) == 3
  (List.range 72).all (fun i => (List.range 72).all (fun j =>
    pllGroup i != pllGroup j || !d.b (F.LANE_CFG_USED i) || !d.b (F.LANE_CFG_USED j) || fast i == fast j))

/-- Lanes of an arm on this head, and those of them with FB cells. -/
def Dev.ownLanes (d : Dev) (a : Nat) : List Nat := (List.range 64).filter (fun l => d.configured l && d.armOf l == some a)
def Dev.ownFb (d : Dev) (a : Nat) : List Nat := (d.ownLanes a).filter (fun l => d.g (F.HCL_PORT_CTRL_CELL_TYPE l) == 1)

/-- BAL_GROUP and DC_FAULT of the lead's container (R252, R253): no head is admitted yet, so SPARES and NO_FB are checked where
the group is this head alone, against its own lanes. Mark: DEDUCED, unsafe (log entry 146). -/
def Dev.groupOk (d : Dev) : Bool :=
  let spares (a : Nat) : Nat := d.g (if a = 0 then F.AV_BAL_SPARES_SPARES0 else F.AV_BAL_SPARES_SPARES1)
  let s := mset (mset d.rf F.AV_BAL_SPARES_SPARES0.key 0) F.AV_BAL_SPARES_SPARES1.key 0
  d.validate 15 s == 0 &&
  (d.conf.heads != 1 || [0, 1].all (fun a => decide (spares a ≤ (d.ownLanes a).length) &&
    (d.g F.AV_DCF_MODE_MODE == 0 || (d.ownLanes a).isEmpty || !(d.ownFb a).isEmpty)))

/-- The checks of the other chapters, by section type (R479, step 8). A head other than the lead holds no arm view values, so the
checks on those are the lead's. -/
def Dev.validateConfig (d : Dev) (bs : List Byte) : SecRes :=
  let c := d.conf
  let per := d.g F.CAD_FRAME_PERIOD_PERIOD
  let grp (g : Nat) : Bool := d.validate g d.rf == 0
  let lead (g : Nat) : Bool := !d.isLead || grp g
  let chk (ty : Nat) (ok : Bool) : SecRes := if ok then secOk else ⟨srValidate, ty⟩
  let hasCells (a : Nat) : Bool := (List.range 64).any (fun l => d.configured l && d.armOf l == some a)
  let chans (r : Nat) : Nat := ((List.range 16).filter (fun k => d.g (F.PROT_SOFT_CTRL_ROLE k) == r)).length
  let gained (k : Nat) : Bool := !(d.role k == 1 || d.role k == 2) || fix32 (d.g (F.FS_GAIN_GAIN k)) != 0
  firstBad [
    chk 1 (c.groupId != 0 && decide (1 ≤ c.heads) && decide (c.heads ≤ 8) && d.ratesOk &&
      (List.range 64).all (fun l => !d.configured l || !d.isDx l || (d.armOf l).isNone)),
    chk 2 (decide (100 ≤ per) && decide (per ≤ 5000) && grp 0 &&
      d.budgetReason d.budgetNow per == 0),
    chk 3 (grp 12),
    chk 4 (graphOk c d.isLead && grp 1 && lead 13 && lead 14),
    chk 5 (grp 2 && (!d.isLead || d.groupOk)),
    chk 6 (grp 3 && grp 4 && grp 5 && grp 6),
    chk 7 (grp 8 && grp 9 && (List.range 16).all gained),
    chk 8 (grp 7 && lead 16 && [0, 1].all (fun a => chans (a + 1) == 1 || (!hasCells a && !d.isLead)) && decide (chans 3 ≤ 2)),
    chk 9 (grp 10 && (List.range 8).any (fun k => d.g (F.THM_TH_CFG_ROLE k) == 1)),
    chk 10 (safetyOk d ((cBody bs 10).getD [])),
    chk 11 (grp 11),
    chk 12 (decide (2 ≤ wordAt (mget c.services 1) 1) && decide (0x80 ≤ wordAt (mget c.services 1) 0))]

/-- The whole of R479 for a configuration container at a head: steps 1 to 7, then step 8. -/
def verifyConfig (o : SMap Nat) (d : Dev) (bs : List Byte) : SecRes :=
  let r := verify17 o d.sec.uncorr bs
  if r.code ≠ 0 then r
  else
    let s := sectionCheck bs d.isLead
    if s.code ≠ 0 then s
    else
      let fresh := { d with rf := resetValues, shadow := resetShadows, cmt := default, bal := default, cad := default, prot := default }
      let keep (d' : Dev) : Dev := (d'.p F.GLB_BOOT_STATUS_POSITION d.pos).p F.GLB_BOOT_STATUS_UNIT d.unit
      ((keep fresh).withConfig bs).validateConfig bs

end Sys2Proof.Machine
end

