-- ==== Sys2Proof/Machine/Lead.lean ====
section
/-! DEFINITION. Summaries and the lead's work of a frame (R235 to R250, R325, R326, R419, R434, R435, R505, R511): the
reports that heads send, and the quota message with everything that travels with it. -/
namespace Sys2Proof.Machine

/-- SO0 and SO2 of the island as the head sees them. -/
def Dev.so0 (d : Dev) : Bool := (d.g F.SAF_IO_SO).testBit 0
def Dev.so2 (d : Dev) : Bool := (d.g F.SAF_IO_SO).testBit 2

/-! ## The head's own report (R238, R325, R418, R510, R67) -/

/-- Both latches, or either, are set. -/
def Dev.latched (d : Dev) : Bool := d.b F.PROT_STATUS_LATCHED0 || d.b F.PROT_STATUS_LATCHED1

/-- The report of the present frame. A hold that an event set since the last summary counts in it (R576).
Mark: DEDUCED, unsafe (log entry 71). -/
def Dev.ownReport (d : Dev) : Report :=
  { frame := d.cad.frame, a0 := d.armSum 0, a1 := d.armSum 1, pen := d.penalty,
    hold := d.b F.PROT_STATUS_HOLD || d.prot.holdSeen, f4 := d.b F.PROT_STATUS_TRIPPED,
    hostHeld := d.b F.PROT_STATUS_HOST_HELD, latched := d.latched, so0 := d.so0, so2 := d.so2,
    energize := d.b F.THM_STATUS_ENERGIZE_OK, active := d.redState == 3, relinquished := d.red.report,
    echo := d.red.echoSeen, genRec := if d.red.genSet then some (d.g F.RED_GEN_RECORD_GENERATION) else none,
    avFrames := [13, 14, 15, 16, 17].map (fun g => mget d.cmt.avFrame g) }

/-- The sort ends (R238): the head forms its summary; the lead keeps its own for the next frame. -/
def Dev.sortEnd (d : Dev) : Dev :=
  if d.ticking && d.cad.work.gathered && !d.cad.work.sorted && !d.spectator then
    let d := { d with cad := { d.cad with work := { d.cad.work with sorted := true } } }
    let r := d.ownReport
    let d := { d with prot := { d.prot with holdSeen := false }, red := { d.red with report := false } }
    if d.isLead then { d with bal := { d.bal with next := mset d.bal.next 0 (some r) } }
    else d.spanSend (.summary r)
  else d

/-- The lead receives a head's summary (R238, R419, R413, R67). -/
def Dev.summaryTake (h : SpanHdr) (r : Report) (d : Dev) : Dev :=
  let (act, d) := d.spanTake spSummary h
  let p := h.origin % 8
  if act && d.isLead && p != 0 then
    let d := if r.frame = d.cad.frame then { d with bal := { d.bal with next := mset d.bal.next p (some r) } }
      else { d with bal := { d.bal with reports := mset d.bal.reports p (some r) } }
    let d := d.when r.relinquished (fun d => { d with red := { d.red with groupRelq := d.red.groupRelq <|> some d.cad.frame } })
    let d := d.when r.echo (fun d => { d with red := { d.red with echoSeen := true } })
    d.avEcho p r
  else d

/-- At a tick the summaries of the frame that ended become the ones in use (R23). -/
def Dev.promote (d : Dev) : Dev :=
  let rs := (List.range 8).foldl (fun m p => match mget d.bal.next p with
    | some r => mset m p (some r)
    | none => m) d.bal.reports
  { d with bal := { d.bal with reports := rs, next := [] } }

/-! ## Late summaries (R106, R107) -/

/-- Positions whose summary of the frame before has not come. -/
def Dev.stale (d : Dev) : List Nat :=
  (d.admitted.filter (fun p => p != 0)).filter (fun p => match d.reportOf p with
    | some r => r.frame != frameAdd d.cad.frame (2 ^ 32 - 1)
    | none => true)

/-- Each is counted, with its F0 and its miss; the others have met their deadline. -/
def Dev.lateSummaries (d : Dev) : Dev :=
  let st := d.stale
  (d.admitted.filter (fun p => p != 0)).foldl (fun d p =>
    if st.contains p then
      ((d.inc F.CAD_SUMMARY_LATE_COUNT).raise { src := 0x0104, cls := 0, detail := p }).missed 1 p
    else d.deadlineMet 1 p) d

/-! ## Suppression (R246 to R250) -/

/-- The state of an arm's suppression before its computation: a last frame has passed, or it is cancelled. -/
def Dev.suppOngoing (d : Dev) (a : Nat) : Dev :=
  let s := mget d.bal.supp a
  let s := if !d.b F.PROT_STATUS_DCSIDE then { s with used := false } else s
  let s := if s.active && (s.sentLast || mget d.bal.suppStop a || !d.so0) then
      { s with active := false, first := false, last := false, sentLast := false, zero := 0 }
    else { s with first := false }
  { d with bal := { d.bal with supp := mset d.bal.supp a s } }

/-- Entry (R246). Mark: DEDUCED, unsafe (log entry 68). -/
def Dev.suppEnter (d : Dev) (a : Nat) : Dev :=
  let s := mget d.bal.supp a
  if d.b F.PROT_STATUS_DCSIDE && d.latched && d.g F.AV_DCF_MODE_MODE == 1 && d.so0 && !s.active && !s.used &&
     decide (1 ≤ overHeads d.reports (fun r => (r.arm a).mfb)) then
    let s : Supp := { active := true, first := true, last := false, sentLast := false, since := d.cad.now, zero := 0, used := true }
    { d with bal := { d.bal with supp := mset d.bal.supp a s, suppStop := mset d.bal.suppStop a false } }.inc F.AV_DCF_SUPPRESS_COUNT
  else d

/-- A message that carries the last frame of a suppression is the last one of it. -/
def Dev.suppSent (d : Dev) (a : Nat) : Dev :=
  { d with bal := { d.bal with supp := mupd d.bal.supp a (fun s => { s with sentLast := s.last }) } }

/-- Frames at zero current, counted at a tick (R250); the frame of entry does not count. -/
def Dev.suppTick (d : Dev) : Dev :=
  [0, 1].foldl (fun d a =>
    let s := mget d.bal.supp a
    if s.active && !s.first then
      let z := decide ((fix32 (d.armI a)).natAbs ≤ (fix32 (d.g F.AV_DCF_IZERO_AMPS)).natAbs)
      { d with bal := { d.bal with supp := mset d.bal.supp a { s with zero := if z then s.zero + 1 else 0 } } }
    else d) d

/-- AV_DCF_HOLD frames at zero current end a suppression (R250). -/
def Dev.suppressEnd (a : Nat) (d : Dev) : Dev :=
  let s := mget d.bal.supp a
  if a < 2 ∧ s.active = true ∧ s.last = false ∧ 1 ≤ s.zero ∧ d.g F.AV_DCF_HOLD_FRAMES ≤ s.zero then
    { d with bal := { d.bal with supp := mset d.bal.supp a { s with last := true } } }
  else d

/-- AV_DCF_TMAX passes without AV_DCF_HOLD frames at zero current (R250): the suppression ends with its staggered turn-off, and an
F4, whose own Shutter is no further one. -/
def Dev.suppressTimeout (a : Nat) (d : Dev) : Dev :=
  let s := mget d.bal.supp a
  if a < 2 ∧ s.active = true ∧ s.last = false ∧ s.since + d.g F.AV_DCF_TMAX_MS * msQ ≤ d.cad.now ∧
      ¬ (1 ≤ s.zero ∧ d.g F.AV_DCF_HOLD_FRAMES ≤ s.zero) then
    let stop := d.bal.suppStop
    let d := { d with bal := { d.bal with supp := mset d.bal.supp a { s with last := true } } }
    let d := d.raise { src := 0x0403, cls := 4, detail := a, arms := 2 ^ a }
    { d with bal := { d.bal with suppStop := stop } }
  else d

/-! ## Releases (R325, R326) -/

/-- A report that is no older than the last release here: both are in the past, by how many frames. -/
def Dev.sinceRelease (d : Dev) (r : Report) : Bool :=
  let age (f : Nat) : Nat := (d.cad.frame + 2 ^ 32 - f) % 2 ^ 32
  match d.prot.relDone with
  | some f => decide (age r.frame ≤ age f)
  | none => true

/-- A head is latched by a report that is no older than the last release here. Mark: DEDUCED, unsafe (log entry 89). -/
def Dev.stillLatched (d : Dev) (r : Report) : Bool := r.latched && d.sinceRelease r

/-- Automatic releases whose target tick lies within AV_PROT_WINDOW. -/
def Dev.recentReleases (d : Dev) : List Nat :=
  d.prot.relTimes.filter (fun t => decide (d.cad.now < t + d.g F.AV_PROT_WINDOW_SECONDS * secQ + 1))

/-- The lead's view of HOLD, LATCHED and HOST_HELD, and the time since which no head has reported HOLD: it runs from the tick
after the frame reported (R576). -/
def Dev.releaseView (d : Dev) : Dev :=
  let mask (q : Report → Bool) : Nat := d.reports.foldl (fun m x => if q x.2 then setBit m x.1 else m) 0
  let held := d.reports.any (fun x => x.2.hold)
  let quiet := if held then some d.cad.tickAt else match d.prot.quietSince with
    | some t => some t
    | none => some d.cad.now
  let done := if d.reports.all (fun x => d.sinceRelease x.2) then none else d.prot.relDone
  let f4 := d.prot.hostOnly || d.b F.PROT_STATUS_TRIPPED || d.reports.any (fun x => x.2.f4)
  let d := { d with prot := { d.prot with quietSince := quiet, relTimes := d.recentReleases, relDone := done, hostOnly := f4 } }
  let d := (d.p F.AV_PROT_STATUS_HOLD (mask (fun r => r.hold))).p F.AV_PROT_STATUS_LATCHED (mask (fun r => r.latched))
  (d.p F.AV_PROT_STATUS_HOST_HELD (mask (fun r => r.hostHeld))).p F.AV_PROT_STATUS_RESTARTS d.prot.relTimes.length

/-- Name F = n + 3. -/
def Dev.nameRelease (d : Dev) (auto : Bool) : Dev :=
  { d with prot := { d.prot with relF := some (frameAdd d.cad.frame 3), relAuto := auto,
                                 relInit := d.b F.AV_PROT_RESTART_INIT, relLate := false } }.pb
    F.AV_PROT_STATUS_RELEASE_NAMED true

/-- The conditions of R325, evaluated in a frame in which no release is named. After an F4 the arms wait for the host (R328).
Mark: DEDUCED, unsafe (log entry 174). -/
def Dev.releaseNaming (d : Dev) : Dev :=
  let d := d.releaseView
  if d.prot.relF.isSome || !d.everyHead (fun r => !r.hold && r.so0) ||
     [0, 1].any (fun a => (mget d.bal.supp a).active) then d
  else if d.b F.AV_PROT_CMD_RELEASE then d.nameRelease false
  else
    let lim := d.g F.AV_PROT_RESTART_LIMIT
    let due := (match d.prot.quietSince with
        | some t => decide (t + d.g F.AV_PROT_RESTART_DELAY * 400000 ≤ d.cad.now)
        | none => false) &&
      !d.prot.hostOnly && d.everyHead (fun r => !r.hostHeld) && decide (lim ≠ 0) && d.reports.any (fun x => d.stillLatched x.2)
    if !due then d
    else if d.recentReleases.length < lim then d.nameRelease true
    else if d.prot.limitRaised then d
    else { d with prot := { d.prot with limitRaised := true } }.raise { src := 0x0611, cls := 4 }

/-! ## RESUME (R435, R509, R512) -/

/-- The lead names RESUME once every arm has its cells: always while ENERGIZED, from the entry to CHARGE on while ENERGIZING. -/
def Dev.resumeNaming (d : Dev) : Dev :=
  if d.redState == 3 && d.red.hold && d.red.resumeAt.isNone &&
     (d.engState == 2 || (d.engState == 1 && decide (engCharge ≤ d.engStep))) &&
     d.armsHave (fun a => (mget d.bal.armCalc a).m) then
    { d with red := { d.red with resumeAt := some (frameAdd d.cad.frame 3) } }
  else d

/-! ## The quota computation (R235 to R241) -/

/-- Both arms. -/
def Dev.computeArms (d : Dev) : Dev :=
  let st := d.stale
  [0, 1].foldl (fun d a =>
    let d := (d.suppOngoing a).suppEnter a
    d.showArm a (d.armCompute a (d.sink a) st)) d

/-- The claim that the message names (R434), or for a head admitted late (R505). -/
def Dev.claimPart (d : Dev) : Option (Nat × Nat × Option Nat) × Dev :=
  match d.red.claimAt with
  | some c => (some (c, d.red.claimGen, none), d)
  | none => match d.fab.late with
    | p :: rest =>
      if d.redState = 3 then (some (frameAdd d.cad.frame 3, claimGen d.claimB, some p), { d with fab := { d.fab with late := rest } })
      else (none, d)
    | [] => (none, d)

/-- The message of this frame. -/
def Dev.quotaMsg (d : Dev) (outcomes : List (Nat × Nat × Bool)) (claim : Option (Nat × Nat × Option Nat)) : QuotaMsg :=
  { frame := d.cad.frame, a0 := (mget d.bal.armCalc 0).q, a1 := (mget d.bal.armCalc 1).q, outcomes := outcomes,
    release := match d.prot.relF with
      | some f => if f = frameAdd d.cad.frame 2 then some (f, d.prot.relInit) else none
      | none => none,
    relinquish := d.red.groupRelq.any (fun f => f != d.cad.frame), resume := d.red.resumeAt, hold := d.eng.holdDue, cellsUp := d.eng.cellsUp, claim := claim,
    dormant := false, state := d.redState, sync := d.g F.CAD_SYNC_STATE_STATE, snap := d.red.snapDue, handover := d.red.handover }

/-- A head takes the quotas of a message (R241). -/
def Dev.takeQuota (d : Dev) (q : QuotaMsg) : Dev :=
  let w := { d.cad.work with quotas := true }
  let d := { d with cad := { d.cad with work := w }, bal := { d.bal with quota := q }, red := { d.red with noQuota := 0 } }
  (d.p F.RED_STATE_GROUP_STATE (if q.relinquish then 4 else q.state)).deadlineMet 3 0

/-- The quota computation of the lead: it runs once a frame, when the CE pass has ended (R100, R235). -/
def Dev.quotaCompute (d : Dev) : Dev :=
  let w := d.cad.work
  if d.isLead && d.ticking && (w.cePass || w.ceOver) && !w.quotas then
    let d := d.lateSummaries.computeArms
    let (os, d) := d.avDecide
    let d := d.releaseNaming.engFrame.resumeNaming
    let (claim, d) := d.claimPart
    let q := d.quotaMsg os claim
    let d := { d with red := { d.red with groupRelq := if q.relinquish then none else d.red.groupRelq, snapDue := none, relqNext := d.red.relqNext || q.relinquish },
                      eng := { d.eng with holdDue := false } }
    let d := ([0, 1].foldl Dev.suppSent d).takeQuota q
    let d := d.when q.handover.isSome (fun d => { d with red := { d.red with handoverAt := q.handover, handover := none } })
    if d.conf.heads ≤ 1 then d else d.emit (.quota q)
  else d

end Sys2Proof.Machine
end

