-- ==== Sys2Proof/Machine/Redund.lean ====
section
/-! DEFINITION. Redundancy (chapter *Redundancy: claims, Hatch and the dormant standby*): DORMANT, the phases of a wake,
the claim tick and RESUME, the host's commands, checkpoints and settings over Hatch (R407 to R438). -/
namespace Sys2Proof.Machine

/-! ## Fields packed into bytes (R425: most significant first) -/

/-- Fields of (width, value) as one number, the first the most significant. -/
def packBits (fs : List (Nat × Nat)) : Nat := fs.foldl (fun a x => a * 2 ^ x.1 + x.2 % 2 ^ x.1) 0

/-- `n` bytes that begin with the fields; the rest is 0. -/
def packBytes (n : Nat) (fs : List (Nat × Nat)) : List Byte :=
  be n (packBits fs * 2 ^ (8 * n - fs.foldl (fun a x => a + x.1) 0))

/-- The values of fields of the given widths at the head of a number of `bits` bits. -/
def unpackBits (bits v : Nat) : List Nat → List Nat
  | [] => []
  | w :: ws => v / 2 ^ (bits - w) % 2 ^ w :: unpackBits (bits - w) v ws

/-- The fields at the head of some bytes. -/
def unpackBytes (bs : List Byte) (ws : List Nat) : List Nat := unpackBits (8 * bs.length) (ofBe bs) ws

/-- Value `i` of a list, 0 beyond its end. -/
def nth (xs : List Nat) (i : Nat) : Nat := (xs[i]?).getD 0

/-! ## The sections of a checkpoint (R425) -/

def optW (w : Nat) (o : Option Nat) : List (Nat × Nat) := [(1, bit o.isSome), (w, o.getD 0)]

/-- The residual that a lane's legs hold, the first found. -/
def EdgeLane.firstRes (e : EdgeLane) : Nat :=
  ((List.range 4).flatMap (fun k => [(e.leg k).resUp, (e.leg k).resDn]) |>.find? (fun r => r != 0)).getD 0

/-- The lane section: BOOT, DISC_STATE, CNUM, the port state, a first VCAP accepted, TRIM, CARRY_HELD, VCAP, TEMP, the leg
commands, the residual, and how long before the tick the carrier interval in progress began.
Mark: DESIGN CHOICE, unsafe (log entry 98). -/
def laneWidths : List Nat := [1, 4, 3, 8, 3, 1, 1, 1, 32, 16, 2, 2, 2, 2, 22, 28]

def Dev.laneSection (d : Dev) (l : Nat) : List Byte :=
  let p := d.port! l
  let e := d.edgeOf l
  let start := match e.trim with
    | some r => r.start
    | none => match e.dx with
      | some r => r.lastStart.getD d.cad.tickAt
      | none => d.cad.tickAt
  let legs := (List.range 4).map (fun k => e.cmdAt k d.cad.tickAt)
  packBytes 16 (laneWidths.zip
    ([bit p.boot.isSome, p.boot.getD 0, d.disc l, d.g (F.HCL_CONV_LANE_CNUM l), d.g (F.HCL_PORT_STATE_STATE l),
      bit p.haveVcap, bit e.trim.isSome, bit (decide (0 < e.heldCount)), d.g (F.HCL_PORT_VCAP_VCAP l),
      d.g (F.HCL_PORT_CELL_TEMP l)] ++ legs ++ [e.firstRes, d.cad.tickAt - start]))

/-- The section of one arm: direction, polarity, trim cell, trim_frames, suppression and its entry in global time. -/
def armWidths : List Nat := [1, 1, 1, 6, 32, 1, 1, 1, 1, 1, 16, 64]

def Dev.armSection (d : Dev) (a : Nat) : List Byte :=
  let s := mget d.bal.supp a
  let t := mget d.bal.trim a
  packBytes 32 (armWidths.zip
    [bit (mget d.bal.discharge a), bit (d.bal.quota.arm a).neg, bit t.isSome, t.getD 0, mget d.bal.trimFrames a,
     bit s.active, bit s.first, bit s.last, bit s.sentLast, bit s.used, s.zero,
     (((s.since : Int) + d.cad.off) % 2 ^ 64).toNat])

/-- The protection section: latches, DCSIDE, reason, origin, HOLD, F4, bypass masks, SUBST, both estimates, the counts of R334 and
R337, and how many milliseconds ago the automatic releases lay. -/
def protWidths : List Nat :=
  [1, 1, 1, 3, 3, 1, 1, 1, 32, 32, 16, 32, 32, 1, 1] ++ List.replicate 16 5 ++ List.replicate 16 16 ++ [4] ++ List.replicate 15 22

def Dev.protSection (d : Dev) : List Byte :=
  let ks := List.range 16
  let subst := ks.foldl (fun m k => if d.b (F.PROT_CH_STATE_SUBST k) then setBit m k else m) 0
  let rel := d.prot.relTimes.take 15
  packBytes 128 (protWidths.zip
    ([d.g F.PROT_STATUS_LATCHED0, d.g F.PROT_STATUS_LATCHED1, d.g F.PROT_STATUS_DCSIDE, d.g F.PROT_STATUS_REASON,
      d.g F.PROT_STATUS_ORIGIN, d.g F.PROT_STATUS_HOST_HELD, d.g F.PROT_STATUS_HOLD, d.g F.PROT_STATUS_TRIPPED,
      d.g F.PROT_BYPASS_LO_MASK, d.g F.PROT_BYPASS_HI_MASK, subst, mget d.prot.est 0, mget d.prot.est 1,
      bit (mget d.prot.estAvail 0), bit (mget d.prot.estAvail 1)] ++
     ks.map (fun k => min 31 (d.chan k).differ) ++ ks.map (fun k => (d.chan k).substFrames) ++ [rel.length] ++
     (List.range 15).map (fun i => min (2 ^ 22 - 1) ((d.cad.now - nth rel i) / msQ))))

/-- The measurement section: both accumulators with their fractions, the MF frame count, ENERGY. -/
def measWidths : List Nat := [96, 96, 32, 1]

def Dev.measSection (d : Dev) : List Byte :=
  packBytes 64 (measWidths.zip [d.met.accImport, d.met.accExport, d.met.mfCount, d.g F.MET_STATUS_ENERGY])

/-- State words that an instance keeps (R206, R219). -/
def Dev.ceStateWords (d : Dev) (i : Nat) : Nat := ceWords (d.ceInst i).ty (d.ceInst i).count

/-- The control engine section: output and state words in instance order. -/
def Dev.ceSection (d : Dev) : List Byte :=
  d.ceRange.flatMap (fun i =>
    let w := if d.ce.fresh then (d.ceInitial i).1 else (mget d.ce.inst i).st
    let y := if d.ce.fresh then nth (d.ceInitial i).2 0 else mget d.ce.out i
    be 4 y ++ (List.range (d.ceStateWords i)).flatMap (fun k => be 4 (nth w k)))

/-- CONFIG_ID (R425). -/
def Dev.configId (d : Dev) : List Byte := padTo 8 d.conf.digest

/-- The checkpoint of the present tick (R425). -/
def Dev.checkpoint (d : Dev) (seq : Nat) : List Byte :=
  let body := (List.range 64).flatMap (fun l => d.laneSection l) ++ [0, 1].flatMap (fun a => d.armSection a) ++
    d.protSection ++ d.measSection ++ d.ceSection
  let head := be 1 1 ++ be 1 (d.pos + 8 * d.unit) ++ be 2 0 ++ be 4 (64 + body.length + 4) ++ be 4 seq ++
    be 4 d.claimSent ++ be 4 d.cad.frame ++ be 2 d.cad.epoch ++ be 2 0 ++ be 8 d.tickGlobal ++
    be 4 (d.g F.CAD_FRAME_PERIOD_PERIOD) ++ be 4 (d.g F.RED_CKPT_INTERVAL_UNITS) ++
    be 4 (d.g F.RED_SETTINGS_SEQ_SEQ) ++ d.configId ++ be 12 0
  let bs := head ++ body
  bs ++ be 4 (crc32 bs)

/-! ## Restoring (R433) -/

/-- A lane from its section. A lane whose BOOT has changed is discovered anew; otherwise DISC_STATE DONE is taken as
done (R185), and a discovery that ran at the other head begins again with the first usable USF. -/
def Dev.loadLane (d : Dev) (l : Nat) (bs : List Byte) : Dev :=
  let v := unpackBytes bs laneWidths
  let boot := if nth v 0 = 1 then some (nth v 1) else none
  let changed := match (d.port! l).boot with
    | some b => boot != some b
    | none => false
  let d := d.portUpd l (fun p => { p with boot := if p.boot.isSome then p.boot else boot, haveVcap := nth v 5 == 1 })
  let d := d.when (nth v 5 == 1) (fun d => (d.p (F.HCL_PORT_VCAP_VCAP l) (nth v 8)).p (F.HCL_PORT_CELL_TEMP l) (nth v 9))
  let start := d.cad.now - nth v 15
  let e := d.edgeOf l
  let e := (List.range 4).foldl (fun e k => e.legUpd k (fun g => { g with cmd := nth v (10 + k), since := d.cad.now })) e
  let e := if nth v 7 = 1 then e.legUpd 0 (fun g => { g with resUp := nth v 14 }) else e
  let e := { e with trim := if nth v 6 = 1 then some ⟨true, start, false⟩ else none }
  let d : Dev := { d with edge := mset d.edge l e }
  if d.disc l = 2 then d
  else if changed then (if d.laneUp l then d.discStart l else d)
  else (d.setDisc l (if nth v 2 = 2 then 0 else nth v 2)).clUpd l (fun c => { c with seen := d.laneUp l && nth v 2 == 3 })

def Dev.loadArm (d : Dev) (a : Nat) (bs : List Byte) : Dev :=
  let v := unpackBytes bs armWidths
  let s : Supp :=
    { active := nth v 5 == 1, first := nth v 6 == 1, last := nth v 7 == 1, sentLast := nth v 8 == 1, used := nth v 9 == 1,
      zero := nth v 10, since := ((nth v 11 : Int) - d.cad.off).toNat }
  { d with bal := { d.bal with discharge := mset d.bal.discharge a (nth v 0 == 1),
                               trim := mset d.bal.trim a (if nth v 2 = 1 then some (nth v 3) else none),
                               trimFrames := mset d.bal.trimFrames a (nth v 4), supp := mset d.bal.supp a s } }

def Dev.loadProt (d : Dev) (bs : List Byte) : Dev :=
  let v := unpackBytes bs protWidths
  let d := ((d.p F.PROT_STATUS_LATCHED0 (nth v 0)).p F.PROT_STATUS_LATCHED1 (nth v 1)).p F.PROT_STATUS_DCSIDE (nth v 2)
  let d := ((d.p F.PROT_STATUS_REASON (nth v 3)).p F.PROT_STATUS_ORIGIN (nth v 4)).p F.PROT_STATUS_HOST_HELD (nth v 5)
  let d := (d.p F.PROT_STATUS_HOLD (nth v 6)).p F.PROT_STATUS_TRIPPED (nth v 7)
  let d := (d.p F.PROT_BYPASS_LO_MASK (nth v 8)).p F.PROT_BYPASS_HI_MASK (nth v 9)
  let d := (List.range 16).foldl (fun d k =>
    (d.pb (F.PROT_CH_STATE_SUBST k) ((nth v 10).testBit k)).chanUpd k (fun c =>
      { c with differ := nth v (15 + k), substFrames := nth v (31 + k) })) d
  let times := (List.range (nth v 47)).map (fun i => d.cad.now - nth v (48 + i) * msQ)
  { d with prot := { d.prot with est := mset (mset d.prot.est 0 (nth v 11)) 1 (nth v 12),
                                 estAvail := mset (mset d.prot.estAvail 0 (nth v 13 == 1)) 1 (nth v 14 == 1),
                                 relTimes := times } }

/-- The energy of R305 and the MF frame count. -/
def Dev.loadMeas (d : Dev) (bs : List Byte) : Dev :=
  let v := unpackBytes bs measWidths
  let d := { d with met := { d.met with accImport := nth v 0, accExport := nth v 1, mfCount := nth v 2 } }
  (d.p F.MET_STATUS_ENERGY (nth v 3)).inc F.MET_ENERGY_RESTORE_COUNT

/-- The words of the control engine, from a byte offset on (R216, R433). -/
def Dev.loadCe (bs : List Byte) : List Nat → Nat → Dev → Dev
  | [], _, d => { d with ce := { d.ce with fresh := false, initDue := false } }
  | i :: is, off, d =>
    let n := d.ceStateWords i
    let st := (List.range n).map (fun k => beAt bs (off + 4 + 4 * k) 4)
    let ce := { d.ce with out := mset d.ce.out i (beAt bs off 4), inst := mupd d.ce.inst i (fun c => { c with st := st }) }
    Dev.loadCe bs is (off + 4 + 4 * n) { d with ce := ce }

/-- Every section of a checkpoint. -/
def Dev.loadSections (d : Dev) (bs : List Byte) : Dev :=
  let part (o n : Nat) : List Byte := (bs.drop o).take n
  let d := (d.p F.CAD_FRAME_PERIOD_PERIOD (beAt bs 32 4)).p F.AV_FRAME_PERIOD_PERIOD (beAt bs 32 4)
  let d := d.applyBudget
  let d := (List.range 64).foldl (fun d l => d.loadLane l (part (64 + 16 * l) 16)) d
  let d := (d.loadArm 0 (part 1088 32)).loadArm 1 (part 1120 32)
  let d := (d.loadProt (part 1152 128)).loadMeas (part 1280 64)
  Dev.loadCe bs d.ceRange 1344 d

/-- The settings image goes in force (R433): every group that a settings message has brought. -/
def Dev.loadImage (d : Dev) : Dev :=
  (List.range 18).foldl (fun d g => if d.red.imageGroups.testBit g then d.putInForce g d.red.image else d) d

/-- With ENERGY, converters 0 and 1 run again from the wake on, with the members in force (R301). -/
def Dev.energyResume (d : Dev) : Dev := d.when (d.b F.MET_STATUS_ENERGY) (fun d => (d.metBegin 0).metBegin 1)

/-! ## Retained buffers (R427) -/

def Dev.bufValid (d : Dev) (b : Nat) : Bool := d.b (F.RED_BUF_INFO0_VALID b)

/-- The newest valid buffer. -/
def Dev.newestBuf (d : Dev) : Option Nat :=
  if d.bufValid d.red.newest then some d.red.newest
  else if d.bufValid (1 - d.red.newest) then some (1 - d.red.newest) else none

/-- The buffer that the arriving checkpoint is written to. -/
def Dev.spareBuf (d : Dev) : Nat := match d.newestBuf with
  | some b => 1 - b
  | none => 0

/-- The header words of a buffer, from the first block (R429, R437). -/
def Dev.showBuf (d : Dev) (b : Nat) (bs : List Byte) : Dev :=
  let d := (d.p (F.RED_BUF_INFO0_LENGTH b) (beAt bs 4 4)).p (F.RED_BUF_INFO0_EPOCH b) (beAt bs 20 2)
  ((d.p (F.RED_BUF_INFO1_SEQ b) (beAt bs 8 4)).p (F.RED_BUF_INFO2_FRAME b) (beAt bs 16 4)).p
    (F.RED_BUF_INFO3_CLAIM b) (beAt bs 12 4)

/-- CKPT_BAD is recorded once at the next wake (R438). Mark: DEDUCED, unsafe (log entry 100). -/
def Dev.noteBad (d : Dev) (b : Nat) : Dev :=
  let d := d.inc F.RED_CKPT_BAD_COUNT
  if d.red.deferred.any (fun r => r.src == 0x0904) then d
  else { d with red := { d.red with deferred := d.red.deferred ++ [{ src := 0x0904, cls := 1, detail := b }] } }

/-- A checkpoint is complete (R427, R411, R417). -/
def Dev.checkpointDone (d : Dev) (it : HatchItem) : Dev :=
  let b := d.spareBuf
  let bs := it.blocks.flatten
  let n := beAt bs 4 4
  let sound := it.good && decide (68 ≤ n) && decide (n ≤ bs.length) && decide (bs.length < n + 256) &&
    crc32 (bs.take (n - 4)) == beAt bs (n - 4) 4
  let own := beAt bs 1 1 / 8 % 2 == d.unit
  let valid := sound && (bs.drop 44).take 8 == d.configId && !own
  let claim := beAt bs 12 4
  let d := d.when sound (fun d => d.noteGen claim)
  let d := d.when (sound && own) (fun d => d.raise { src := 0x0905, cls := 3 })
  let d := if valid then
      let r := { d.red with buf := mset d.red.buf b (bs.take n), newest := b, lastValid := some d.cad.now }
      ({ d with red := r }.pb (F.RED_BUF_INFO0_VALID b) true).inc F.RED_CKPT_RX_COUNT
    else d.noteBad b
  d.when (sound && d.redState == 3 && claimHigher claim (d.g F.RED_CLAIM_CLAIM)) (fun d => d.relinquish relqClaimHigh)

/-- A settings message is complete (R426): the retained image takes it. -/
def Dev.settingsDone (d : Dev) (it : HatchItem) : Dev :=
  if !it.good then d
  else
    let bs := it.blocks.flatten
    let g := beAt bs 0 4
    if 18 ≤ g then d
    else
      let ws := (List.range ((bs.length - 12) / 4)).map (fun i => beAt bs (12 + 4 * i) 4)
      let seq := beAt bs 4 4
      let d := { d with red := { d.red with image := ofGroupWords (d.members g) ws d.red.image,
                                            imageGroups := setBit d.red.imageGroups g, imageSeq := seq } }
      let d := d.inc F.RED_SETTINGS_RX_COUNT
      d.when (d.redState != 3) (fun d => d.p F.RED_SETTINGS_SEQ_SEQ seq)

/-- A Hatch block arrives (R422, R427): the 264 bytes that follow its control character. -/
def Dev.hatchBlock (bs : List Byte) (d : Dev) : Dev :=
  let ty := beAt bs 0 1
  if !(bs.length == 264 && crc32 (bs.take 260) == beAt bs 260 4 && (ty == 1 || ty == 2)) then
    let spoil (k : Nat) (m : SMap HatchItem) : SMap HatchItem :=
      mupd m k (fun it => if it.blocks.isEmpty then it else { it with good := false })
    { d with red := { d.red with arriving := spoil 1 (spoil 2 d.red.arriving) } }.inc F.RED_HATCH_ERR_COUNT
  else
    let s := beAt bs 1 1
    let ix := beAt bs 2 2 % 2 ^ 15
    let last := beAt bs 2 2 / 2 ^ 15 == 1
    let pay := (bs.drop 4).take 256
    let old := mget d.red.arriving ty
    let it : HatchItem := if ix = 0 then ⟨s, [pay], true⟩
      else ⟨s, old.blocks ++ [pay], old.good && old.seqLow == s && old.blocks.length == ix⟩
    let d := d.when (ty == 1 && ix == 0) (fun d => (d.pb (F.RED_BUF_INFO0_VALID d.spareBuf) false).showBuf d.spareBuf pay)
    if last then
      let d := { d with red := { d.red with arriving := mset d.red.arriving ty default } }
      if ty = 1 then d.checkpointDone it else d.settingsDone it
    else { d with red := { d.red with arriving := mset d.red.arriving ty it } }

/-! ## Entering DORMANT (R416) -/

/-- The service queues and the done list are cleared (R524). -/
def Dev.svcClear (d : Dev) : Dev :=
  let d : Dev := { d with svc := { d.svc with reqs := [], done := [] } }
  (List.range 16).foldl (fun d q => d.p (F.svcDepth q) 0) (d.p F.SVC_RESULT_INFO_DONE 0)

/-- In DORMANT no safety message flows: a loss noted before is none there (R394, R396). -/
def Dev.safDormant (d : Dev) : Dev :=
  ({ d with isl := { d.isl with lost := 0 } }.pb F.SAF_DEMAND_MSG_LOSS false).endSource 0x0804

/-- Nothing is raised for what the entry itself takes down. -/
def Dev.enterDormant (d : Dev) : Dev :=
  let d := ((d.endAllLanes resStanddown).svcStandDown.p F.RED_STATE_STATE 1).p F.RED_STATE_PHASE 7
  let df := d.red.deferred
  let d := d.shutLanes
  let d := ((d.pb F.CAD_SYNC_STATE_TICKS false).pb F.CE_STATUS_RUNNING false).p F.RED_STATE_GROUP_STATE 1
  let d := d.svcClear.hrpWatch.safDormant
  let d := { d with fab := { d.fab with spanq := [] } }
  { d with red := { d.red with deferred := df, retained := true, dormantAt := d.cad.now, lastValid := none, hold := false,
                               claimAt := none, resumeAt := none, relqNext := false, groupRelq := none, report := false,
                               sending := [], settings := [] } }

/-! ## Waking (R412, R430, R431) -/

/-- A phase begins. -/
def Dev.phase (d : Dev) (ph : Nat) : Dev :=
  { d with red := { d.red with phaseAt := d.cad.now } }.p F.RED_STATE_PHASE ph

/-- A wake starts: RESTORE, and the beacon on both bundles. Lanes and cells are met anew. -/
def Dev.startWake (d : Dev) (cold : Bool) : Dev :=
  let d := ((d.p F.RED_STATE_STATE 2).pb F.RED_STATE_COLD cold).phase 0
  let r := { d.red with wakeAt := d.cad.now, warmFrom := d.cad.now, claimAt := none, loaded := [], echoSeen := false,
                        notTaken := none, noQuota := 0, hold := false, resumeAt := none, report := false, groupRelq := none,
                        relqNext := false, highAt := none }
  let d := { d with red := r }.convRestart
  ((List.range 64).foldl (fun d l => d.portUpd l (fun p => { p with boot := none })) d).emit .beacon

/-- Phase ESTABLISH (R413): its 1.1 s runs from the first tick (R504). -/
def Dev.establish (d : Dev) : Dev :=
  let d := (d.pb F.RED_STATE_COLD true).phase 2
  { d with red := { d.red with echoSeen := false } }

/-- A relinquishment by a failing wake, with its fault (R417, R438). -/
def Dev.wakeFail (d : Dev) : Dev := (d.raise { src := 0x0906, cls := 3, detail := 0xFF }).relinquish relqWakeFail

/-- Is the head in a phase of a wake? -/
def Dev.inPhase (d : Dev) (ph : Nat) : Bool := d.redState == 2 && d.g F.RED_STATE_PHASE == ph

/-- RESTORE ends (R430). -/
def Dev.restoreDone (t : Nat) (crcOk : Bool) (d : Dev) : Dev :=
  let d := d.at t
  if !d.inPhase 0 then d
  else if crcOk then d.openLanes.phase 1
  else { d with red := { d.red with retained := false } }.wakeFail

/-- OPEN ends (R430, R414). -/
def Dev.openDone (t : Nat) (d : Dev) : Dev :=
  let d := d.at t
  if !d.inPhase 1 then d
  else if d.b F.RED_STATE_COLD then d.establish else d.phase 3

/-- The middle of the offsets of the lanes with sixteen accepted probes (R432): of an even number, the mean of the middle
two. -/
def medianOf (xs : List Int) : Int :=
  let ys := sortBy (fun a b => decide (a < b)) xs
  let n := ys.length
  if n = 0 then 0
  else if n % 2 = 1 then (ys[n / 2]?).getD 0
  else qdiv ((ys[n / 2 - 1]?).getD 0 + (ys[n / 2]?).getD 0) 2

/-- The value that most of a list shows, the earliest where several do. -/
def mostly (xs : List (Nat × Nat)) : Option (Nat × Nat) :=
  let n (x : Nat × Nat) : Nat := (xs.filter (fun y => y == x)).length
  xs.find? (fun x => xs.all (fun y => decide (n y ≤ n x)))

/-- The lead adopts time, frame number, epoch and T0 from its cells and its checkpoint (R432). Mark: DEDUCED, unsafe (log entry 103). -/
def Dev.adoptTime (d : Dev) : Dev :=
  let ls := (List.range 64).filter (fun l => d.laneUp l && decide (16 ≤ (d.probeOf l).accepted))
  let d := { d with cad := { d.cad with off := d.cad.off + medianOf (ls.map (fun l => (d.probeOf l).offset)) } }
  let bs := match d.newestBuf with
    | some b => mget d.red.buf b
    | none => []
  let f0 := beAt bs 16 4
  let time := beAt bs 24 8
  let per := max 1 (beAt bs 32 4 * 40)
  let samples := (List.range 64).filterMap (fun l => if d.laneUp l then (d.port! l).sample else none)
  match mostly (samples.map (fun s => (s.1, s.2.1))) with
  | none => d
  | some (f, e) =>
    let ticks := (f + 2 ^ 32 - f0) % 2 ^ 32
    let high := (time + ticks * per) / 2 ^ 40
    let low := d.global % 2 ^ 40
    let d := { d with cad := { d.cad with off := ((high * 2 ^ 40 + low : Nat) : Int) - (d.cad.now : Int) } }
    let at_ := ((time + ticks * per : Nat) : Int) - d.cad.off
    let d := { d with cad := { d.cad with t0Set := true, started := true, frame := f, epoch := e, tickAt := at_.toNat } }
    let d := (d.p F.CAD_FRAME_PERIOD_PERIOD (if bs.isEmpty then d.g F.CAD_FRAME_PERIOD_PERIOD else beAt bs 32 4)).catchUp
    { d with cad := { d.cad with rInt := 0, accepted := some d.cad.now, tight := 0, loose := 0 } }.p F.CAD_SYNC_STATE_STATE 1

/-- TIME ends (R430, R432). -/
def Dev.timeDone (t : Nat) (d : Dev) : Dev :=
  let d := d.at t
  if !d.inPhase 3 then d
  else (if d.isLead then d.adoptTime else d).phase 4

/-! ## LOADED and the claim (R433, R434) -/

/-- The claim of a generation at this head (R407). -/
def Dev.ownClaim (d : Dev) (gen : Nat) : Nat := gen % 2 ^ 24 * 256 + (if d.unit = 0 then 2 else 1)

/-- The higher of two generations by R408. -/
def higherGen (a b : Nat) : Nat := if claimHigher (a * 256 + 1) (b * 256 + 1) then a else b

/-- The lead names C = n + 3 and the generation. -/
def Dev.nameClaim (d : Dev) (gen : Nat) : Dev :=
  { d with red := { d.red with claimAt := some (frameAdd d.cad.frame 3), claimGen := gen % 2 ^ 24 } }.p F.RED_STATE_PHASE 5

/-- The lead names the claim from the LOADED reports (R434). -/
def Dev.claimFromLoaded (d : Dev) : Dev :=
  let rs := (List.range 8).filterMap (fun p => (mget d.red.loaded p).map (fun g => (p, g)))
  match rs with
  | [] => d
  | (p0, g0) :: _ =>
    let hi := rs.foldl (fun g x => higherGen x.2 g) g0
    let lo := rs.foldl (fun (m : Nat × Nat) x => if claimHigher (m.2 * 256 + 1) (x.2 * 256 + 1) then x else m) (p0, g0)
    let d := d.when (rs.any (fun x => x.2 != g0)) (fun d =>
      (d.inc F.RED_GEN_MISMATCH_COUNT).raise { src := 0x0907, cls := 1, detail := lo.1 })
    d.nameClaim (hi + 1)

/-- Admitted heads that have not reported LOADED. -/
def Dev.notLoaded (d : Dev) : List Nat := d.admitted.filter (fun p => (mget d.red.loaded p).isNone)

/-- A LOADED report is in at the lead: once all have come, the claim is named. -/
def Dev.loadedIn (d : Dev) (p gen : Nat) : Dev :=
  let d := { d with red := { d.red with loaded := mset d.red.loaded p (some gen) } }
  if d.redState == 2 && d.red.claimAt.isNone && d.notLoaded.isEmpty then d.claimFromLoaded else d

/-- LOAD ends (R430, R433): the newest valid buffer and the settings image, then LOADED; or the wake goes on cold. -/
def Dev.loadDone (t : Nat) (d : Dev) : Dev :=
  let d := d.at t
  if !d.inPhase 4 then d
  else match d.newestBuf with
    | some b =>
      let bs := mget d.red.buf b
      if (bs.drop 44).take 8 = d.configId then
        let d := (d.loadSections bs).loadImage.energyResume.phase 5
        let d := d.pb F.CE_STATUS_RUNNING true
        let gen := beAt bs 12 4 / 256
        if d.isLead then d.loadedIn 0 gen else d.spanSend (.span spLoaded 0 [gen])
      else d.establish
    | none => d.establish

/-- A LOADED message of a head (R434, R457). -/
def Dev.loadedTake (h : SpanHdr) (gen : Nat) (d : Dev) : Dev :=
  let (act, d) := d.spanTake spLoaded h
  if act && d.isLead then d.loadedIn (h.origin % 8) gen else d

/-- 8 ms after its own wake began the lead names the claim without the heads that have not reported (R434). -/
def Dev.claimNameTimeout (t : Nat) (d : Dev) : Dev :=
  let d := d.at t
  if d.isLead && d.inPhase 5 && d.red.claimAt.isNone && decide (d.red.wakeAt + 8 * msQ ≤ d.cad.now) then
    let out := d.notLoaded.foldl (fun m p => setBit m p) 0
    let d := d.when (out != 0) (fun d => d.raise { src := 0x0906, cls := 3, detail := out })
    d.claimFromLoaded
  else d

/-- A wake phase exceeds its bound (R430): phase CLAIM runs four frames from the last LOADED report. -/
def Dev.phaseTimeout (t : Nat) (d : Dev) : Dev :=
  let d := d.at t
  let ph := d.g F.RED_STATE_PHASE
  let tooFar (q : Nat) : Bool := decide (d.red.phaseAt + q < d.cad.now)
  let late := if ph = 0 then tooFar msQ else if ph = 1 then tooFar (500 * usQ) else if ph = 3 then tooFar (200 * usQ)
    else if ph = 4 then tooFar (100 * usQ)
    else if ph = 5 then (match d.red.claimAt with
      | some c => later d.cad.frame (frameAdd c 1)
      | none => false)
    else false
  if d.redState == 2 && late then d.wakeFail else d

/-- The 1.1 s of ESTABLISH have passed (R413, R504). Mark: DEDUCED, unsafe (log entry 102). -/
def Dev.establishEnd (t : Nat) (d : Dev) : Dev :=
  let d := d.at t
  if !(d.inPhase 2 && d.ticking && decide (d.red.phaseAt + 1100 * msQ ≤ d.cad.now)) then d
  else if !d.isLead then d.phase 5
  else if d.red.echoSeen then
    let q := { d.quotaMsg [] none with dormant := true, state := 1 }
    let d := if d.conf.heads ≤ 1 then d else d.emit (.quota q)
    d.enterDormant.inc F.RED_COLD_ABORT_COUNT
  else
    let own := if d.red.genSet then [d.g F.RED_GEN_RECORD_GENERATION] else []
    let gs := own ++ d.reports.filterMap (fun x => x.2.genRec)
    match gs with
    | [] => d.nameClaim 1
    | g :: r => d.nameClaim (r.foldl higherGen g + 1)

/-- The tick C of a claim (R410, R411, R434, R514): both claim registers, the hold of R435, and the records.
Mark: DEDUCED, unsafe (log entry 97). -/
def Dev.claimTick (d : Dev) : Dev :=
  if !(d.redState == 2 && d.ticking && d.red.claimAt == some d.cad.frame) then d
  else
    let c := d.ownClaim d.red.claimGen
    let cold := d.b F.RED_STATE_COLD
    let first := d.g F.RED_WAKE_COUNT == 0 && d.g F.RED_COLD_WAKE_COUNT == 0 && cold && d.g F.RED_STATE_CAUSE == 0
    let d := ({ d with claimB := c }.p F.RED_CLAIM_CLAIM c).noteGen c
    let d := ((d.p F.RED_STATE_STATE 3).p F.RED_STATE_PHASE 6).p F.RED_WAKE_TIME_US
      (min 65535 ((d.cad.now - d.red.warmFrom) / usQ))
    let df := d.red.deferred
    let r := { d.red with hold := true, holdFrames := 0, resumeAt := none, lateRaised := false, claimAt := none, ticks := 0,
                          notTaken := some 0, captured := false, deferred := [] }
    let d := { d with red := r }.inc (if cold then F.RED_COLD_WAKE_COUNT else F.RED_WAKE_COUNT)
    let d := d.raiseNow { src := 0x0902, cls := 1, detail := bit cold }
    let d := df.foldl Dev.raiseNow d
    if d.isLead && !first then
      if d.armsUsed.all (fun a => decide (fix32 (d.g F.AV_ENG_V_CHARGED_VOLTS) ≤ (mget d.bal.armCalc a).s)) then
        d.p F.AV_ENG_STATUS_STATE 2
      else d.engEnd 3 0x0B 0
    else d

/-! ## RESUME (R435, R512) -/

/-- Tick F of RESUME: the hold ends. -/
def Dev.resume (d : Dev) : Dev :=
  if d.redState == 3 && d.red.hold && d.red.resumeAt == some d.cad.frame then
    ({ d with red := { d.red with hold := false, resumeAt := none } }.p F.RED_STATE_PHASE 7).ceThaw
  else d

/-- RESUME has not come within 1,024 frames while ENERGIZED: F3, whose latch stays until a release (R435, R512).
Mark: DEDUCED, unsafe (log entry 104). -/
def Dev.resumeLate (d : Dev) : Dev :=
  if d.isLead && d.redState == 3 && d.red.hold && !d.red.lateRaised && d.engState == 2 && decide (1024 ≤ d.red.holdFrames) then
    let m := [0, 1].foldl (fun m a => if (mget d.bal.armCalc a).m < d.needed a then setBit m a else m) 0
    { d with red := { d.red with lateRaised := true } }.raise { src := 0x0908, cls := 3, detail := m, arms := m }
  else d

/-! ## Relinquish causes with rows of their own (R417) -/

/-- 64 frames after the claim in which no lane has shown CLAIM_OK. -/
def Dev.claimNotTaken (d : Dev) : Dev :=
  match d.red.notTaken with
  | some n => if d.redState = 3 ∧ 64 ≤ n then d.relinquish relqNotTaken else d
  | none => d

/-- The count of R417 at a tick. Mark: DEDUCED, unsafe (log entry 99). -/
def Dev.notTakenTick (d : Dev) : Dev :=
  match d.red.notTaken with
  | none => d
  | some n =>
    let ls := d.enabledLanes.filter (fun l => d.laneUp l)
    let v := if ls.any (fun l => d.b (F.HCL_PORT_STATE_CLAIM_OK l)) then none else if ls.isEmpty then some 0 else some (n + 1)
    { d with red := { d.red with notTaken := v } }

/-- Sixteen frames without a quota message. -/
def Dev.leadLost (d : Dev) : Dev :=
  if !d.isLead && decide (16 ≤ d.red.noQuota) then d.relinquish relqLeadLost else d

/-- The supervisor cores disagree. -/
def Dev.lockstep (d : Dev) : Dev := d.relinquish relqLockstep

/-! ## Wake events (R414, R415, R423, R428, R431) -/

/-- A Hatch notice: the 6 bytes that follow its control character. It cuts off whatever block was arriving (R423). -/
def Dev.notice (bs : List Byte) (d : Dev) : Dev :=
  let d := { d with red := { d.red with arriving := [] } }
  if !(bs.length == 6 && beAt bs 0 1 == 0x5A && crc8 (bs.take 5) == beAt bs 5 1) then d.inc F.RED_HATCH_ERR_COUNT
  else if d.redState = 1 then d.startWake false
  else d.inc F.RED_NOTICE_IGNORED_COUNT

/-- The length of the checkpoint watchdog, from the newest valid header (R428). -/
def Dev.watchdogLen (d : Dev) : Nat := match d.newestBuf with
  | some b => 3 * beAt (mget d.red.buf b) 36 4 * 10 * usQ
  | none => 0

/-- The checkpoint watchdog expires (R428). -/
def Dev.watchdog (t : Nat) (d : Dev) : Dev :=
  let d := d.at t
  match d.red.lastValid with
  | some t0 =>
    if d.redState = 1 ∧ t0 + d.watchdogLen ≤ d.cad.now then (d.inc F.RED_WATCHDOG_COUNT).startWake d.newestBuf.isNone else d
  | none => d

/-- START_WAIT passes with no valid checkpoint since the entry (R414). -/
def Dev.coldWake (t : Nat) (d : Dev) : Dev :=
  let d := d.at t
  if d.redState = 1 ∧ d.red.lastValid = none ∧ d.red.dormantAt + d.g F.RED_START_START_WAIT * 10 * msQ ≤ d.cad.now then
    d.startWake true
  else d

/-- The span detector of a DORMANT head recognises the beacon (R431). -/
def Dev.wakeBeacon (d : Dev) : Dev := if d.redState = 1 then d.startWake false else d

/-- What RED_WATCHDOG shows (R437): the time left, in 10 us units, of the watchdog or of START_WAIT. -/
def Dev.watchdogLeft (d : Dev) : Nat :=
  if d.redState ≠ 1 then 0
  else
    let stop := match d.red.lastValid with
      | some t0 => t0 + d.watchdogLen
      | none => d.red.dormantAt + d.g F.RED_START_START_WAIT * 10 * msQ
    min 65535 ((stop - d.cad.now) / (10 * usQ))

/-! ## The host's commands (R420) -/

/-- Causes of R417 that are present, as codes. -/
def Dev.causesPresent (d : Dev) : List Nat :=
  let ec (c : Nat) (b : Bool) : List Nat := if b then [c] else []
  ec relqClaimHigh (match d.red.highAt with
    | some f => f == d.cad.frame || frameAdd f 1 == d.cad.frame
    | none => false) ++
  ec relqClaimCheck d.claimDiffers ++ ec relqTbUnlock (!d.cad.tbLocked) ++
  ec relqLeadLost (!d.isLead && decide (16 ≤ d.red.noQuota)) ++
  ec relqThermal (d.relqMask 1 && d.b F.THM_STATUS_SHUTDOWN) ++
  ec relqSafety (d.relqMask 2 && d.g F.SAF_STATE_STATE == 5 &&
    d.g F.SAF_STATE_LOCK_CAUSE != 6 && d.g F.SAF_STATE_LOCK_CAUSE != 8) ++
  ec relqWakeFail (!d.red.retained)

/-- A command is refused. Mark: DEDUCED, unsafe (log entry 105). -/
def Dev.redRefuse (d : Dev) : Dev := d.inc F.RED_CMD_REFUSE_COUNT

/-- The key of RED_KEY is given, and it clears at every command write. Mark: DEDUCED, unsafe (log entry 28). -/
def Dev.redKey (d : Dev) : Bool × Dev := (d.g F.RED_KEY_KEY == 0x7A4E, d.p F.RED_KEY_KEY 0)

def Dev.cmdRelinquish (key : Bool) (d : Dev) : Dev :=
  if key && (d.redState == 2 || d.redState == 3) then d.relinquish relqHost else d.redRefuse

/-- The bit reads 1 until the head has relinquished; a second write meanwhile has no effect (R51, R570). -/
def Dev.cmdHandover (key : Bool) (d : Dev) : Dev :=
  if d.b F.RED_CMD_HANDOVER then d
  else if key && d.redState == 3 && d.isLead then
    { d with red := { d.red with handover := some (frameAdd d.cad.frame 3) } }.pb F.RED_CMD_HANDOVER true
  else d.redRefuse

/-- STANDBY needs no key. -/
def Dev.cmdStandby (d : Dev) : Dev :=
  let fresh := match d.red.lastValid with
    | some t => decide (d.cad.now ≤ t + 3 * d.g F.RED_CKPT_INTERVAL_UNITS * 10 * usQ)
    | none => false
  if d.redState == 4 && fresh && d.causesPresent.all (fun c => c == relqClaimHigh || c == relqGroup || c == relqHost) then
    d.enterDormant
  else d.redRefuse

def Dev.cmdTake (key : Bool) (d : Dev) : Dev :=
  if key && d.redState == 4 && d.causesPresent.all (fun c => c == relqGroup || c == relqHost) then d.startWake true
  else d.redRefuse

def Dev.cmdWake (key : Bool) (d : Dev) : Dev := if key && d.redState == 1 then d.startWake false else d.redRefuse

/-! ## Sending checkpoints and settings (R421, R424, R426) -/

/-- Ticks between scheduled checkpoints. -/
def Dev.ckptEvery (d : Dev) : Nat :=
  let t := max 1 d.periodQ
  max 1 ((d.g F.RED_CKPT_INTERVAL_UNITS * 10 * usQ + t - 1) / t)

/-- The frame named for a HANDOVER has come (R420): its checkpoint is taken at this tick, or at the next capture when the line was
still busy. Mark: DEDUCED, unsafe (log entry 101). -/
def Dev.handoverDue (d : Dev) : Bool := match d.red.handoverAt with
  | some f => !later f d.cad.frame
  | none => false

/-- A capture tick (R424, R420): the checkpoint is taken, or skipped while the one before is still being sent. -/
def Dev.capture (d : Dev) : Dev :=
  if !(d.redState == 3 && d.ticking && !d.red.captured && (d.red.ticks % d.ckptEvery == 0 || d.handoverDue)) then d
  else
    let d := { d with red := { d.red with captured := true } }
    if !d.red.sending.isEmpty then (d.inc F.RED_CKPT_SKIP_COUNT).raise { src := 0x0903, cls := 0 }
    else
      let seq := d.red.sendSeq
      let due := d.handoverDue
      let r := { d.red with sending := blocksOf (d.checkpoint seq), sendSeq := (seq + 1) % 2 ^ 32,
                            before := d.red.settings.length, handing := d.red.handing || due,
                            handoverAt := if due then none else d.red.handoverAt }
      { d with red := r }

/-- The bytes of a block: TYPE, sequence, INDEX, payload, CRC-32 (R422). -/
def blockBytes (ty seq : Nat) (n i : Nat) (pay : List Byte) : List Byte :=
  let b := be 1 ty ++ be 1 seq ++ be 2 (i + (if i + 1 = n then 2 ^ 15 else 0)) ++ padTo 256 pay
  b ++ be 4 (crc32 b)

/-- An item leaves in consecutive blocks. -/
def Dev.sendBlocks (d : Dev) (ty seq : Nat) (bs : List (List Byte)) : Dev :=
  (List.range bs.length).foldl (fun d i => d.emit (.hatch ty (blockBytes ty seq bs.length i ((bs[i]?).getD [])))) d

/-- The last block of a checkpoint has been sent (R420, R424). -/
def Dev.checkpointSent (d : Dev) : Dev :=
  if d.red.sending.isEmpty || decide (0 < d.red.before) then d
  else
    let d := (d.sendBlocks 1 ((d.red.sendSeq + 2 ^ 32 - 1) % 256) d.red.sending).inc F.RED_CKPT_SENT_COUNT
    let hand := d.red.handing
    let d := { d with red := { d.red with sending := [], handing := false } }
    d.when hand (fun d => d.relinquish relqHost)

/-- A settings message that is due is sent once the line is free (R424, R426). -/
def Dev.settingsSend (d : Dev) : Dev :=
  match d.red.settings with
  | [] => d
  | m :: r =>
    if d.red.sending.isEmpty || decide (0 < d.red.before) then
      let d := (d.sendBlocks 2 (beAt m 4 4 % 256) (blocksOf m)).inc F.RED_SETTINGS_SENT_COUNT
      { d with red := { d.red with settings := r, before := d.red.before - 1 } }
    else d

end Sys2Proof.Machine
end

