-- ==== Sys2Proof/Machine/Security.lean ====
section
/-! DEFINITION. The security commands (R484 to R494): key slots and lifecycle in OTP, flash slots, tokens, attestation. They act on the
head together with its OTP. -/
namespace Sys2Proof.Machine

/-- The head and its OTP. -/
structure Chip where
  otp : SMap Nat
  dev : Dev
  deriving DecidableEq, Repr

/-- Change the head. -/
def Chip.on (c : Chip) (f : Dev → Dev) : Chip := { c with dev := f c.dev }

/-! ## Data windows as bytes (R76) -/

/-- Word `i` of a data window. -/
def Dev.winWord (d : Dev) (w i : Nat) : Nat := mget d.win (w * 2 ^ 20 + i)

/-- `n` bytes of a window from a word on. -/
def Dev.winBytes (d : Dev) (w i n : Nat) : List Byte :=
  ((List.range ((n + 3) / 4)).flatMap (fun k => be 4 (d.winWord w (i + k)))).take n

/-- The container in window 0. -/
def Dev.windowContainer (d : Dev) : List Byte := d.winBytes 0 0 (min (d.winWord 0 2) 2097152)

/-! ## What OTP shows (R482, R496) -/

/-- The registers that OTP gives. -/
def showOtp (o : SMap Nat) (d : Dev) : Dev :=
  let u := d.sec.uncorr
  let d := d.p F.SEC_LIFECYCLE_STATE ((lifecycle o u).getD 0)
  let d := (d.p F.SEC_KEY_STATE_PROGRAMMED (keyMask (slotProgrammed o))).p F.SEC_KEY_STATE_REVOKED (keyMask (slotRevoked o u))
  let d := (d.p F.SEC_OTP_SVN_CFG_MIN (svnMin o 0)).p F.SEC_OTP_SVN_FW_MIN (svnMin o 1)
  [0, 1, 2, 3].foldl (fun d k => d.p (F.SEC_UID_WORD k) (otpWord o k)) d

/-- A new challenge (R492): four free words. -/
def Dev.newChallenge (d : Dev) : Dev :=
  [0, 1, 2, 3].foldl (fun d k => let (v, d) := d.draw; d.p (F.SEC_CHALLENGE_WORD k) v) d

/-- The challenge as bytes. -/
def Dev.challenge (d : Dev) : List Byte := [0, 1, 2, 3].flatMap (fun k => be 4 (d.g (F.SEC_CHALLENGE_WORD k)))

/-! ## Running a command (R486, R495) -/

/-- A bit of SEC_CMD. -/
def cmdBit (i : Nat) : Fld := ⟨F.SEC_CMD_LOAD.addr, i, 1⟩

/-- A bit of SEC_CMD is written: the key is taken and cleared (R490), and the command starts unless another runs; the same bit written
again has no effect (R570). Mark: DEDUCED, unsafe (log entry 122). -/
def Dev.secStart (d : Dev) (i : Nat) : Bool × Nat × Dev :=
  let key := d.sec.key
  let d := { d with sec := { d.sec with key := 0 } }
  match d.sec.running with
  | some j => (false, key, if i = j then d else { d with sec := { d.sec with busyHit := true } })
  | none => (true, key, { d with sec := { d.sec with running := some i, busyHit := false } }.pb (cmdBit i) true)

/-- A command ends with a result; BUSY where another bit was written meanwhile. -/
def Dev.secEnd (d : Dev) (i : Nat) (r : SecRes) : Dev :=
  let busy := d.sec.busyHit
  let d := { d with sec := { d.sec with running := none, busyHit := false } }.pb (cmdBit i) false
  let d := d.p F.SEC_RESULT_CMD i
  (d.p F.SEC_RESULT_STATUS (if busy then srBusy else r.code)).p F.SEC_RESULT_DETAIL (if busy then 0 else r.detail)

/-- NV_OK (R364). -/
def Dev.nvOk (d : Dev) : Bool := d.b F.THM_STATUS_NV_OK

/-- A non-volatile operation is refused (R364). -/
def Dev.nvRefuse (d : Dev) : Dev := (d.inc F.THM_NV_REFUSE_COUNT).raise { src := 0x0706, cls := 0 }

/-- A container is rejected (R487, R497). -/
def Dev.configReject (d : Dev) (r : SecRes) : Dev := (d.inc F.SEC_REJECT_COUNT).raise { src := 0x0B01, cls := 1, detail := r.code }

/-- Verification with the lifecycle that accepts configurations (R488). -/
def Chip.verify (c : Chip) (bs : List Byte) : SecRes :=
  let l := lifecycle c.otp c.dev.sec.uncorr
  if l = some 1 ∨ l = some 3 then verifyConfig c.otp c.dev bs else secFail srLifecycle

/-! ## LOAD and PROGRAM_SLOT (R487) -/

/-- LOAD written: accepted in NONE and RELINQUISHED. -/
def Dev.secLoad (d : Dev) : Dev :=
  let (go, _, d) := d.secStart 0
  if !go then d
  else if d.redState = 0 ∨ d.redState = 4 then d else d.secEnd 0 (secFail srState)

/-- PROGRAM_SLOT written: the container of window 0 is verified, and the slot erased. Mark: DEDUCED, unsafe (log entry 121). -/
def Chip.programSlot (c : Chip) : Chip :=
  let (go, _, d) := c.dev.secStart 1
  let c := { c with dev := d }
  if !go then c
  else
    let r := c.verify d.windowContainer
    c.on (fun d =>
      if r.code ≠ 0 then (d.secEnd 1 r).configReject r
      else if !d.nvOk then (d.secEnd 1 (secFail srNvWindow)).nvRefuse
      else
        let s := d.g F.SEC_CMD_ARG_SLOT
        { d with sec := { d.sec with slot := s, flash := mset d.sec.flash s [] } })

/-- The program ends: `good` is false for a flash error or a readback that differs. -/
def Dev.programSlotDone (good : Bool) (d : Dev) : Dev :=
  if d.sec.running ≠ some 1 then d
  else if !d.nvOk then (d.secEnd 1 (secFail srNvWindow)).nvRefuse
  else if !good then d.secEnd 1 (secFail srFlash)
  else { d with sec := { d.sec with flash := mset d.sec.flash d.sec.slot d.windowContainer } }.secEnd 1 secOk

/-! ## Provisioning and lifecycle (R484, R489, R490) -/

/-- A row is programmed and reads without error. -/
def rowGood (o : SMap Nat) (unc : List Nat) (i n : Nat) : Bool :=
  (otpWords o i n).any (· != 0) && unc.all (fun w => decide (w < i) || decide (i + n ≤ w))

/-- The identity rows, made from draw `k` where they do not already hold (R489). -/
def makeRows (o : SMap Nat) (unc : List Nat) (k : Nat) : SMap Nat :=
  let row (o : SMap Nat) (i n : Nat) : SMap Nat :=
    if rowGood o unc i n then o else otpSetAll o i ((List.range n).map (fun j => Config.keyRow k (i + j)))
  row (row o rsaRow rsaRowWords) slhRow slhRowWords

/-- The owner slots in the order of window 1: RSA K2, K3, SLH K2, K3. -/
def ownerSlots : List (Nat × Nat) := [(0, 2), (0, 3), (1, 2), (1, 3)]

/-- The four hashes of window 1. -/
def Dev.ownerHashes (d : Dev) : List (List Byte) := (List.range 4).map (fun i => d.winBytes 1 (12 * i) 48)

def allZero (bs : List Byte) : Bool := bs.all (fun b => b == 0#8)

/-- The words of some bytes. -/
def wordsOfBytes (bs : List Byte) : List Nat := (List.range (bs.length / 4)).map (fun i => beAt bs (4 * i) 4)

/-- Program the owner slots, or none where a row holds another hash. -/
def programOwners (o : SMap Nat) (hs : List (List Byte)) : Option (SMap Nat) :=
  let ok := (List.range 4).all (fun i =>
    let s := (ownerSlots[i]?).getD (0, 2)
    let h := (hs[i]?).getD []
    !slotProgrammed o s.1 s.2 || allZero h || slotHash o s.1 s.2 == h)
  if ok then some ((List.range 4).foldl (fun o i =>
    let s := (ownerSlots[i]?).getD (0, 2)
    otpSetAll o (slotAt s.1 s.2) (wordsOfBytes ((hs[i]?).getD []))) o) else none

/-- PROVISION written: identity keys made and programmed, then the owner slots. -/
def Chip.provision (c : Chip) : Chip :=
  let (go, key, d) := c.dev.secStart 5
  let c := { c with dev := d }
  let fin (r : SecRes) : Chip := c.on (fun d => d.secEnd 5 r)
  if !go then c
  else if key ≠ 0xA11B then fin (secFail srBadKey)
  else if lifeBits c.otp ≠ 0 then fin (secFail srLifecycle)
  else if !d.nvOk then c.on (fun d => (d.secEnd 5 (secFail srNvWindow)).nvRefuse)
  else
    let hs := d.ownerHashes
    if allZero ((hs[0]?).getD []) ∨ allZero ((hs[2]?).getD []) then fin (secFail srFormat)
    else
      let o := makeRows c.otp d.sec.uncorr d.free
      let d := { d with free := d.free + 1 }
      match programOwners o hs with
      | none => ⟨o, d.secEnd 5 (secFail srOtpConflict)⟩
      | some o => ⟨o, showOtp o d⟩

/-- PROVISION ends with the PROVISIONED bit. -/
def Chip.provisionDone (c : Chip) : Chip :=
  if c.dev.sec.running ≠ some 5 then c
  else if lifeBits c.otp ≠ 0 then c.on (fun d => d.secEnd 5 (secFail srLifecycle))
  else if !c.dev.nvOk then c.on (fun d => (d.secEnd 5 (secFail srNvWindow)).nvRefuse)
  else
    let o := lifeSet c.otp 1
    ⟨o, (showOtp o c.dev).secEnd 5 secOk⟩

/-- DEPLOY written. -/
def Chip.deploy (c : Chip) : Chip :=
  let (go, key, d) := c.dev.secStart 6
  let c := { c with dev := d }
  if !go then c
  else if key ≠ 0x9E3D then c.on (fun d => d.secEnd 6 (secFail srBadKey))
  else if lifeBits c.otp ≠ 1 then c.on (fun d => d.secEnd 6 (secFail srLifecycle))
  else if !d.nvOk then c.on (fun d => (d.secEnd 6 (secFail srNvWindow)).nvRefuse)
  else
    let o := lifeSet c.otp 3
    ⟨o, (showOtp o d).secEnd 6 secOk⟩

/-- ADVANCE_SVN written (R484). -/
def Chip.advanceSvn (c : Chip) : Chip :=
  let (go, key, d) := c.dev.secStart 4
  let c := { c with dev := d }
  let a := d.g F.SEC_CONFIG_SVN_CFG
  let b := d.g F.SEC_CONFIG_SVN_FW
  if !go then c
  else if key ≠ 0x51F0 then c.on (fun d => d.secEnd 4 (secFail srBadKey))
  else if a ≤ svnMin c.otp 0 ∧ b ≤ svnMin c.otp 1 then c.on (fun d => d.secEnd 4 secOk)
  else if !d.nvOk then c.on (fun d => (d.secEnd 4 (secFail srNvWindow)).nvRefuse)
  else
    let up (o : SMap Nat) (kind n : Nat) : SMap Nat := if n ≤ svnMin o kind then o else otpSet o (0x220 / 4 + kind) (thermo n)
    let o := up (up c.otp 0 a) 1 b
    ⟨o, (showOtp o d).secEnd 4 secOk⟩

/-! ## Tokens (R491, R492) -/

/-- Close every unlocked feature. -/
def Dev.closeFeatures (d : Dev) : Dev := ((d.p F.SEC_LIFECYCLE_UNLOCKED 0).p F.SEC_UNLOCK_REMAIN_SECONDS 0).endSource 0x0B06

/-- LOCK written. -/
def Dev.secLock (d : Dev) : Dev :=
  let (go, _, d) := d.secStart 7
  if go then d.closeFeatures.secEnd 7 secOk else d

/-- The DURATION of an unlock passes. -/
def Dev.unlockExpiry (t : Nat) (d : Dev) : Dev :=
  let d := d.at t
  if d.g F.SEC_LIFECYCLE_UNLOCKED ≠ 0 ∧ d.sec.unlockEnd ≤ d.cad.now then d.closeFeatures else d

/-- Bytes of a token. -/
def tokenLen : Nat := 64 + sigLen

/-- The algorithm and slot of a REVOKE. -/
def revAlg (bs : List Byte) : Nat := beAt bs 43 1
def revSlot (bs : List Byte) : Nat := beAt bs 42 1

/-- The checks of a token: form, UID and challenge, lifecycle, keys and signatures, and those of its action. -/
def Chip.tokenCheck (c : Chip) (bs : List Byte) : SecRes :=
  let o := c.otp
  let unc := c.dev.sec.uncorr
  let act := beAt bs 5 1
  let arg := beAt bs 40 4
  let dur := beAt bs 44 4
  let alg := revAlg bs
  let slot := revSlot bs
  let vendor := act == 2 && decide (slot < 2)
  let sig := slice bs 64 sigLen
  let life := lifecycle o unc
  firstBad [
    if beAt bs 0 4 = 0x5358544B ∧ beAt bs 4 1 = 1 ∧ 1 ≤ act ∧ act ≤ 3 ∧
      (act ≠ 1 ∨ (arg < 16 ∧ 1 ≤ dur ∧ dur ≤ 86400)) ∧ (act ≠ 2 ∨ (arg < 65536 ∧ alg ≤ 1 ∧ slot ≤ 3)) ∧ (act ≠ 3 ∨ arg = 0) ∧
      (act = 1 ∨ dur = 0) then secOk else secFail srFormat,
    if slice bs 8 16 = otpBytes o 0 16 ∧ slice bs 24 16 = c.dev.challenge then secOk else secFail srChallenge,
    if life = some 1 ∨ life = some 3 ∨ (life = some 0 ∧ vendor = true) then secOk else secFail srLifecycle,
    sigCheck o unc (bs.take 64) sig vendor,
    if act = 2 ∧ beAt sig (4 + alg) 1 = slot then secFail srKeyRole else secOk,
    if act = 2 ∧ !([0, 1, 2, 3].any (fun k => k != slot && (decide (k < 2)) == (decide (slot < 2)) &&
      slotProgrammed o alg k && !slotRevoked o unc alg k)) then secFail srLastKey else secOk,
    if act ≠ 1 ∧ !c.dev.nvOk then secFail srNvWindow else secOk]

/-- What a token that passes does. -/
def Chip.tokenAct (c : Chip) (bs : List Byte) : Chip :=
  let act := beAt bs 5 1
  if act = 1 then
    let feat := beAt bs 40 4 % 16
    let dur := beAt bs 44 4
    c.on (fun d =>
      let d := { d.closeFeatures with sec := { d.sec with unlockEnd := d.cad.now + dur * secQ } }
      let d := (d.p F.SEC_LIFECYCLE_UNLOCKED feat).p F.SEC_UNLOCK_REMAIN_SECONDS dur
      d.when (feat != 0) (fun d => d.raise { src := 0x0B06, cls := 1, detail := feat, event := false }))
  else if act = 2 then
    let o := tripleSet c.otp (revAt (revAlg bs) (revSlot bs))
    ⟨o, showOtp o c.dev⟩
  else
    let ones (n : Nat) : List Nat := List.replicate n 0xFFFFFFFF
    let o := lifeSet (otpSetAll (otpSetAll c.otp rsaRow (ones rsaRowWords)) slhRow (ones slhRowWords)) 7
    ⟨o, showOtp o c.dev⟩

/-- TOKEN written (R492): one challenge serves one command. -/
def Chip.token (c : Chip) : Chip :=
  let (go, _, d) := c.dev.secStart 2
  let c := { c with dev := d }
  if !go then c
  else
    let bs := d.winBytes 0 0 tokenLen
    let r := c.tokenCheck bs
    let c := if r.code = 0 then c.tokenAct bs
      else c.on (fun d =>
        let d := d.when (r.code == srNvWindow) Dev.nvRefuse
        (d.inc F.SEC_TOKEN_REFUSE_COUNT).raise { src := 0x0B05, cls := 0, detail := r.code })
    c.on (fun d => (d.secEnd 2 r).newChallenge)

/-! ## Attestation (R493, R494) -/

/-- The wrapped identity rows decode. -/
def rowsReadable (unc : List Nat) : Bool :=
  unc.all (fun w => decide (w < rsaRow) || decide (slhRow + slhRowWords ≤ w))

/-- ATTEST written. -/
def Chip.attest (c : Chip) : Chip :=
  let (go, _, d) := c.dev.secStart 3
  let life := (lifecycle c.otp d.sec.uncorr).getD 0
  { c with dev :=
    if !go then d
    else if life = 0 ∨ life = 7 then d.secEnd 3 (secFail srLifecycle)
    else if d.redState = 1 then d.secEnd 3 (secFail srState)
    else if !rowsReadable d.sec.uncorr then
      (d.secEnd 3 (secFail srState)).raise { src := 0x0B04, cls := 1, detail := (d.sec.uncorr.headD 0) % 256 }
    else
      let i := d.g F.SEC_CMD_ARG_NONCE
      { d with sec := { d.sec with nonceIndex := i, nonce := d.winBytes 1 i 48 } } }

/-- Bytes 0 to 255 of a report (R493). -/
def Chip.reportHead (c : Chip) : List Byte :=
  let d := c.dev
  let w (f : Fld) : Nat := d.g f
  let inForce := d.b F.SEC_CONFIG_IN_FORCE
  padTo 256 (be 4 0x53584154 ++ be 1 1 ++ be 1 (w F.SEC_LIFECYCLE_STATE) ++ be 2 0 ++ otpBytes c.otp 0 16 ++ padTo 48 d.sec.nonce ++
    (if inForce then padTo 48 d.conf.digest else padTo 48 []) ++ (if inForce then padTo 48 d.sec.fwDigest else padTo 48 []) ++
    be 4 (w F.SEC_CONFIG_SEQ_SEQ) ++ be 1 (w F.SEC_CONFIG_SVN_CFG) ++ be 1 (w F.SEC_CONFIG_SVN_FW) ++
    be 1 (svnMin c.otp 0) ++ be 1 (svnMin c.otp 1) ++
    be 2 (w F.SEC_KEY_STATE_PROGRAMMED + 256 * w F.SEC_KEY_STATE_REVOKED) ++ be 2 d.sec.signers ++ be 4 (w F.RED_CLAIM_CLAIM) ++
    be 1 d.redState ++ be 1 (w F.SAF_STATE_STATE) ++ be 1 (d.pos + 8 * d.unit) ++ be 1 (w F.SEC_LIFECYCLE_UNLOCKED) ++
    be 4 d.cad.frame ++ be 2 d.cad.epoch ++ be 2 0 ++ be 8 d.global ++ be 4 (w F.GLB_RESET_COUNT))

/-- The report with its signatures. -/
def Chip.reportBytes (c : Chip) : List Byte :=
  let rows := otpWords c.otp rsaRow rsaRowWords ++ otpWords c.otp slhRow slhRowWords
  let b := c.reportHead ++ padTo 388 (Config.idRsa rows) ++ padTo 48 (Config.idSlh rows) ++ be 4 0
  let dg := sha b
  b ++ padTo 384 (Config.signRsa rows dg c.dev.free) ++ padTo 35664 (Config.signSlh rows dg c.dev.free)

/-- ATTEST ends: the report is there for mailbox item ATTESTATION. -/
def Chip.attestDone (c : Chip) : Chip :=
  if c.dev.sec.running ≠ some 3 then c
  else
    let r : Attested := ⟨c.reportBytes, c.dev.sec.nonceIndex, c.dev.sec.nonce⟩
    c.on (fun d => ({ d with free := d.free + 1, sec := { d.sec with report := some r } }.inc F.SEC_ATTEST_COUNT).secEnd 3 secOk)

end Sys2Proof.Machine
end

