-- ==== Sys2Proof/Machine/Boot.lean ====
section
/-! DEFINITION. Reset and boot (R498 to R504, R349): what each reset source resets and keeps, the boot stages, and what happens when
configuration completes. -/
namespace Sys2Proof.Machine

/-! ## Reset sources (R498) -/

def rsPorAon : Nat := 0
def rsPorCore : Nat := 1
def rsPorSafe : Nat := 2
def rsResetN : Nat := 3
def rsSoft : Nat := 4
def rsSupWdt : Nat := 5
def rsLoad : Nat := 6

/-- Registers of the safety island, which only its own power-on resets (R369). -/
def inSafe (k : Nat) : Bool := decide (0x120000 * 8 ≤ k) && decide (k < 0x130000 * 8)

/-- Registers that AON retains: generation record, buffer headers, SEC_BOOT_CTRL, GLB_RESET_COUNT; and the balls, which are sampled at
release (R26, R498). Mark: DEDUCED, unsafe (log entry 151). -/
def inAon (k : Nat) : Bool :=
  k == F.RED_GEN_RECORD_GENERATION.key || (decide (0x130040 * 8 ≤ k) && decide (k < 0x130060 * 8)) ||
  k == F.SEC_BOOT_CTRL_PREFER.key || k == F.SEC_BOOT_CTRL_HOST_ONLY.key || k == F.GLB_RESET_COUNT.key ||
  k == F.GLB_BOOT_STATUS_POSITION.key || k == F.GLB_BOOT_STATUS_UNIT.key || k == F.RED_STATE_UNIT.key

/-- What a LOAD keeps beside: the host port's registers, and what OTP gave (R498). -/
def inHrp (k : Nat) : Bool :=
  (decide (0x000040 * 8 ≤ k) && decide (k < 0x000060 * 8)) || k == F.SEC_LIFECYCLE_STATE.key || k == F.SEC_KEY_STATE_PROGRAMMED.key ||
  k == F.SEC_KEY_STATE_REVOKED.key || k == F.SEC_OTP_SVN_CFG_MIN.key || k == F.SEC_OTP_SVN_FW_MIN.key ||
  (decide (0x140050 * 8 ≤ k) && decide (k < 0x140060 * 8)) || (decide (0x140034 * 8 ≤ k) && decide (k < 0x14003C * 8)) ||
  k == F.SEC_LOAD_COUNT.key || k == F.SEC_REJECT_COUNT.key || k == F.SEC_FALLBACK_COUNT.key || k == F.SEC_TOKEN_REFUSE_COUNT.key ||
  k == F.SEC_OTP_CORR_COUNT.key || k == F.SEC_ATTEST_COUNT.key

/-- The register file with some fields kept and the rest at reset. -/
def resetFile (keep : Nat → Bool) (rf : SMap Nat) : SMap Nat := mblend keep resetValues rf

/-- Reset everything but the safety island: `aon` keeps the retained memory of AON, `ring` the fault ring and the energy, which only a
power-on clears (R305, R349), `hrp` the host port. Mark: DESIGN CHOICE, unsafe (log entry 154). -/
def Dev.resetHead (aon ring hrp : Bool) (d : Dev) : Dev :=
  let keep (k : Nat) : Bool := inSafe k || (aon && inAon k) || (hrp && inHrp k)
  let p : Prot := if ring then { (default : Prot) with fq := d.prot.fq, ring := d.prot.ring, ringIdx := d.prot.ringIdx, seq := d.prot.seq,
                                                       fqNext := d.prot.fqNext }
    else { (default : Prot) with seq := 1 }
  let r : Red := if aon then { (default : Red) with buf := d.red.buf, newest := d.red.newest, image := d.red.image,
                                                    imageGroups := d.red.imageGroups, imageSeq := d.red.imageSeq, genSet := d.red.genSet }
    else default
  { (default : Dev) with
    rf := resetFile keep d.rf, shadow := resetShadows, isl := d.isl, out := d.out, free := d.free, red := r, prot := p
    conf := { (default : Conf) with saf := d.conf.saf, groupId := d.conf.groupId, heads := d.conf.heads }
    cad := { (default : Cad) with now := d.cad.now, ref := d.cad.ref, off := -(d.cad.now : Int) }
    met := if ring then { (default : Met) with accImport := d.met.accImport, accExport := d.met.accExport } else default
    svc := { (default : Svc) with nextTicket := 1, log := d.svc.log }
    sec := { (default : Sec) with flash := d.sec.flash, uncorr := if hrp then d.sec.uncorr else [] }
    boot := d.boot
    hrp := if hrp then d.hrp else default
    win := if hrp then d.win else [] }

/-- The causes are shown (R498). -/
def Dev.showCause (d : Dev) : Dev := d.p F.GLB_RESET_CAUSE_CAUSE d.boot.source

/-- A source becomes active: the first since the release starts a new list of causes; the reset is counted once, but a power-on of AON
clears the count (R499). Mark: DEDUCED, unsafe (log entry 124). -/
def Dev.resetBy (src : Nat) (aon ring : Bool) (d : Dev) : Dev :=
  let was := d.boot.held
  let cause := if was then setBit d.boot.source src else setBit 0 src
  let n := d.g F.GLB_RESET_COUNT
  let d := d.resetHead aon ring false
  let d := { d with boot := { d.boot with held := true, source := cause, container := [] } }
  let d := d.p F.GLB_RESET_COUNT (if src = rsPorAon then 0 else if was then n else n + 1)
  d.showCause

/-- VDD_AON falls (R498). -/
def Dev.porAon (t : Nat) (d : Dev) : Dev := (d.at t).resetBy rsPorAon false false

/-- A core rail falls (R498, R349). -/
def Dev.porCore (t : Nat) (d : Dev) : Dev := (d.at t).resetBy rsPorCore true false

/-- VDD_SAFE falls: the island alone is reset, into SELFTEST (R369, R374). SO0 goes off with it. Mark: DEDUCED, unsafe (log entry 116). -/
def Dev.porSafe (t : Nat) (d : Dev) : Dev :=
  let d := d.at t
  let was := (d.g F.SAF_IO_SO).testBit 0
  let cause := if d.boot.held then setBit d.boot.source rsPorSafe else setBit 0 rsPorSafe
  let d := { d with rf := resetFile (fun k => !inSafe k) d.rf, isl := { (default : Isl) with have_ := d.isl.have_, watch := d.isl.watch, trip := true },
                    boot := { d.boot with source := cause } }
  let d := d.safSelect.tpLevels
  let d := d.when was (fun d => d.safRaise { src := 0x0610, cls := 3, reason := reasonSafety, event := false })
  d.showCause.endSource 0x0802

/-- RESET_N low for 1 us (R498). -/
def Dev.resetN (t : Nat) (d : Dev) : Dev := (d.at t).resetBy rsResetN true true

/-- The key of R499. -/
def resetKeyWord : Nat := 0x5E7A

/-- RESET of GLB_CTRL (R499, R500): `key` is what GLB_RESET_KEY held. -/
def Dev.softReset (key : Nat) (d : Dev) : Dev :=
  if d.boot.held then d
  else if key ≠ resetKeyWord then d.inc F.GLB_RESET_REFUSE_COUNT
  else if d.halted then d
  else d.resetBy rsSoft true true

/-- The supervisor's watchdog (R498). -/
def Dev.supWdt (t : Nat) (d : Dev) : Dev :=
  let d := d.at t
  if d.boot.held ∨ d.halted then d else d.resetBy rsSupWdt true true

/-- Reset is released: the balls are sampled, a challenge is drawn, boot starts at OTP (R26, R492, R500).
Mark: DEDUCED, safe (log entry 125). -/
def Dev.resetRelease (t pos unit : Nat) (d : Dev) : Dev :=
  let d := d.at t
  if !d.boot.held then d
  else
    let d := { d with boot := { d.boot with held := false, releasedAt := d.cad.now } }
    let d := ((d.p F.GLB_BOOT_STATUS_POSITION pos).p F.GLB_BOOT_STATUS_UNIT unit).p F.RED_STATE_UNIT unit
    (d.p F.GLB_BOOT_STATUS_STAGE 1).newChallenge

/-! ## Boot stages (R500) -/

def Dev.stage (d : Dev) : Nat := d.g F.GLB_BOOT_STATUS_STAGE
def Dev.toStage (d : Dev) (n : Nat) : Dev := d.p F.GLB_BOOT_STATUS_STAGE n

/-- HALTED or WAIT_HOST with a cause. -/
def Dev.stageFail (d : Dev) (n err : Nat) : Dev :=
  (((d.toStage n).p F.GLB_BOOT_STATUS_ERROR err).inc F.GLB_BOOT_FAIL_COUNT).hrpWatch

/-- Stage OTP (R500, R482, R483): `corr` errors corrected, `unc` the words with an uncorrectable error.
Mark: DESIGN CHOICE, safe (log entry 127). -/
def Chip.otpStage (corr : Nat) (unc : List Nat) (c : Chip) : Chip :=
  if c.dev.stage ≠ 1 then c
  else c.on (fun d =>
    let d := { d with sec := { d.sec with uncorr := unc } }.addTo F.SEC_OTP_CORR_COUNT corr
    let bad := unc.filter (fun w => decide (slotAt 0 0 ≤ w) && decide (w < slotAt 1 3 + 12) ||
      (decide (rsaRow ≤ w) && decide (w < slhRow + slhRowWords)))
    let d := bad.foldl (fun d w => d.raise { src := 0x0B04, cls := 1, detail := w % 256 }) d
    let d := showOtp c.otp d
    if (lifecycle c.otp unc).isSome then d.toStage 2 else d.stageFail 15 1)

/-- Stage REF (R500): the reference is there and every PLL locks, or the stage waits. -/
def Dev.refStage (t : Nat) (locked : Bool) (d : Dev) : Dev :=
  let d := d.at t
  if d.stage ≠ 2 then d
  else if locked then { d with cad := { d.cad with tbLocked := true } }.toStage 3
  else d.p F.GLB_BOOT_STATUS_ERROR 2

/-- Stage BIST (R500). -/
def Dev.bistStage (pass : Bool) (d : Dev) : Dev :=
  if d.stage ≠ 3 then d else if pass then (d.toStage 4).safPresent else d.stageFail 15 3

/-- The container that a flash slot holds. -/
def Dev.slotBytes (d : Dev) (s : Nat) : List Byte := mget d.sec.flash s

/-- SEC_SLOT_STATUS of a slot. -/
def Dev.slotStatus (d : Dev) (s : Nat) (r : SecRes) (tried : Bool) : Dev :=
  ((d.p (F.SEC_SLOT_STATUS_STATUS s) r.code).p (F.SEC_SLOT_STATUS_DETAIL s) r.detail).pb (F.SEC_SLOT_STATUS_TRIED s) tried

/-- The order in which candidates are tried (R485). -/
def Dev.slotOrder (d : Dev) (cand : List Nat) : List Nat :=
  let p := d.g F.SEC_BOOT_CTRL_PREFER
  let bFirst := if p = 1 then false else if p = 2 then true else later (cSeq (d.slotBytes 1)) (cSeq (d.slotBytes 0))
  (if bFirst then [1, 0] else [0, 1]).filter cand.contains

/-- A container is about to be put in force. -/
def Dev.toApply (d : Dev) (bs : List Byte) (source : Nat) : Dev :=
  ({ d with boot := { d.boot with container := bs } }.toStage 6).p F.SEC_CONFIG_SOURCE source

/-- Stage SLOTS (R485). Mark: DEDUCED, unsafe (log entry 120). -/
def Chip.slotsStage (t : Nat) (c : Chip) : Chip :=
  let c := c.on (fun d => d.at t)
  let d := c.dev
  if d.stage ≠ 4 then c
  else
    let headOk (s : Nat) : SecRes := step1 (d.slotBytes s) 1
    let cand := if d.b F.SEC_BOOT_CTRL_HOST_ONLY then [] else [0, 1].filter (fun s => (headOk s).code == 0)
    let res (s : Nat) : SecRes := if cand.contains s then c.verify (d.slotBytes s) else headOk s
    let order := d.slotOrder cand
    let tried := match order.find? (fun s => (res s).code == 0) with
      | some s => order.takeWhile (fun x => x != s) ++ [s]
      | none => order
    let d := if d.b F.SEC_BOOT_CTRL_HOST_ONLY then d
      else [0, 1].foldl (fun d s => if cand.contains s ∧ !tried.contains s then d else d.slotStatus s (res s) (tried.contains s)) d
    let d := (order.filter (fun s => (res s).code != 0 && tried.contains s)).foldl (fun d _ => d.inc F.SEC_REJECT_COUNT) d
    let fell := decide (2 ≤ tried.length)
    let d := d.when fell (fun d => (d.inc F.SEC_FALLBACK_COUNT).raise { src := 0x0B02, cls := 1, detail := (tried.getLast?).getD 0 })
    { c with dev := match order.find? (fun s => (res s).code == 0) with
      | some s => d.toApply (d.slotBytes s) (s + 1)
      | none => (d.stageFail 5 4).raise { src := 0x0B03, cls := 1 } }

/-- LOAD ends its verification (R487): rejected, or every domain but AON, SAFE and HRP is reset and the container goes to APPLY.
Mark: DEDUCED, unsafe (log entry 153). -/
def Chip.loadDone (t : Nat) (c : Chip) : Chip :=
  let c := c.on (fun d => d.at t)
  if c.dev.sec.running ≠ some 0 then c
  else
    let bs := c.dev.windowContainer
    let r := c.verify bs
    if r.code ≠ 0 then c.on (fun d => (d.secEnd 0 r).configReject r)
    else c.on (fun d =>
      let n := d.g F.GLB_RESET_COUNT
      let d := d.secEnd 0 secOk
      let res := (d.g F.SEC_RESULT_STATUS, d.g F.SEC_RESULT_DETAIL)
      let d := (d.resetHead true true true).p F.GLB_RESET_COUNT (n + 1)
      let d := { d with boot := { d.boot with source := setBit 0 rsLoad, releasedAt := d.cad.now }, cad := { d.cad with tbLocked := true } }
      let d := ((d.p F.SEC_RESULT_CMD 0).p F.SEC_RESULT_STATUS res.1).p F.SEC_RESULT_DETAIL res.2
      ((d.showCause.newChallenge).toApply bs 3).hrpWatch)

/-! ## Configuration completes (R502) -/

/-- The slots that signed: configuration in [3:0], firmware in [11:8] (R493). -/
def signersOf (bs : List Byte) : Nat :=
  let one (b : List Byte) : Nat := beAt (cSig b) 4 1 % 4 + 4 * (beAt (cSig b) 5 1 % 4)
  one bs + 256 * one ((cBody bs 14).getD [])

/-- What the security registers show of the configuration in force. -/
def Dev.showConfig (d : Dev) : Dev :=
  let c := d.conf
  let d := (d.pb F.SEC_CONFIG_IN_FORCE true).p F.SEC_CONFIG_SVN_CFG c.svn
  let d := (d.p F.SEC_CONFIG_SVN_FW c.fwSvn).p F.SEC_CONFIG_SEQ_SEQ c.seq
  let d := (d.p F.SEC_CONFIG_ID_HI_ID (beAt c.digest 0 4)).p F.SEC_CONFIG_ID_LO_ID (beAt c.digest 4 4)
  d.inc F.SEC_LOAD_COUNT

/-- The log is scanned: the highest LOG_SEQ whose CRC is good (R529). -/
def logHighest (log : SMap (List Byte)) : Option Nat :=
  let good := (log.filter (fun e => e.2.length == 64 && crc32 (e.2.take 60) == beAt e.2 60 4)).map (fun e => beAt e.2 1 3)
  good.foldl (fun m s => match m with
    | none => some s
    | some x => if (s + 2 ^ 24 - x) % 2 ^ 24 < 2 ^ 23 then some s else some x) none

/-- The lanes take the power states of the configuration (R454, R502). -/
def Dev.lanesConfigure (d : Dev) : Dev :=
  (List.range 72).foldl (fun d i => if d.b (F.LANE_CFG_USED i) then d.laneSetPower i (d.g (F.LANE_CTRL_POWER i)) else d) d

/-- Configuration completes at time `t` (R502, R412): registers, tables and locks; the island; DEENERGIZED; then the role. -/
def Dev.configComplete (t : Nat) (d : Dev) : Dev :=
  let d := d.at t
  if d.stage ≠ 6 then d
  else
    let bs := d.boot.container
    let d := (d.withConfig bs).toStage 7
    let d := { d with boot := { d.boot with container := [] },
                      sec := { d.sec with fwDigest := sha ((cBody bs 14).getD []), signers := signersOf bs } }
    let d := d.p F.GLB_BOOT_TIME_US100 (min 65535 (qdiv ((d.cad.now - d.boot.releasedAt : Nat) : Int) 400000).toNat)
    let d := d.showConfig.lanesConfigure.safConfigure
    let d := d.p F.SVC_LOG_STATE_LOG_SEQ ((logHighest d.svc.log).getD 0)
    let d := { d with ce := { d.ce with initDue := true }, red := { d.red with retained := true, wakeAt := d.cad.now, warmFrom := d.cad.now } }
    let d := d.convRestart.setT0.enumStart.applyBudget.testConflict.mfConflict
    if d.b F.RED_STATE_START_ROLE then ({ d with rf := (d.p F.RED_STATE_STATE 2).rf }).establish
    else d.enterDormant

end Sys2Proof.Machine
end

