-- ==== Sys2Proof/Machine/Services.lean ====
section
/-! DEFINITION. Supervisor services (R519 to R532): requests, queues and results, the catalogue, and the flash log. A service runs by
the steps of its own command; each step is one boundary of R525. -/
namespace Sys2Proof.Machine

/-! ## Results (R532) and codes (R525) -/

def svOk : Nat := 0
def svBadCode : Nat := 1
def svBadArg : Nat := 2
def svQFull : Nat := 3
def svState : Nat := 4
def svPartial : Nat := 5
def svNvWindow : Nat := 6
def svFlash : Nat := 7
def svCancelled : Nat := 8
def svStanddown : Nat := 9

/-- Argument words of a code; none outside the catalogue. -/
def svcArgs (code : Nat) : Option Nat :=
  match code with
  | 1 => some 0 | 2 => some 0 | 3 => some 1 | 4 => some 4 | 5 => some 0 | 6 => some 1 | 7 => some 2 | 8 => some 1
  | _ => none

/-- The services that use the boot flash (R521). -/
def usesFlash (code : Nat) : Bool := decide (5 ≤ code) && decide (code ≤ 8)

/-! ## Queues (R520, R521) -/

/-- The requests of a queue, in order. -/
def Dev.svcQueue (d : Dev) (q : Nat) : List SvcReq := d.svc.reqs.filter (fun r => r.queue == q)

/-- Put a list of requests in place, and show the depths. -/
def Dev.setReqs (d : Dev) (rs : List SvcReq) : Dev :=
  let d := { d with svc := { d.svc with reqs := rs } }
  (List.range 16).foldl (fun d q => d.p (F.svcDepth q) (d.svcQueue q).length) d

/-- Change the request of a ticket. -/
def Dev.reqUpd (d : Dev) (ticket : Nat) (f : SvcReq → SvcReq) : Dev :=
  d.setReqs (d.svc.reqs.map (fun r => if r.ticket == ticket then f r else r))

/-- A request ends with a result and its data. -/
def Dev.reqEnd (d : Dev) (ticket res : Nat) (data : List Nat) : Dev :=
  d.reqUpd ticket (fun r => { r with running := false, ended := some res, data := data })

/-- The ticket after one (R520). -/
def nextTicket (t : Nat) : Nat := if t % 65536 = 65535 then 1 else t % 65536 + 1

/-- Accept a request. -/
def Dev.svcAccept (d : Dev) (code q : Nat) (args : List Nat) : Dev :=
  let t := d.svc.nextTicket
  let r : SvcReq := { (default : SvcReq) with ticket := t, code := code, queue := q, args := args }
  ({ d with svc := { d.svc with nextTicket := nextTicket t } }).setReqs (d.svc.reqs ++ [r])

/-- The check of a submission (R520). -/
def Dev.svcCheck (d : Dev) (code q n : Nat) : Nat :=
  match svcArgs code with
  | none => svBadCode
  | some k => if n ≠ k then svBadArg else if 4 ≤ (d.svcQueue q).length then svQFull else svOk

/-- Submit (R519, R520). -/
def Dev.svcSubmitArgs (d : Dev) (code q : Nat) (args : List Nat) : Dev :=
  let st := d.svcCheck code q args.length
  let d := d.p F.SVC_SUBMIT_RESULT_STATUS st
  if st = 0 then
    ((d.p F.SVC_SUBMIT_RESULT_TICKET d.svc.nextTicket).svcAccept code q args).inc F.SVC_SUBMIT_COUNT
  else d.inc F.SVC_REFUSE_COUNT

/-- A write of 1 to SUBMIT: the arguments come from window 1. -/
def Dev.svcSubmit (d : Dev) : Dev :=
  d.svcSubmitArgs (d.g F.SVC_REQ_CODE) (d.g F.SVC_REQ_QUEUE) ((List.range (d.g F.SVC_REQ_ARG_WORDS)).map (d.winWord 1))

/-! ## Ending (R522 to R524) -/

/-- AUTO_CLASS of the SERVICES section (R538). -/
def Dev.autoClass (d : Dev) : Nat := match mget d.conf.services 2 with
  | w :: _ => w
  | [] => 0xFF

/-- The supervisor owes LOG_FAULTS on queue 15 (R531): queued as soon as the queue takes it. -/
def Dev.autoLog (d : Dev) : Dev :=
  if d.svc.autoLog && decide ((d.svcQueue 15).length < 4) then
    ({ d with svc := { d.svc with autoLog := false } }).svcAccept 5 15 []
  else d

/-- The fault engine takes an entry, and the supervisor queues LOG_FAULTS for a record of AUTO_CLASS or higher (R344, R531). With the record
of a fault that sent a SHUTTER the head relinquishes if its claim registers differed there (R410).
Mark: DEDUCED, unsafe (log entry 177). -/
def Dev.faultEngineStep (d : Dev) : Dev :=
  match d.engineTake with
  | (none, d) => d
  | (some r, d) =>
    let d := d.faultMessage r
    let d := d.when (decide (3 ≤ r.cls) && d.claimDiffers) (Dev.relinquish relqClaimCheck)
    if d.autoClass ≤ 4 ∧ d.autoClass ≤ r.cls ∧ d.confDone = true ∧ 2 ≤ d.redState then
      { d with svc := { d.svc with autoLog := true } }.autoLog
    else d

/-- The request at the front of a queue joins the done list once it has ended, while the list has room (R522). -/
def Dev.serviceEnd (q : Nat) (d : Dev) : Dev :=
  match d.svcQueue q with
  | r :: _ =>
    match r.ended with
    | some res =>
      if 16 ≤ d.svc.done.length then d
      else
        let d := d.setReqs (d.svc.reqs.filter (fun x => x.ticket != r.ticket))
        let e : SvcDone := ⟨r.ticket, r.code, res, r.data⟩
        let d : Dev := { d with svc := { d.svc with done := d.svc.done ++ [e] } }
        let d := d.p F.SVC_RESULT_INFO_DONE d.svc.done.length
        (d.when (res != 0) (fun d => d.inc F.SVC_FAIL_COUNT)).autoLog
    | none => d
  | [] => d

/-- Words into data window 3 from word 0, the rest of it cleared (R522). -/
def Dev.loadWindow3 (d : Dev) (ws : List Nat) : Dev :=
  let base := 3 * 2 ^ 20
  let kept := d.win.filter (fun e => decide (e.1 < base) || decide (base + 2 ^ 20 ≤ e.1))
  let win := (List.range ws.length).foldl (fun m i => mset m (base + i) ((ws[i]?).getD 0 % 2 ^ 32)) kept
  { d with win := win }.p F.DW_PTR3_PTR 0

/-- A write of 1 to NEXT (R522). -/
def Dev.svcNext (d : Dev) : Dev :=
  match d.svc.done with
  | [] => (((d.p F.SVC_RESULT_TICKET 0).p F.SVC_RESULT_CODE 0).p F.SVC_RESULT_RESULT 0).p F.SVC_RESULT_INFO_WORDS 0 |>.loadWindow3 []
  | r :: rest =>
    let d := { d with svc := { d.svc with done := rest } }
    let d := ((d.p F.SVC_RESULT_TICKET r.ticket).p F.SVC_RESULT_CODE r.code).p F.SVC_RESULT_RESULT r.result
    ((d.p F.SVC_RESULT_INFO_WORDS r.data.length).p F.SVC_RESULT_INFO_DONE rest.length).loadWindow3 r.data

/-- A write of 1 to CANCEL (R523). -/
def Dev.svcCancel (ticket : Nat) (d : Dev) : Dev :=
  match d.svc.reqs.find? (fun r => r.ticket == ticket && r.ended.isNone) with
  | none => d.inc F.SVC_REFUSE_COUNT
  | some r => if r.running then d.reqUpd ticket (fun r => { r with cancel := true }) else d.reqEnd ticket svCancelled r.data

/-- One step of the request at the front of queue `q`, where it is of service `code`: a cancel or a stand-down ends it at this
boundary (R523, R524); otherwise `f` advances it. Flash requests take turns in order of submission, behind a slot program (R521).
Mark: DESIGN CHOICE, safe (log entry 128). -/
def Dev.svcStep (code q : Nat) (f : SvcReq → Dev → Dev) (stop : SvcReq → Dev → Dev) (d : Dev) : Dev :=
  match d.svcQueue q with
  | [] => d
  | r :: _ =>
    let turn := !usesFlash code || ((d.svc.reqs.find? (fun x => usesFlash x.code && x.ended.isNone)).any (fun x => x.ticket == r.ticket) &&
      d.sec.running != some 1)
    if r.code ≠ code ∨ r.ended.isSome then d
    else if r.cancel then (stop r d).reqEnd r.ticket svCancelled r.data
    else if r.standdown then (stop r d).reqEnd r.ticket svStanddown r.data
    else if !turn then d
    else f { r with running := true } (d.reqUpd r.ticket (fun r => { r with running := true }))

/-- Nothing to undo at an early end. -/
def noStop (_ : SvcReq) (d : Dev) : Dev := d

def argAt (r : SvcReq) (i : Nat) : Nat := (r.args[i]?).getD 0

/-! ## DC energy (R526) -/

/-- The conditions of ENERGY_START. -/
def Dev.energyOk (d : Dev) : Bool :=
  !d.b F.MET_STATUS_ENERGY && !d.metBusy 0 && !d.metBusy 1 &&
  d.g (F.MET_CTRL_REFSEL 0) == d.g (F.MET_CTRL_REFSEL 1) && d.g (F.MET_CTRL_CYCLES 0) == d.g (F.MET_CTRL_CYCLES 1) &&
  d.g (F.MET_WINDOW_UNITS 0) == d.g (F.MET_WINDOW_UNITS 1) && d.b (F.MET_CTRL_CONT 0) && d.b (F.MET_CTRL_CONT 1) &&
  d.conf.energyIn.length == 2 && d.g (F.MET_CTRL_INPUT 0) == wordAt d.conf.energyIn 0 &&
  d.g (F.MET_CTRL_INPUT 1) == wordAt d.conf.energyIn 1

/-- ENERGY_START on queue `q` at time `t`. -/
def Dev.energyStart (q t : Nat) (d : Dev) : Dev :=
  d.svcStep 1 q (fun r d =>
    if d.energyOk then
      let d := { d.pb F.MET_STATUS_ENERGY true with met := { d.met with stopping := false, half0 := none, half1 := none } }
      ((d.metGo 0 t).metGo 1 t).reqEnd r.ticket svOk []
    else d.reqEnd r.ticket svState []) noStop

/-- The whole joules of an accumulator, low word first. -/
def joules (acc : Nat) : List Nat := let j := acc / 2 ^ 32 % 2 ^ 64; [j % 2 ^ 32, j / 2 ^ 32]

/-- ENERGY_STOP on queue `q`: it asks the converters to stop at the end of the window, and ends when ENERGY is clear. -/
def Dev.energyStop (q : Nat) (d : Dev) : Dev :=
  d.svcStep 2 q (fun r d =>
    if d.b F.MET_STATUS_ENERGY then
      let d := d.metHold d (d.cad.now + 1)
      { d with met := { d.met with stopping := true } }
    else d.reqEnd r.ticket svOk (joules d.met.accImport ++ joules d.met.accExport)) noStop

/-! ## MET_CHECK (R527) -/

/-- A zero or reference conversion of the check: the result it leaves, and the check of R300. -/
def Dev.checkConv (d : Dev) (c input : Nat) (x : Int) : Dev :=
  let code := clampInt x (-8388608) 8388607
  let full := decide (code ≠ x)
  let d := ((d.ps (F.MET_RESULT_CODE c) code).pb (F.MET_RESULT_FULL c) full).pb (F.MET_RESULT_OVR c) false
  let d := ((d.pb (F.MET_RESULT_NOREF c) false).pb (F.MET_RESULT_VALID c) (!full)).p (F.MET_RESULT_INPUT c) input
  ((d.p (F.MET_RESULT_FRAME_FRAME c) d.cad.frame).inc (F.MET_RESULT_COUNT c)).metCheck c input code

/-- The codes as result words. -/
def codeWord (x : Int) : Nat := unsgn 32 (clampInt x (-8388608) 8388607)

/-- MET_CHECK on queue `q`: the next converter of the mask, with its zero and reference results. Mark: DEDUCED, safe (log entry 130). -/
def Dev.metCheckStep (q : Nat) (zero ref : Int) (d : Dev) : Dev :=
  d.svcStep 3 q (fun r d =>
    let m := argAt r 0
    if 16 ≤ m then d.reqEnd r.ticket svBadArg []
    else
      match (List.range 4).find? (fun c => decide (r.next ≤ c) && m.testBit c) with
      | none => d.reqEnd r.ticket (if r.partly then svPartial else svOk) r.data
      | some c =>
        let skip := d.metBusy c || (decide (c < 2) && d.b F.MET_STATUS_ENERGY)
        let d := if skip then d else (d.checkConv c 4 zero).checkConv c 5 ref
        let data := r.data ++ (if skip then [0xFFFFFFFF, 0xFFFFFFFF] else [codeWord zero, codeWord ref])
        let part := r.partly || skip
        let d := d.reqUpd r.ticket (fun r => { r with next := c + 1, data := data, partly := part })
        if (List.range 4).any (fun k => decide (c < k) && m.testBit k) then d
        else d.reqEnd r.ticket (if part then svPartial else svOk) data) noStop

/-! ## FW_DISTRIBUTE (R528) -/

/-- The lane mask of a request. -/
def fwMask (r : SvcReq) : Nat := argAt r 0 + argAt r 1 * 2 ^ 32
def fwLen (r : SvcReq) : Nat := argAt r 3 % 2 ^ 20
def fwMost (r : SvcReq) : Nat := argAt r 3 / 2 ^ 24 % 16 + 1

/-- Progress of a distribution: open conversations by lane (256 times the stage, plus one more than the slot, or 0 where the open is
still to be retried) and the result bytes. -/
structure FwRun where
  open_ : SMap Nat
  lanes : SMap Nat
  next : Nat
  deriving DecidableEq, Repr

/-- Open a write of one cell register for a stage; a full slot table or queue is tried again. -/
def fwWrite (d : Dev) (f : FwRun) (l stage addr v : Nat) : FwRun × Dev :=
  let st := d.openCheck l 2 addr 1
  if st = 0 then
    let (s, d) := d.openIn 3 l 2 addr 1 0 (padTo 12 []) (be 4 v)
    ({ f with open_ := mset f.open_ l (256 * stage + s + 1) }, d)
  else if st = 3 ∨ st = 4 then ({ f with open_ := mset f.open_ l (256 * stage) }, d)
  else ({ f with open_ := mdel f.open_ l, lanes := mset f.lanes l (if stage = 2 then 0xFE else 0xFF) }, d)

/-- One open lane: a conversation that has ended gives its slot back and leads on. -/
def fwLane (r : SvcReq) (acc : FwRun × Dev) (l : Nat) : FwRun × Dev :=
  let (f, d) := acc
  let v := mget f.open_ l
  let stage := v / 256
  let bank := argAt r 3 / 2 ^ 29 % 2
  let reboot := (argAt r 3).testBit 28
  if v = 0 then (f, d)
  else if v % 256 = 0 then
    if stage = 1 then fwWrite d f l 1 0x20 bank else fwWrite d f l 2 0x21 0x5EB0
  else
    let s := v % 256 - 1
    if d.slotState s ≠ 5 then (f, d)
    else
      let res := d.g (F.HCL_CONV_STATUS_RESULT s)
      let d := d.slotFree s
      let close (x : Nat) : FwRun × Dev := ({ f with open_ := mdel f.open_ l, lanes := mset f.lanes l x }, d)
      if res ≠ resOk then close (if stage = 2 ∧ 0x40 ≤ res then 0xFE else res)
      else if stage = 0 then (if reboot then fwWrite d f l 1 0x20 bank else close resOk)
      else if stage = 1 then fwWrite d f l 2 0x21 0x5EB0
      else close resOk

/-- Open pushes on the lanes that follow, as many as may be open at once. -/
def fwOpen (r : SvcReq) : Nat → FwRun × Dev → FwRun × Dev
  | 0, acc => acc
  | k + 1, (f, d) =>
    if 64 ≤ f.next then (f, d)
    else if !(fwMask r).testBit f.next then fwOpen r k ({ f with next := f.next + 1 }, d)
    else if fwMost r ≤ f.open_.length then (f, d)
    else
      let l := f.next
      let st := d.openCheck l 3 (fwLen r) 0
      if st = 0 then
        let (s, d) := d.openIn 3 l 3 (fwLen r) 0 0 (padTo 12 (be 4 (argAt r 2))) []
        fwOpen r k ({ f with open_ := mset f.open_ l (s + 1), next := l + 1 }, d)
      else if st = 3 ∨ st = 4 then (f, d)
      else fwOpen r k ({ f with lanes := mset f.lanes l 0xFF, next := l + 1 }, d)

/-- The sixteen result words: a byte for each lane, 0xFF where none was attempted. -/
def fwWords (lanes : SMap Nat) : List Nat :=
  let at_ (l : Nat) : Nat := if mget lanes l = 0 then 0xFF else mget lanes l
  (List.range 16).map (fun i => at_ (4 * i) * 2 ^ 24 + at_ (4 * i + 1) * 2 ^ 16 + at_ (4 * i + 2) * 2 ^ 8 + at_ (4 * i + 3))

/-- An early end gives up the conversations that are open. -/
def fwStop (r : SvcReq) (d : Dev) : Dev :=
  r.open_.foldl (fun d e =>
    if e.2 % 256 = 0 then d
    else
      let s := e.2 % 256 - 1
      let d := if d.slotState s = 1 then d.convEnd s resHostAbort else if d.slotActive s then d.convAbort s resHostAbort 0x0D else d
      if d.slotState s = 5 then d.slotFree s else d) d

/-- FW_DISTRIBUTE on queue `q`: conversations that have ended, then further openings (R528). -/
def Dev.fwStep (q : Nat) (d : Dev) : Dev :=
  d.svcStep 4 q (fun r d =>
    if fwLen r = 0 ∨ 262144 < fwLen r then d.reqEnd r.ticket svBadArg []
    else
      let (f, d) := (List.range 64).foldl (fwLane r) (⟨r.open_, r.lanes, r.next⟩, d)
      let (f, d) := fwOpen r 65 (f, d)
      let ws := fwWords f.lanes
      let d := d.reqUpd r.ticket (fun r => { r with open_ := f.open_, lanes := f.lanes, next := f.next, data := ws })
      if 64 ≤ f.next ∧ f.open_ = [] then
        let good := (List.range 64).all (fun l => !(fwMask r).testBit l || mget f.lanes l == 1)
        d.reqEnd r.ticket (if good then svOk else svPartial) ws
      else d) fwStop

/-! ## The flash log (R529 to R531) -/

/-- Entries of the log region (R529, R538): 1,024 to a sector. -/
def Dev.logSize (d : Dev) : Nat := wordAt (mget d.conf.services 1) 1 * 1024

/-- The entry of a LOG_SEQ whose CRC is good: its place and bytes. -/
def Dev.logFind (d : Dev) (seq : Nat) : Option (Nat × List Byte) :=
  d.svc.log.find? (fun e => e.2.length == 64 && beAt e.2 1 3 == seq && crc32 (e.2.take 60) == beAt e.2 60 4)

/-- The place of the next entry: behind the last one written. -/
def Dev.logNext (d : Dev) : Nat :=
  match d.logFind (d.g F.SVC_LOG_STATE_LOG_SEQ) with
  | some (i, _) => if i + 1 < d.logSize then i + 1 else 0
  | none => 0

/-- The 64 bytes of an entry. -/
def Dev.logBytes (d : Dev) (ty seq : Nat) (payload : List Byte) : List Byte :=
  let b := be 1 ty ++ be 3 seq ++ be 4 d.cad.frame ++ be 2 d.cad.epoch ++ be 2 0 ++ padTo 48 payload
  b ++ be 4 (crc32 b)

/-- Write one entry (R529, R530): the sector it enters is erased first where it still holds entries. The answer is a result code, 0 when
the entry is written; `good` is false for a flash error. -/
def Dev.logWrite (d : Dev) (code ty : Nat) (payload : List Byte) (good : Bool) : Nat × Dev :=
  if !d.nvOk then (svNvWindow, d.nvRefuse)
  else if !good then (svFlash, d.raise { src := 0x0B11, cls := 1, detail := code })
  else
    let pos := d.logNext
    let seq := (d.g F.SVC_LOG_STATE_LOG_SEQ + 1) % 2 ^ 24
    let sector := d.svc.log.filter (fun e => decide (pos ≤ e.1) && decide (e.1 < pos + 1024))
    let erase := pos % 1024 == 0 && !sector.isEmpty
    let log := if erase then d.svc.log.filter (fun e => decide (e.1 < pos) || decide (pos + 1024 ≤ e.1)) else d.svc.log
    let d := d.when erase (fun d => d.inc F.SVC_LOG_ERASED_COUNT)
    let d := { d with svc := { d.svc with log := mset log pos (d.logBytes ty seq payload) } }
    (0, d.p F.SVC_LOG_STATE_LOG_SEQ seq)

/-- The oldest record of the ring that has not been copied. -/
def Dev.unlogged (d : Dev) : Option (Nat × FaultRec) :=
  let rs := d.prot.ring.filterMap (fun e => match e.2 with
    | some r => if r.logged then none else some (e.1, r)
    | none => none)
  rs.find? (fun x => rs.all (fun y => !later x.2.seq y.2.seq || x.1 == y.1))

/-- LOG_FAULTS on queue `q`: one entry (R525, R529). -/
def Dev.logFaults (q : Nat) (good : Bool) (d : Dev) : Dev :=
  d.svcStep 5 q (fun r d =>
    match d.unlogged with
    | none => d.reqEnd r.ticket svOk [r.next]
    | some (slot, rec_) =>
      match d.logWrite 5 1 ((recordWords d rec_).flatMap (be 4)) good with
      | (0, d) =>
        let d := { d with prot := { d.prot with ring := mset d.prot.ring slot (some { rec_ with logged := true }) } }
        let d := d.reqUpd r.ticket (fun r => { r with next := r.next + 1, data := [r.next + 1] })
        if d.unlogged.isNone then d.reqEnd r.ticket svOk [r.next + 1] else d
      | (res, d) => d.reqEnd r.ticket res [r.next]) noStop

/-- The buffer that LOG_CHECKPOINT copies: 0, 1, or 2 for the newest valid one; none where it holds no valid checkpoint. -/
def Dev.logBuffer (d : Dev) (a : Nat) : Option (List Byte) :=
  let b := if a = 2 then d.newestBuf else some a
  match b with
  | some b => if d.bufValid b then some (mget d.red.buf b) else none
  | none => none

/-- LOG_CHECKPOINT on queue `q`: the marker with the header, then the parts of what follows the header, one entry a step (R525, R529). -/
def Dev.logCheckpoint (q : Nat) (good : Bool) (d : Dev) : Dev :=
  d.svcStep 6 q (fun r d =>
    if 2 < argAt r 0 then d.reqEnd r.ticket svBadArg []
    else match d.logBuffer (argAt r 0) with
      | none => d.reqEnd r.ticket svState r.data
      | some bs =>
        let len := beAt bs 4 4
        let parts := (len + 47) / 48
        let pay := if r.next = 0 then bs.take 48 else slice bs (48 * (r.next - 1)) (min 48 (len - 48 * (r.next - 1)))
        match d.logWrite 6 (if r.next = 0 then 3 else 2) pay good with
        | (0, d) =>
          let data := if r.next = 0 then [d.g F.SVC_LOG_STATE_LOG_SEQ] else r.data
          let d := d.reqUpd r.ticket (fun r => { r with next := r.next + 1, data := data })
          if parts ≤ r.next then d.reqEnd r.ticket svOk data else d
        | (res, d) => d.reqEnd r.ticket res r.data) noStop

/-- LOG_READ on queue `q`: one entry a step; one that is not held, or fails its CRC, reads as zeros (R529). -/
def Dev.logRead (q : Nat) (d : Dev) : Dev :=
  d.svcStep 7 q (fun r d =>
    let n := argAt r 1
    if n = 0 ∨ 64 < n ∨ 2 ^ 24 ≤ argAt r 0 then d.reqEnd r.ticket svBadArg []
    else
      let seq := (argAt r 0 + r.next) % 2 ^ 24
      let e := d.logFind seq
      let ws := match e with
        | some (_, b) => (List.range 16).map (fun i => beAt b (4 * i) 4)
        | none => List.replicate 16 0
      let data := r.data ++ ws
      let part := r.partly || e.isNone
      let d := d.reqUpd r.ticket (fun r => { r with next := r.next + 1, data := data, partly := part })
      if n ≤ r.next + 1 then d.reqEnd r.ticket (if part then svPartial else svOk) data else d) noStop

/-- LOG_ERASE on queue `q`: one sector a step (R525, R530). -/
def Dev.logErase (q : Nat) (good : Bool) (d : Dev) : Dev :=
  d.svcStep 8 q (fun r d =>
    let sectors := wordAt (mget d.conf.services 1) 1
    if argAt r 0 ≠ 0xE5A5 then d.reqEnd r.ticket svBadArg []
    else if !d.nvOk then d.nvRefuse.reqEnd r.ticket svNvWindow []
    else if !good then (d.raise { src := 0x0B11, cls := 1, detail := 8 }).reqEnd r.ticket svFlash []
    else
      let lo := 1024 * r.next
      let d := { d with svc := { d.svc with log := d.svc.log.filter (fun e => decide (e.1 < lo) || decide (lo + 1024 ≤ e.1)) } }
      let d := d.reqUpd r.ticket (fun r => { r with next := r.next + 1 })
      if sectors ≤ r.next + 1 then d.reqEnd r.ticket svOk [] else d) noStop

end Sys2Proof.Machine
end

