-- ==== Sys2Proof/Machine/Mailbox.lean ====
section
/-! DEFINITION. Snapshot mailboxes (R68 to R75) and data windows (R76 to R78): requests, the item catalogue, capture, reading; window
ports. The arm view mailbox is mailbox 4 here. -/
namespace Sys2Proof.Machine

/-! ## The registers of a mailbox (R68) -/

def mbxBase (m : Nat) : Nat := if m < 4 then 0x010400 + 0x20 * m else 0x160100
def mbItem (m : Nat) : Fld := ⟨mbxBase m, 0, 8⟩
def mbAt (m : Nat) : Fld := ⟨mbxBase m, 8, 1⟩
def mbArg (m : Nat) : Fld := ⟨mbxBase m + 0x4, 0, 32⟩
def mbFrame (m : Nat) : Fld := ⟨mbxBase m + 0x8, 0, 32⟩
def mbValid (m : Nat) : Fld := ⟨mbxBase m + 0xC, 0, 1⟩
def mbBusy (m : Nat) : Fld := ⟨mbxBase m + 0xC, 1, 1⟩
def mbResult (m : Nat) : Fld := ⟨mbxBase m + 0xC, 2, 2⟩
def mbReplace (m : Nat) : Fld := ⟨mbxBase m + 0x14, 0, 32⟩
def mbLate (m : Nat) : Fld := ⟨mbxBase m + 0x18, 0, 32⟩

def Dev.mb (d : Dev) (m : Nat) : Mbx := mget d.mbx m
def Dev.mbUpd (d : Dev) (m : Nat) (f : Mbx → Mbx) : Dev := { d with mbx := mupd d.mbx m f }

/-! ## The catalogue (R73) -/

def mbCaptured : Nat := 1
def mbLateCode : Nat := 2
def mbBadArg : Nat := 3

/-- The items that a mailbox serves. -/
def mbServes (m item : Nat) : Bool :=
  if m < 4 then decide (1 ≤ item) && decide (item ≤ 0x0D) else decide (0x40 ≤ item) && decide (item ≤ 0x42)

/-- Frame-aligned items. -/
def mbAligned (item : Nat) : Bool :=
  item == 0x02 || item == 0x03 || item == 0x04 || item == 0x07 || item == 0x0C || item == 0x0D || decide (0x40 ≤ item)

/-- The bases of the register blocks (R566). -/
def blockBases : List Nat :=
  [0x000000, 0x010000, 0x020000, 0x040000, 0x080000, 0x0C0000, 0x0E0000, 0x100000, 0x110000, 0x120000, 0x130000, 0x140000, 0x150000,
   0x160000]

/-- The report that ATTESTATION gives (R494), where its condition holds. -/
def Dev.attestation (d : Dev) (arg : Nat) : Option (List Byte) :=
  match d.sec.report with
  | some r => if d.sec.running ≠ some 3 ∧ arg = r.index ∧ d.winBytes 1 r.index 48 = r.nonce then some r.bytes else none
  | none => none

/-- The argument and the present state allow the item (R71, R193, R308, R494). Mark: DEDUCED, unsafe (log entry 38). -/
def Dev.mbArgOk (d : Dev) (item arg : Nat) : Bool :=
  match item with
  | 0x05 => decide (arg < 256)
  | 0x08 => d.g F.CAP_STATE_STATE == 3
  | 0x0A => (d.attestation arg).isSome
  | 0x0B => decide (arg < 128) && d.slotState arg == 5
  | 0x0C => blockBases.contains arg
  | 0x0D => decide (arg < 13)
  | 0x42 => decide (arg < 5)
  | _ => true

/-! ## Payloads -/

/-- The word of a register: the values in force of its fields. -/
def Dev.regForce (d : Dev) (r : RegRow) (a : Nat) : Nat :=
  r.fields.foldl (fun w f => w + d.g ⟨a, f.lo, f.w⟩ * 2 ^ f.lo) 0

def low32 (v : Nat) : List Nat := [v % 2 ^ 32, v / 2 ^ 32 % 2 ^ 32]

/-- ARM_HEAD: by lane, VCAP and the cell state word (R139). -/
def Dev.armHead (d : Dev) : List Nat :=
  (List.range 64).flatMap (fun l =>
    [d.g (F.HCL_PORT_VCAP_VCAP l), match regAt (0x080004 + 0x100 * l) with
      | some r => d.regForce r (0x080004 + 0x100 * l)
      | none => 0])

/-- FAULT_RING (R348). -/
def Dev.faultRing (d : Dev) : List Nat :=
  let rs := d.prot.ring.filterMap (fun e => e.2.map (fun r => (e.1, r)))
  let oldest := rs.find? (fun x => rs.all (fun y => !later x.2.seq y.2.seq || x.1 == y.1))
  [d.prot.ringIdx, pinnedCount d.prot.ring, d.g F.PROT_RING_OVERFLOW_COUNT, (oldest.map Prod.fst).getD 0x100]

/-- CAPTURE (R308): two samples a word, the oldest first, zeros behind the last. -/
def Dev.capture16 (d : Dev) : List Nat :=
  let ss := d.cap.samples.reverse
  (List.range 16).flatMap (fun c =>
    let xs := ss.map (fun r => unsgn 16 ((r[c]?).getD 0)) ++ List.replicate (4096 - ss.length) 0
    (List.range 2048).map (fun m => (xs[2 * m]?).getD 0 * 2 ^ 16 + (xs[2 * m + 1]?).getD 0))

/-- CONV_DATA (R193). -/
def Dev.convData (d : Dev) (s : Nat) : List Nat :=
  let sl := d.slotOf s
  let data := if upstreamKind (d.slotKind s) then sl.data else []
  let b := data.length
  let v := padTo 16 sl.value
  [s * 2 ^ 24 + d.slotLane s * 2 ^ 16 + d.slotKind s * 2 ^ 8 + d.g (F.HCL_CONV_STATUS_RESULT s), b, sl.status] ++
    (List.range 4).map (fun i => beAt v (4 * i) 4) ++
    (List.range ((b + 3) / 4)).map (fun i => beAt (padTo 4 (data.drop (4 * i))) 0 4)

/-- COUNTERS of a block (R73, R229). -/
def Dev.counters (d : Dev) (base : Nat) : List Nat :=
  if base = 0x0C0000 then
    (List.range 5).map (fun i => d.g ⟨0x0C0080 + 4 * i, 0, 32⟩) ++ (List.range 256).map (fun i => (mget d.ce.inst i).events)
  else
    let as := (rowsAt base).flatMap (fun r => if r.fields.any (fun f => f.cls == .cnt) then r.addrs else [])
    (sortBy (fun a b => decide (a < b)) as).map (fun a => d.g ⟨a, 0, 32⟩)

/-- A binary32 value of a quotient of volts in units of 2^-149. -/
def vbarWord (num : Int) (den : Nat) : Nat :=
  if den = 0 then 0
  else f32.ofVal (FVal.div (2 * f32.frac + 8) (.fin (decide (num < 0)) num.natAbs (-149)) (FVal.ofInt (den : Int)))

/-- ARM_STATE of one arm (R254). -/
def Dev.armState (d : Dev) (a : Nat) : List Nat :=
  let c := mget d.bal.armCalc a
  let q := c.q
  let h := d.conf.heads
  [c.vref, unfix32 c.s,
   c.bigN % 2 ^ 10 + bit q.neg * 2 ^ 10 + bit q.charge * 2 ^ 11 + bit c.limited * 2 ^ 12 + bit q.suppress * 2 ^ 13 +
     bit q.trimValid * 2 ^ 14 + bit q.keep * 2 ^ 15 + q.trimHead % 8 * 2 ^ 16,
   f32.ofRatio (q.fNum : Int) q.fDen] ++
  (List.range 8).map (fun p =>
    if h ≤ p then 0
    else
      let hd := (c.heads[p]?).getD (0, false)
      (q.quotas[p]?).getD 0 % 2 ^ 7 + bit (q.trimValid && q.trimHead == p) * 2 ^ 7 + hd.1 % 2 ^ 7 * 2 ^ 8 + bit hd.2 * 2 ^ 15) ++
  [c.i, vbarWord c.vbarNum c.vbarDen, c.m % 2 ^ 10 + c.mfb % 2 ^ 10 * 2 ^ 16, 0]

/-- The payload of an item (R73); that of LEG_GROUP is put together from its parts. -/
def Dev.itemWords (d : Dev) (item arg : Nat) : List Nat :=
  match item with
  | 0x01 => low32 d.global
  | 0x02 => low32 d.tickGlobal
  | 0x03 => joules d.met.accImport ++ joules d.met.accExport
  | 0x04 => d.armHead
  | 0x05 => match mget d.prot.ring arg with
    | some r => recordWords d r
    | none => List.replicate 8 0
  | 0x06 => d.faultRing
  | 0x07 => (List.range 256).map (fun i => mget d.ce.out i)
  | 0x08 => d.capture16
  | 0x09 => (List.range 8).map (fun i => match regAt (0x130040 + 4 * i) with
    | some r => d.regForce r (0x130040 + 4 * i)
    | none => 0)
  | 0x0A => match d.attestation arg with
    | some bs => (List.range ((bs.length + 3) / 4)).map (fun i => beAt bs (4 * i) 4)
    | none => []
  | 0x0B => d.convData arg
  | 0x0C => d.counters arg
  | 0x0D => groupWords (d.members arg) d.rf
  | 0x41 => d.armState 0 ++ d.armState 1
  | 0x42 => groupWords (d.members (13 + arg)) d.rf
  | _ => []

/-- An item with its header (R72). -/
def itemOf (item frame epoch flags : Nat) (pay : List Nat) : List Nat :=
  [item * 2 ^ 24 + (pay.length + 4), frame, epoch, flags] ++ pay

/-! ## Requests (R69 to R71, R75) -/

/-- A request fails. -/
def Dev.mbFail (d : Dev) (m code : Nat) : Dev :=
  let d := ((d.pb (mbBusy m) false).p (mbResult m) code).when (code == mbLateCode) (fun d => d.inc (mbLate m))
  d.mbUpd m (fun _ => default)

/-- Frame `f` lies at least three frames after frame `n` (R75). -/
def threeAhead (f n : Nat) : Bool := later f n && decide (3 ≤ (f + 2 ^ 32 - n) % 2 ^ 32)

/-- MBX_REQ is written with an item code and AT; CAPTURE is copied at once (R308).
Mark: DEDUCED, unsafe (log entry 35); DEDUCED, unsafe (log entry 36). -/
def Dev.mbxRequest (m item : Nat) (at_ : Bool) (d : Dev) : Dev :=
  if item % 256 = 0 ∨ 4 < m ∨ (m = 4 ∧ d.isLead = false) then d
  else
    let item := item % 256
    let d := d.when (d.b (mbValid m) || d.b (mbBusy m)) (fun d => d.inc (mbReplace m))
    let d := ((d.p (mbItem m) item).pb (mbAt m) at_).pb (mbValid m) false
    let d := (d.pb (mbBusy m) true).p (mbResult m) 0
    let arg := d.g (mbArg m)
    let f := d.g (mbFrame m)
    let n := d.cad.frame
    if !mbServes m item || (at_ && !mbAligned item) || !d.mbArgOk item arg then d.mbFail m mbBadArg
    else if at_ && !(if m = 4 then threeAhead f n else later f n) then d.mbFail m mbLateCode
    else
      let due := if at_ then some f else if m = 4 then some (frameAdd n 3) else none
      let now := item == 0x08
      let d := d.mbUpd m (fun _ => { (default : Mbx) with item := item, arg := arg, due := due,
                                                          words := if now then d.capture16 else [],
                                                          at_ := if now then some (d.cad.frame, d.cad.epoch) else none })
      d.when (m == 4) (fun d => { d with red := { d.red with snapDue := due.map (fun f => (f, item, arg)) } })

/-- At a commit cut-off, frame-aligned items without AT are due at the tick that follows (R74). -/
def Dev.mbxCutoff (d : Dev) : Dev :=
  if !d.ticking then d
  else [0, 1, 2, 3].foldl (fun d m =>
    let b := d.mb m
    if d.b (mbBusy m) && mbAligned b.item && b.due.isNone then d.mbUpd m (fun b => { b with due := some (frameAdd d.cad.frame 1) })
    else d) d

/-! ## Capture -/

/-- A whole item is in the mailbox: VALID. -/
def Dev.mbPut (d : Dev) (m : Nat) (ws : List Nat) : Dev :=
  let d := d.mbUpd m (fun b => { b with words := ws, ptr := 0, due := none, at_ := none, parts := [] })
  ((d.pb (mbBusy m) false).pb (mbValid m) true).p (mbResult m) mbCaptured

/-- The named frame has come. -/
def Dev.frameCome (d : Dev) (due : Option Nat) : Bool :=
  match due with
  | some f => !later f d.cad.frame
  | none => false

/-- The parts of LEG_GROUP in order, zeros for one that did not come; `flags` marks the admitted positions among these (R72, R75). -/
def Dev.legGroup (d : Dev) : Nat × List Nat :=
  let ps := (d.mb 4).parts
  ((List.range 8).foldl (fun n p => n + bit ((mget ps p).isEmpty && d.admitted.contains p) * 2 ^ p) 0,
   (List.range 8).flatMap (fun p => if (mget ps p).isEmpty then List.replicate 128 0 else mget ps p))

/-- An arm view snapshot is put together once its own part is there and every admitted head has delivered, or when `late` (R75). -/
def Dev.legGroupDone (late : Bool) (d : Dev) : Dev :=
  let b := d.mb 4
  match b.at_ with
  | some (f, e) =>
    let (flags, ws) := d.legGroup
    if late || flags == 0 then d.mbPut 4 (itemOf b.item f e flags ws) else d
  | none => d

/-- A local item is captured; CAPTURE was, when it was requested (R308). -/
def Dev.mbxCaptureLocal (m : Nat) (d : Dev) : Dev :=
  let b := d.mb m
  if !d.b (mbBusy m) then d
  else if b.item = 0x08 then d.mbPut m (itemOf b.item (b.at_.getD (0, 0)).1 (b.at_.getD (0, 0)).2 0 b.words)
  else if mbAligned b.item && !d.frameCome b.due then d
  else if !d.mbArgOk b.item b.arg then d.mbFail m mbBadArg
  else d.mbPut m (itemOf b.item d.cad.frame d.cad.epoch 0 (d.itemWords b.item b.arg))

/-- The part of an arm view snapshot that this head captures at frame F: the lead keeps it, every other head returns it (R75). -/
def Dev.mbxCaptureView (d : Dev) : Dev :=
  if d.isLead then
    let b := d.mb 4
    if !d.b (mbBusy 4) || b.at_.isSome || !d.frameCome b.due then d
    else if b.item ≠ 0x40 then d.mbPut 4 (itemOf b.item d.cad.frame d.cad.epoch 0 (d.itemWords b.item b.arg))
    else (d.mbUpd 4 (fun b => { b with at_ := some (d.cad.frame, d.cad.epoch), wait := 0, parts := mset b.parts 0 d.armHead })).legGroupDone false
  else
    match d.red.snapPart with
    | some (f, item, _) =>
      if later f d.cad.frame then d
      else
        let d := { d with red := { d.red with snapPart := none } }
        d.when (item == 0x40) (fun d => d.spanSend (.span spSnapPart 0 (f :: d.armHead)))
    | none => d

/-- A capture at time `t`: at its tick for a frame-aligned item, otherwise when the request is taken (R73, R74).
Mark: DEDUCED, unsafe (log entry 37). -/
def Dev.mbxCapture (m t : Nat) (d : Dev) : Dev :=
  let d := d.at t
  if m < 4 then d.mbxCaptureLocal m else if m = 4 then d.mbxCaptureView else d

/-- The lead receives a part (R75). -/
def Dev.snapPartTake (h : SpanHdr) (frame : Nat) (ws : List Nat) (d : Dev) : Dev :=
  let (act, d) := d.spanTake spSnapPart h
  let b := d.mb 4
  if act && d.b (mbBusy 4) && b.item == 0x40 && b.due == some (frame % 2 ^ 32) && decide (1 ≤ h.origin) && decide (h.origin < 8) &&
      ws.length == 128 then
    (d.mbUpd 4 (fun b => { b with parts := mset b.parts h.origin (ws.map (· % 2 ^ 32)) })).legGroupDone false
  else d

/-- 64 frames after F (R75), counted in ticks (R110). -/
def Dev.snapTimeout (d : Dev) : Dev :=
  let b := d.mb 4
  if b.at_.isSome && d.b (mbBusy 4) && decide (64 ≤ b.wait) then d.legGroupDone true else d

/-- A read of MBX_DATA (R69): the word, and whether the mailbox is empty. -/
def Dev.mbxRead (m : Nat) (d : Dev) : (Nat × Bool) × Dev :=
  let b := d.mb m
  if !d.b (mbValid m) then ((0, true), d)
  else
    let d := d.mbUpd m (fun b => { b with ptr := b.ptr + 1 })
    (((b.words[b.ptr]?).getD 0, false), d.when (decide (b.words.length ≤ b.ptr + 1)) (fun d => d.pb (mbValid m) false))

/-- A write to MBX_DATA moves the port on by one word, as a read does (R51, R54); an empty mailbox stays as it is.
Mark: DEDUCED, unsafe (log entry 155). -/
def Dev.mbxWrite (m : Nat) (d : Dev) : Dev := (d.mbxRead m).2

/-! ## Data windows (R76 to R78) -/

/-- Words of a window. -/
def dwSize (w : Nat) : Nat := if w = 0 then 524288 else if w = 2 then 65536 else 1024

/-- The consumer of a write window runs (R78, R188, R495, R528). -/
def Dev.dwUsed (d : Dev) (w : Nat) : Bool :=
  match w with
  | 0 => d.sec.running == some 0 || d.sec.running == some 1 || d.sec.running == some 2
  | 1 => d.sec.running == some 3 || d.sec.running == some 5
  | 2 => d.svc.reqs.any (fun r => r.code == 4 && r.running && r.ended.isNone) ||
      (List.range 128).any (fun s => d.slotKind s == 3 && d.slotState s != 0 && d.slotState s != 5)
  | _ => false

/-- A write to a port (R54, R77): only windows 0 to 2 store the word; the pointer of window 3 moves on. -/
def Dev.dwWrite (w v : Nat) (d : Dev) : Dev :=
  let p := d.g (F.DW_PTR_PTR w)
  if 4 ≤ w then d
  else if w = 3 then if dwSize w ≤ p then d.inc (F.DW_OVERFLOW_COUNT w) else d.p (F.DW_PTR_PTR w) (p + 1)
  else if d.dwUsed w || decide (dwSize w ≤ p) then d.inc (F.DW_OVERFLOW_COUNT w)
  else { d with win := mset d.win (w * 2 ^ 20 + p) (v % 2 ^ 32) }.p (F.DW_PTR_PTR w) (p + 1)

/-- A read of a port: the word at the pointer, which moves on. Mark: DEDUCED, unsafe (log entry 22). -/
def Dev.dwRead (w : Nat) (d : Dev) : Nat × Dev :=
  let p := d.g (F.DW_PTR_PTR w)
  if 4 ≤ w then (0, d)
  else if dwSize w ≤ p then (0, d.inc (F.DW_OVERFLOW_COUNT w))
  else (d.winWord w p, d.p (F.DW_PTR_PTR w) (p + 1))

end Sys2Proof.Machine
end

