-- ==== Sys2Proof/Machine/Bus.lean ====
section
/-! DEFINITION. The register bus (R13, R35, R47, R51, R54, R477, R501, R566): which blocks are served, what a read returns, what a write does
by the class of each field, the range checks, and what a write starts. The host port and Rondi both come through here. -/
namespace Sys2Proof.Machine

/-! ## Ports and windows -/

/-- What a data-window port belongs to. -/
inductive BusPort where
  | mbx (m : Nat)
  | dw (w : Nat)
  deriving DecidableEq, Repr

/-- The port at an address (R68, R76). -/
def portOf (a : Nat) : Option BusPort :=
  if a = 0x160110 then some (.mbx 4)
  else if 0x010400 ≤ a ∧ a < 0x010480 ∧ a % 0x20 = 0x10 then some (.mbx ((a - 0x010400) / 0x20))
  else if 0x010600 ≤ a ∧ a < 0x010640 ∧ a % 0x10 = 0x4 then some (.dw ((a - 0x010600) / 0x10))
  else none

/-- The parameter that a selection window addresses (R210, R227, R228); none for an instance that is no primary one. -/
def Dev.windowed (d : Dev) (a : Nat) : Option (Option Fld) :=
  if 0x0C0040 ≤ a ∧ a < 0x0C0060 then
    let i := d.g F.CE_SEL_INSTANCE
    some (if d.cePrimary.contains i then some (F.ceParam i ((a - 0x0C0040) / 4)) else none)
  else if 0x160440 ≤ a ∧ a < 0x160460 then some (some (F.ceSet (d.g F.AV_CE_SEL_SET) ((a - 0x160440) / 4)))
  else none

/-- Registers that read zero whatever they hold (R400, R401, R420, R490, R499; the key of R328). -/
def readsZero (a : Nat) : Bool :=
  a == 0x000068 || a == 0x103448 || a == 0x120010 || a == 0x12001C || a == 0x130018 || a == 0x140028

/-! ## Reading -/

/-- An SHD field as a read returns it (R51). -/
def Dev.shdRead (d : Dev) (f : Fld) : Nat := if d.b F.GLB_SHD_VIEW_ACTIVE then d.g f else d.sh f

/-- The word at an address that is no port. -/
def Dev.regRead (d : Dev) (a : Nat) : Nat :=
  if 0x160000 ≤ a ∧ d.isLead = false then 0
  else if readsZero a then 0
  else match d.windowed a with
    | some (some f) => d.shdRead f
    | some none => 0
    | none =>
      if a = 0x130020 then d.watchdogLeft % 2 ^ 16
      else
        let d := if 0x0C0024 ≤ a ∧ a ≤ 0x0C0030 then d.showCe else if a = 0x120004 then d.tpNow else d
        match regAt a with
        | none => 0
        | some r => r.fields.foldl (fun w f =>
            let x : Fld := ⟨a, f.lo, f.w⟩
            w + (if f.cls = .shd then d.shdRead x else d.g x) * 2 ^ f.lo) 0

/-- A read (R51, R54): the word, and whether a mailbox port was empty. -/
def Dev.busRead (a : Nat) (d : Dev) : (Nat × Bool) × Dev :=
  match portOf a with
  | some (.mbx m) => if m = 4 ∧ d.isLead = false then ((0, false), d) else d.mbxRead m
  | some (.dw w) => let (v, d) := d.dwRead w; ((v, false), d)
  | none => ((d.regRead a, false), d)

/-! ## Writing by class (R51, R54) -/

/-- The bits that a byte mask enables. -/
def byteMask (bm : Nat) : Nat := (List.range 4).foldl (fun w b => w + (if bm.testBit b then 255 * 256 ^ b else 0)) 0

/-- A word with the enabled bytes of another. -/
def mergeWord (cur w bm : Nat) : Nat :=
  (List.range 4).foldl (fun r b => r + (if bm.testBit b then w else cur) / 256 ^ b % 256 * 256 ^ b) 0

/-- What a write changes: the shadows of SHD fields, the values of the others. -/
def Dev.regStored (d : Dev) (a : Nat) : Nat :=
  if a = 0x140028 then d.sec.key
  else match d.windowed a with
    | some (some f) => d.sh f
    | some none => 0
    | none => match regAt a with
      | none => 0
      | some r => r.fields.foldl (fun w f =>
          let x : Fld := ⟨a, f.lo, f.w⟩
          w + (if f.cls = .shd then d.sh x else d.g x) * 2 ^ f.lo) 0

/-- Write a whole word by the class of each field: CFG at once, SHD into the shadow, CNT as a count; LIVE, CMD and MBX are left. -/
def Dev.putFields (d : Dev) (a w : Nat) : Dev :=
  match regAt a with
  | none => d
  | some r => r.fields.foldl (fun d f =>
      let x : Fld := ⟨a, f.lo, f.w⟩
      let v := bits w (f.lo + f.w - 1) f.lo
      match f.cls with
      | .cfg => d.p x v
      | .cnt => d.p x v
      | .shd => d.psh x v
      | _ => d) d

/-- Timeouts of R517. -/
def timeOk (v : Nat) : Bool := decide (1 ≤ v) && decide (v ≤ 3600)

/-- The range checks whose failure leaves a register unchanged (R153, R191, R227, R309, R368, R517).
Mark: DESIGN CHOICE, unsafe (log entry 18). -/
def Dev.rangeOk (d : Dev) (a w : Nat) : Bool :=
  match a with
  | 0x084000 => decide (w % 16 ≤ d.g F.HCL_LOST_LIMIT_LIMIT)
  | 0x084004 => decide (d.g F.HCL_SUSPECT_LIMIT_LIMIT ≤ w % 1024)
  | 0x084118 => decide (3 ≤ w % 16)
  | 0x08411C => w % 16 != 0
  | 0x0C0010 => w % 256 != 0
  | 0x1000C4 => w % 16 != 0
  | 0x110084 => decide (sgn 16 w ≤ 0x0870)
  | 0x110088 => decide (sgn 16 w < sgn 16 (w / 2 ^ 16))
  | 0x16070C => timeOk (w % 2 ^ 16) && timeOk (w / 2 ^ 16 % 2 ^ 16)
  | 0x160710 => timeOk (w % 2 ^ 16) && timeOk (w / 2 ^ 16 % 2 ^ 16)
  | 0x160714 => timeOk (w % 2 ^ 16)
  | 0x160718 => f32.isFin w && f32.lt 0 w
  | 0x16071C => f32.isFin w && f32.lt 0 w
  | _ => true

/-- A register holds a field of a class. -/
def RegRow.holds (r : RegRow) (c : Cls) : Bool := r.fields.any (fun f => f.cls == c)

/-- A register that refuses a masked write (R54). -/
def noMask (a : Nat) : Bool :=
  match regAt a with
  | some r => r.holds .cmd || r.holds .mbx || r.holds .cnt
  | none => false

/-! ## Registers with a behaviour of their own -/

/-- LANE_TEST (R465, R466): pattern and burst length, then MODE, then the injections. Mark: DEDUCED, unsafe (log entry 19). -/
def Dev.laneTestWrite (i w : Nat) (d : Dev) : Dev :=
  let d := (d.p (F.LANE_TEST_PATTERN i) (bits w 2 0)).p (F.LANE_TEST_BURST_LEN i) (bits w 13 8)
  let d := if bits w 4 3 = d.g (F.LANE_TEST_MODE i) then d else d.modeWrite i (bits w 4 3)
  (d.when (w.testBit 16) (fun d => d.injectOne i)).when (w.testBit 17) (fun d => d.injectBurst i)

/-- Lanes: LANE_CTRL, LANE_EQ, LANE_TEST act; the rest is plain. -/
def Dev.laneWrite (a w : Nat) (d : Dev) : Dev :=
  let i := (a - 0x040000) / 0x100
  if 72 ≤ i then d.putFields a w
  else match a % 0x100 with
    | 0x00 => d.lanePower i w
    | 0x08 => d.laneEq i w
    | 0x10 => d.laneTestWrite i w
    | _ => d.putFields a w

/-- Cell ports: REDISCOVER, GO, ABORT and RELEASE of a slot. -/
def Dev.portWrite (a w : Nat) (d : Dev) : Dev :=
  if a < 0x084000 then
    if a % 0x100 = 0x84 then d.when (w.testBit 0) (fun d => d.rediscover ((a - 0x080000) / 0x100)) else d.putFields a w
  else if a = 0x084110 then d.when (w.testBit 0) Dev.convGo
  else if 0x085000 ≤ a ∧ a < 0x085200 then
    let s := (a - 0x085000) / 4
    (d.when (w.testBit 30) (fun d => d.hostAbort s)).when (w.testBit 31) (fun d => d.hostRelease s)
  else d.putFields a w

/-- Control engine: INIT, the selection, the parameter window, the selected event count. -/
def Dev.ceWrite (a w : Nat) (d : Dev) : Dev :=
  if a = 0x0C000C then d.when (w.testBit 0) Dev.ceInitWrite
  else if a = 0x0C002C then
    let i := d.g F.CE_SEL_INSTANCE
    let d := if d.cePrimary.contains i then { d with ce := { d.ce with inst := mupd d.ce.inst i (fun s => { s with events := w }) } } else d
    d.showCe
  else match d.windowed a with
    | some (some f) => d.psh f w
    | some none => d
    | none =>
      let d := d.putFields a w
      if a = 0x0C0020 then d.showCe else d

/-- PROT_CMD, bit by bit. -/
def Dev.protCmd (w : Nat) (d : Dev) : Dev :=
  let d := (d.when (w.testBit 0) Dev.hostShutter).when (w.testBit 1) Dev.f4Reset
  ((d.when (w.testBit 2) Dev.unpin).when (w.testBit 3) Dev.unpinAll).when (w.testBit 4) Dev.clearBypass

/-- Measurement and protection: MET_GO, CAP_CMD, PROT_CMD. -/
def Dev.measureWrite (a w : Nat) (d : Dev) : Dev :=
  if a = 0x101024 then [0, 1, 2, 3].foldl (fun d c => d.when (w.testBit c) (fun d => d.metGo c d.cad.now)) d
  else if a = 0x102008 then (d.when (w.testBit 0) Dev.capArm).when (w.testBit 1) (Dev.capTrigger 0)
  else if a = 0x103444 then d.protCmd w
  else d.putFields a w

/-- Safety: SAF_ARM, HOST_BLOCK, the confirm word. -/
def Dev.safetyWrite (a w : Nat) (d : Dev) : Dev :=
  if a = 0x120010 then d.safArm w
  else if a = 0x120014 then d.when (w.testBit 0) Dev.hostBlock
  else if a = 0x12001C then d.selectConfirm w
  else d.putFields a w

/-- RED_CMD (R420): the key is taken and cleared by a write that commands anything. Mark: DEDUCED, unsafe (log entry 16). -/
def Dev.redCmd (w : Nat) (d : Dev) : Dev :=
  if w % 32 = 0 then d
  else
    let (key, d) := d.redKey
    let d := (d.when (w.testBit 0) (fun d => d.cmdRelinquish key)).when (w.testBit 1) (fun d => d.cmdHandover key)
    ((d.when (w.testBit 2) Dev.cmdStandby).when (w.testBit 3) (fun d => d.cmdTake key)).when (w.testBit 4) (fun d => d.cmdWake key)

/-- Services: SUBMIT, NEXT, CANCEL. -/
def Dev.serviceWrite (a w : Nat) (d : Dev) : Dev :=
  if a = 0x150004 then d.when (w.testBit 0) Dev.svcSubmit
  else if a = 0x15000C then d.when (w.testBit 0) Dev.svcNext
  else
    let d := d.putFields a w
    if a = 0x150018 then d.when (w.testBit 31) (fun d => d.svcCancel (d.g F.SVC_CANCEL_TICKET)) else d

/-- AV_ENG_CMD, bit by bit. -/
def Dev.engCmd (w : Nat) (d : Dev) : Dev :=
  let d := (d.when (w.testBit 0) Dev.engStart).when (w.testBit 1) Dev.engConfirm
  (d.when (w.testBit 2) Dev.engAbortCmd).when (w.testBit 3) Dev.engDischarged

/-- Arm view: commits, the mailbox, the parameter window, the release and Shutter commands, energization. -/
def Dev.viewWrite (a w : Nat) (d : Dev) : Dev :=
  if a < 0x1600A0 ∧ a % 0x20 = 0 then d.when (w.testBit 0) (fun d => d.avCommit ((a - 0x160000) / 0x20))
  else if a = 0x160100 then d.mbxRequest 4 (w % 256) (w.testBit 8)
  else if a = 0x160608 then (d.when (w.testBit 0) Dev.hostReleaseCmd).when (w.testBit 1) Dev.hostShutter
  else if a = 0x160700 then d.engCmd w
  else match d.windowed a with
    | some (some f) => d.psh f w
    | _ => d.putFields a w

/-- Commit groups, mailboxes, data windows. -/
def Dev.commitWrite (a w : Nat) (d : Dev) : Dev :=
  if a < 0x0101A0 ∧ a % 0x20 = 0 then d.when (w.testBit 0) (fun d => d.commit ((a - 0x010000) / 0x20))
  else if 0x010400 ≤ a ∧ a < 0x010480 ∧ a % 0x20 = 0 then d.mbxRequest ((a - 0x010400) / 0x20) (w % 256) (w.testBit 8)
  else d.putFields a w

/-- The effect of a word written at an address that is no port, in the head's own blocks. -/
def Dev.blockWrite (a w : Nat) (d : Dev) : Dev :=
  if a = 0x020018 then d.when (w.testBit 0) Dev.todArm
  else match blockOf a with
    | 0x010000 => d.commitWrite a w
    | 0x040000 => d.laneWrite a w
    | 0x080000 => d.portWrite a w
    | 0x0C0000 => d.ceWrite a w
    | 0x100000 => d.measureWrite a w
    | 0x120000 => d.safetyWrite a w
    | 0x130000 => if a = 0x130014 then d.redCmd w else d.putFields a w
    | 0x140000 => if a = 0x140028 then { d with sec := { d.sec with key := w } } else d.putFields a w
    | 0x150000 => d.serviceWrite a w
    | 0x160000 => d.viewWrite a w
    | _ => d.putFields a w

/-- GLB_CTRL (R499): the key clears at every write. -/
def Dev.glbCtrl (w : Nat) (d : Dev) : Dev :=
  let key := d.g F.GLB_RESET_KEY_KEY
  let d := d.p F.GLB_RESET_KEY_KEY 0
  d.when (w.testBit 0) (Dev.softReset key)

/-- One bit of SEC_CMD. -/
def Chip.secBit (i : Nat) (c : Chip) : Chip :=
  match i with
  | 0 => c.on Dev.secLoad
  | 1 => c.programSlot
  | 2 => c.token
  | 3 => c.attest
  | 4 => c.advanceSvn
  | 5 => c.provision
  | 6 => c.deploy
  | 7 => c.on Dev.secLock
  | _ => c

/-- SEC_CMD: its bits in order; the key clears at every write (R490). -/
def Chip.secCmd (w : Nat) (c : Chip) : Chip :=
  let c := (List.range 8).foldl (fun c i => if w.testBit i then c.secBit i else c) c
  c.on (fun d => { d with sec := { d.sec with key := 0 } })

/-- A write that passed every check (R51, R54): the enabled bytes over what is stored, the range checks, then what the register does. A
port moves on by one word; a write that enables no byte does nothing. -/
def Chip.regWrite (a w bm : Nat) (c : Chip) : Chip :=
  match portOf a with
  | some (.dw k) => c.on (fun d => d.dwWrite k w)
  | some (.mbx m) => c.on (Dev.mbxWrite m)
  | none =>
    if (regAt a).isNone || bm % 16 == 0 then c
    else
      let m := mergeWord (c.dev.regStored a) w bm
      if !c.dev.rangeOk a m then c
      else if a = 0x00006C then c.on (Dev.glbCtrl m)
      else if a = 0x140020 then c.secCmd m
      else c.on (Dev.blockWrite a m)

/-! ## The checks of a write -/

/-- Access codes of R43. -/
def hsOk : Nat := 0x00
def hsCrc : Nat := 0x01
def hsCmd : Nat := 0x02
def hsAlign : Nat := 0x03
def hsAddress : Nat := 0x04
def hsAccess : Nat := 0x05
def hsLocked : Nat := 0x06
def hsBoundary : Nat := 0x07
def hsWindow : Nat := 0x08
def hsEmpty : Nat := 0x09
def hsDomainOff : Nat := 0x0A

/-- The locked bits of a register (R477); none while LOCK_LIFT is open. Mark: DEDUCED, unsafe (log entry 17). -/
def Dev.locked (d : Dev) (a : Nat) : Nat := if (d.g F.SEC_LIFECYCLE_UNLOCKED).testBit 2 then 0 else mget d.conf.locks a

/-- The bits of a register's CMD fields. -/
def cmdBits (a : Nat) : Nat :=
  match regAt a with
  | some r => (r.fields.filter (fun f => f.cls == .cmd)).foldl (fun w f => w + (2 ^ f.w - 1) * 2 ^ f.lo) 0
  | none => 0

/-- A write would change a locked bit: a CMD bit by a 1, any other by another value (R477). -/
def Dev.lockHit (d : Dev) (a w bm : Nat) : Bool :=
  let l := d.locked a
  if l = 0 then false
  else
    let cur := d.regStored a
    let m := mergeWord cur w bm
    let c := cmdBits a
    ((m &&& c &&& l) ||| ((cur ^^^ m) &&& (0xFFFFFFFF ^^^ c) &&& l)) != 0

/-- ACCESS of one word written (R35, R54). -/
def Dev.accessBad (d : Dev) (a bm : Nat) (burst : Bool) : Bool :=
  (if burst then bm != 15 else bm != 15 && noMask a) || (blockOf a == 0x160000 && !d.isLead)

/-- The host may do this at a register: its block is served, the arm view is the lead's, and no lock covers the bits (R35, R47, R477).
The commands of the table that are a write of one register bit go through this. -/
def Dev.hostMay (d : Dev) (a m : Nat) : Bool :=
  d.served (blockOf a) && (blockOf a != 0x160000 || d.isLead) && (d.locked a &&& m) == 0

/-- A command that is a write of 1 to bits `m` of the register at `a`. -/
def Dev.host (a m : Nat) (f : Dev → Dev) (d : Dev) : Dev := if d.hostMay a m then f d else d

def Chip.host (a m : Nat) (f : Chip → Chip) (c : Chip) : Chip := if c.dev.hostMay a m then f c else c

/-- A command that is a write of the whole word `w` to the register at `a` (R54, R477). -/
def Dev.hostWord (a w : Nat) (f : Dev → Dev) (d : Dev) : Dev :=
  if d.served (blockOf a) && !d.accessBad a 15 false && !d.lockHit a w 15 then f d else d

/-- MBX_REQ and MBX_DATA of a mailbox, the arm view's as number 4 (R68), and the port of a data window (R76). -/
def mbxReqAddr (m : Nat) : Nat := if m = 4 then 0x160100 else 0x010400 + 0x20 * m
def mbxDataAddr (m : Nat) : Nat := mbxReqAddr m + 0x10
def dwAddr (k : Nat) : Nat := 0x010604 + 0x10 * k

/-- One word read from a port by the host, with its answer (R42, R54). -/
def Dev.portRead (a : Nat) (d : Dev) : Dev :=
  if d.served (blockOf a) then
    let ((v, empty), d) := d.busRead a
    let st := if empty then hsEmpty else hsOk
    d.emit (.response st [v] (crc8 (be 1 st ++ be 4 v)))
  else d

/-- A register whose writes do something of their own, that is no register, or whose value a selection decides. -/
def ownBehaviour (a : Nat) : Bool :=
  (cmdBits a != 0) || (portOf a).isSome || readsZero a || a == 0x0C0020 || a == 0x0C002C ||
    (decide (0x040000 ≤ a) && decide (a < 0x044800) && (a % 0x100 == 0 || a % 0x100 == 8)) ||
    (match regAt a with | some r => r.holds .mbx | none => true)

/-- A write to a register with no behaviour of its own, with the rules of the bus (R51, R54, R477). -/
def Dev.plainWrite (a w bm : Nat) (d : Dev) : Dev :=
  if ownBehaviour a || a % 4 != 0 || !d.served (blockOf a) || d.accessBad a bm false || d.lockHit a w bm then d
  else
    let m := mergeWord (d.regStored a) w bm
    if !d.rangeOk a m then d
    else match d.windowed a with
      | some (some f) => d.psh f m
      | some none => d
      | none => d.putFields a m

end Sys2Proof.Machine
end

