-- ==== Sys2Proof/Machine/State.lean ====
section
/-! DEFINITION. The whole state: one head (`dev`), its one-time-programmable memory, the cell node at the far end of a lane, and the
commands that wait. Plain data throughout. `Dev` is in Machine/Dev.lean and `Cell` in Machine/Cell.lean. -/
namespace Sys2Proof.Machine

/-- The state of the block. Mark: DESIGN CHOICE, safe (log entry 1). -/
structure State where
  /-- the commands that wait, first in, first out -/
  pending : List Instr
  /-- OTP by word number (R480); it outlives every reset -/
  otp : SMap Nat
  /-- the cell node of the cell contract -/
  node : Cell
  /-- the head -/
  dev : Dev
  deriving DecidableEq, Repr

/-- Why the model stops with a fault: it never does. No command of the table is one that the spec leaves without an effect. -/
inductive Fault where
  /-- raised by nothing; safe -/
  | none
  deriving DecidableEq, Repr

/-- Why a command is refused. -/
inductive Refusal where
  /-- An arm of Dispatch.lean whose command has no meaning yet; no arm is one. Safe. -/
  | notModelled (mnemonic : String)
  /-- Every meaning, for operands outside the ranges of the spec (`Instr.wellFormed` false): there is no such command (a lane 100, a
  33-bit word). Safe. -/
  | illFormed
  deriving DecidableEq, Repr

/-- A node that nothing has powered up. Mark: DESIGN CHOICE, unsafe (log entry 7). -/
def Cell.reset : Cell :=
  { (default : Cell) with ident := List.replicate 96 0#8, coast := 10000, offAt := List.replicate 8 none }

/-- The head as a power-on of its three supplies leaves it, its reset not yet released (R498, R500): register fields at the values of
the tables, no command key, no request, no message, nothing in progress.
Mark: DESIGN CHOICE, unsafe (log entry 8); DESIGN CHOICE, safe (log entry 9). -/
def Dev.reset : Dev :=
  let d : Dev := { (default : Dev) with rf := resetValues, shadow := resetShadows }
  let d := { d with prot := { d.prot with seq := 1 }, svc := { d.svc with nextTicket := 1 },
                    isl := { d.isl with trip := true }, boot := { d.boot with held := true, source := 7 } }
  d.p F.GLB_RESET_CAUSE_CAUSE 7

/-- The state right after reset. Mark: DESIGN CHOICE, unsafe (log entry 6). -/
def State.reset : State := { pending := [], otp := [], node := Cell.reset, dev := Dev.reset }

end Sys2Proof.Machine
end

