-- ==== Sys2Proof/WellFormed.lean ====
section
/-! DEFINITION. Which commands can be sent at all: operands inside the ranges that the spec gives them (64 cell lanes and 72 lanes in
all, 128 slots, 16 channels, 32-bit words and so on). -/
namespace Sys2Proof
open Sys2Proof.Machine

/-- Every element is below a bound. -/
def below (n : Nat) (xs : List Nat) : Bool := xs.all (fun x => decide (x < n))

/-- The header of a span message (R455). -/
def hdrOk (h : SpanHdr) : Bool :=
  decide (h.origin < 8) && decide (h.hops < 256) && decide (h.seq < 2 ^ 16) && decide (h.part < 2 ^ 16)

/-- A command's operands lie in the spec's ranges. Mark: DESIGN CHOICE, safe (log entry 4). -/
def Instr.wellFormed (i : Instr) : Bool :=
  match i with
  | .rd rest segs => decide (rest < 2 ^ 72) && below (2 ^ 40) segs
  | .wr rest segs => decide (rest < 2 ^ 72) && below (2 ^ 40) segs
  | .rdInc rest segs => decide (rest < 2 ^ 72) && below (2 ^ 40) segs
  | .wrInc rest segs => decide (rest < 2 ^ 72) && below (2 ^ 40) segs
  | .rdPort rest segs => decide (rest < 2 ^ 72) && below (2 ^ 40) segs
  | .wrPort rest segs => decide (rest < 2 ^ 72) && below (2 ^ 40) segs
  | .nop hdr segs => decide (hdr < 2 ^ 80) && below (2 ^ 40) segs
  | .accessComplete _ => true
  | .domainOff _ => true
  | .hrpAbort _ => true
  | .plainRegisterWrite a w bm => decide (a < busEnd) && decide (w < 2 ^ 32) && decide (bm < 16)
  | .commit g => decide (g < 13)
  | .commitCutoff => true
  | .commitOutcome => true
  | .avCommit k => decide (k < 5)
  | .stage h k target set => decide (k < 5) && decide (target < 2 ^ 32) && hdrOk h && mwf set
  | .verdict h k target reason => decide (k < 5) && decide (target < 2 ^ 32) && decide (reason < 256) && hdrOk h
  | .avCommitApply => true
  | .mbxRequest m item _ => decide (m < 5) && decide (item < 256)
  | .mbxCapture m _ => decide (m < 5)
  | .mbxDataRead m => decide (m < 5)
  | .snapPart h frame words => decide (frame < 2 ^ 32) && below (2 ^ 32) words && hdrOk h
  | .snapshotTimeout => true
  | .dwDataWrite k w => decide (k < 4) && decide (w < 2 ^ 32)
  | .dwResultRead k => decide (k < 4)
  | .todArm => true
  | .ppsEdge _ => true
  | .ppsLocked => true
  | .ppsLockLost => true
  | .holdover _ => true
  | .holdoverLimit _ => true
  | .frameTick _ => true
  | .probeInterval ln => decide (ln < 72)
  | .timeProbe ln _ => decide (ln < 72)
  | .timeEcho ln _ _ => decide (ln < 72)
  | .probeAverageRestart ln => decide (ln < 72)
  | .alignCell l => decide (l < 64)
  | .alignHead => true
  | .echoLost ln => decide (ln < 72)
  | .cePass _ _ => true
  | .nonfiniteLimit inst => decide (inst < 256)
  | .init => true
  | .ceInitialise => true
  | .spanOut h frame vals => decide (frame < 2 ^ 32) && below (2 ^ 32) vals && hdrOk h
  | .gatherDeadline => true
  | .sortEnd => true
  | .quotaCompute => true
  | .quotaLate => true
  | .ceOverrun => true
  | .cellSelection => true
  | .dsfLaunch => true
  | .launchLate => true
  | .missLimit code pos => decide (code < 16) && decide (pos < 8)
  | .tbUnlock => true
  | .usf l _ => decide (l < 64)
  | .suspectLimit l => decide (l < 64)
  | .cellLost l => decide (l < 64)
  | .suspectClear l => decide (l < 64)
  | .go => true
  | .convOpen l => decide (l < 64)
  | .convSegTimeout l => decide (l < 64)
  | .convWholeTimeout slot => decide (slot < 128)
  | .convAbort slot => decide (slot < 128)
  | .convRelease slot => decide (slot < 128)
  | .rediscover l => decide (l < 64)
  | .discoveryDefer l => decide (l < 64)
  | .discRetry l => decide (l < 64)
  | .summary h _ => hdrOk h
  | .quota h _ => hdrOk h
  | .suppressEnd arm => decide (arm < 2)
  | .suppressTimeout arm => decide (arm < 2)
  | .testFail k => decide (k < 16)
  | .testFailClear k => decide (k < 16)
  | .metGo c _ => decide (c < 4)
  | .metIntegrationStart c => decide (c < 4)
  | .metConversionEnd c _ _ _ => decide (c < 4)
  | .lsyncEdge _ => true
  | .lsyncLoss _ => true
  | .noref c _ => decide (c < 4)
  | .capArm => true
  | .capTrigger => true
  | .capDone => true
  | .hardOc k _ _ => decide (k < 16)
  | .softOc k _ _ => decide (k < 16)
  | .pendingEvaluate k _ _ => decide (k < 16)
  | .spanShutter x => decide (x.ln < 72)
  | .release => true
  | .releaseApply => true
  | .hostShutter => true
  | .avHostShutter => true
  | .f4Reset => true
  | .unpin => true
  | .unpinAll => true
  | .clearBypass => true
  | .faultEngineTake => true
  | .sensorSubst k => decide (k < 16)
  | .sensorTimeout k => decide (k < 16)
  | .sensorRestore k => decide (k < 16)
  | .blockEnd l => decide (l < 64)
  | .dxNoRes l => decide (l < 64)
  | .tempConversion k _ => decide (k < 16)
  | .sensorBroken k => decide (k < 16)
  | .brokenClear k => decide (k < 16)
  | .safetyCycle _ _ _ => true
  | .limitedFunctionDemand k => decide (k < 3)
  | .inputDemand k => decide (k < 12)
  | .inputClear k => decide (k < 12)
  | .testPulse k low touched => decide (k < 4) && decide (low < 16) && decide (touched < 16)
  | .hardwareMonitorFault _ => true
  | .islandWatchdog => true
  | .ackStuck => true
  | .safeAck _ _ => true
  | .safArm w => decide (w < 2 ^ 32)
  | .armedExpiry _ => true
  | .selectionConfirm w => decide (w < 2 ^ 32)
  | .hostBlock => true
  | .startWindow => true
  | .selftestDone => true
  | .permitInEdge _ _ => true
  | .closingAttempt _ => true
  | .chainClosed _ => true
  | .closingAttemptTimeout _ => true
  | .safety _ h _ => hdrOk h
  | .msgLoss _ p => decide (p < 8)
  | .chain _ => true
  | .darkPulse so _ => decide (so < 4)
  | .establishEnd _ => true
  | .coldWake _ => true
  | .relinquish => true
  | .handover => true
  | .standby => true
  | .take => true
  | .wake => true
  | .claimNotTaken => true
  | .leadLost => true
  | .lockstep => true
  | .notice _ => true
  | .hatchBlock _ => true
  | .checkpointCapture => true
  | .checkpointSent => true
  | .settingsSend => true
  | .checkpointWatchdog _ => true
  | .wakeBeacon => true
  | .restoreDone _ _ => true
  | .openDone _ => true
  | .timeDone _ => true
  | .loadDone _ => true
  | .wakePhaseTimeout _ => true
  | .loaded h gen => decide (gen < 2 ^ 24) && hdrOk h
  | .claimNameTimeout _ => true
  | .claimTick => true
  | .resume => true
  | .resumeLate => true
  | .lanePower ln w => decide (ln < 72) && decide (w < 2 ^ 32)
  | .pllLock ln => decide (ln < 72)
  | .signalDetect ln => decide (ln < 72)
  | .alignLock ln => decide (ln < 72)
  | .train ln _ _ => decide (ln < 72)
  | .trainAttemptLimit ln => decide (ln < 72)
  | .laneDown ln _ => decide (ln < 72)
  | .laneEqWrite ln w => decide (ln < 72) && decide (w < 2 ^ 32)
  | .modeWrite ln mode => decide (ln < 72) && decide (mode < 4)
  | .injectOne ln => decide (ln < 72)
  | .injectBurst ln => decide (ln < 72)
  | .checkerLock ln _ => decide (ln < 72)
  | .checkerLoss ln _ _ => decide (ln < 72)
  | .enumSend => true
  | .enum h admitted ring _ _ => decide (admitted < 256) && decide (ring < 2 ^ 32) && hdrOk h
  | .enumReply h position => decide (position < 8) && hdrOk h
  | .station => true
  | .ulShutter ln _ => decide (ln < 72)
  | .ulShutterClear => true
  | .porAon _ => true
  | .porCore _ => true
  | .porSafe _ => true
  | .resetN _ => true
  | .soft => true
  | .supWdt _ => true
  | .resetRelease _ position unit => decide (position < 8) && decide (unit < 2)
  | .otpStage _ _ => true
  | .refStage _ _ => true
  | .bistStage _ => true
  | .slotsStage _ => true
  | .configurationComplete _ => true
  | .load => true
  | .loadComplete _ => true
  | .programSlot => true
  | .programSlotComplete _ => true
  | .token => true
  | .attest => true
  | .attestComplete => true
  | .advanceSvn => true
  | .provision => true
  | .provisionComplete => true
  | .deploy => true
  | .lock => true
  | .unlockExpiry _ => true
  | .start => true
  | .confirm => true
  | .abort => true
  | .discharged => true
  | .engStepTimeout => true
  | .submit => true
  | .energyStart q _ => decide (q < 16)
  | .energyStop q => decide (q < 16)
  | .metCheck q _ _ => decide (q < 16)
  | .fwDistribute q => decide (q < 16)
  | .logFaults q _ => decide (q < 16)
  | .logCheckpoint q _ => decide (q < 16)
  | .logRead q => decide (q < 16)
  | .logErase q _ => decide (q < 16)
  | .serviceEnd q => decide (q < 16)
  | .next => true
  | .cancel ticket => decide (ticket < 2 ^ 16)
  | .monHelp => true
  | .monInfo => true
  | .monRd a _ => decide (a < 2 ^ 32)
  | .monState => true
  | .monFaults _ => true
  | .monLanes => true
  | .monWr a w bm => decide (a < 2 ^ 32) && decide (w < 2 ^ 32) && decide (bm < 16)
  | .monSvc _ args => below (2 ^ 32) args
  | .monReset => true
  | .errLine => true
  | .cellDsf _ p _ _ _ => decide (p < 2)
  | .cellTargetTick => true
  | .cellEdge => true
  | .cellShutter _ p _ => decide (p < 2)
  | .cellProbe _ _ p _ => decide (p < 2)
  | .cellGap => true
  | .cellSimmerEnd => true
  | .cellFloorClear _ => true
  | .cellUsfSend vcap temp res faults => decide (vcap < 2 ^ 32) && decide (temp < 2 ^ 16) && decide (res < 2 ^ 16) && decide (faults < 64)
  | .cellSegment p bytes => decide (p < 2) && decide (bytes.length = 28)
  | .cellRetxTimeout p => decide (p < 2)
  | .cellIdleTimeout p => decide (p < 2)
  | .cellWorkDone p status _ _ version => decide (p < 2) && decide (status < 256) && decide (version < 2 ^ 32)
  | .spanTimeProbe ln _ _ _ _ _ => decide (ln < 72)
  | .ticksResume => true
  | .cellNodeBoot _ => true
  | .capLevelTrigger x => decide (x.k < 16)

end Sys2Proof
end

