-- ==== Sys2Proof/Machine/Exec.lean ====
section
/-! DEFINITION. How a command acts on the state: through the head, through the head and its OTP, or through the cell node. While the
head is held in reset its clocks do not run and its ports do not answer, so that only the resets, the release of reset, the safety
island and the cell node have an effect (R498, R500). -/
namespace Sys2Proof.Machine

/-- What a command answers. -/
abbrev Answer := Host.Outcome State Fault Refusal

/-- A command whose operands are out of range is none. -/
def checked (i : Instr) (s : State) : Answer := if i.wellFormed then .next s else .refused .illFormed

/-- The head with nothing sent yet in this step. Mark: DESIGN CHOICE, unsafe (log entry 14). -/
def Dev.fresh (d : Dev) : Dev := { d with out := [] }

/-- A command at the head. -/
def onHead (i : Instr) (f : Dev → Dev) (s : State) : Answer :=
  checked i { s with dev := if s.dev.boot.held then s.dev.fresh else f s.dev.fresh }

/-- A command that acts at the head in reset too. -/
def onHeadAlways (i : Instr) (f : Dev → Dev) (s : State) : Answer := checked i { s with dev := f s.dev.fresh }

/-- A command at the head and its OTP. -/
def onChip (i : Instr) (f : Chip → Chip) (s : State) : Answer :=
  let c : Chip := if s.dev.boot.held then ⟨s.otp, s.dev.fresh⟩ else f ⟨s.otp, s.dev.fresh⟩
  checked i { s with otp := c.otp, dev := c.dev }

/-- A command at the cell node. -/
def onNode (i : Instr) (f : Cell → Cell) (s : State) : Answer := checked i { s with node := f s.node, dev := s.dev.fresh }

/-- A command at the cell node that sends something. -/
def onNodeOut (i : Instr) (f : Cell → Cell × List Out) (s : State) : Answer :=
  let r := f s.node
  checked i { s with node := r.1, dev := { s.dev with out := r.2 } }

end Sys2Proof.Machine
end

