-- ==== Sys2Proof/Machine/ExecBoot.lean ====
section
/-! DEFINITION. The meanings of the commands of resets and boot, one for each row of the table. -/
namespace Sys2Proof.Machine

/-- POR_AON (R498): VDD_AON falls below its threshold and everything except the safety island is reset. -/
def execPorAon (t : Nat) (s : State) : Answer := onHeadAlways (.porAon t) (Dev.porAon t) s

/-- POR_CORE (R498): A core rail falls below its threshold and every domain except AON and SAFE is reset. -/
def execPorCore (t : Nat) (s : State) : Answer := onHeadAlways (.porCore t) (Dev.porCore t) s

/-- POR_SAFE (R498): VDD_SAFE falls below its threshold and the safety island is reset into SELFTEST. -/
def execPorSafe (t : Nat) (s : State) : Answer := onHeadAlways (.porSafe t) (Dev.porSafe t) s

/-- RESET_N (R498): Ball RESET_N held low for 1 us resets the head except AON, SAFE and the fault ring. -/
def execResetN (t : Nat) (s : State) : Answer := onHeadAlways (.resetN t) (Dev.resetN t) s

/-- SOFT (R499): Host writes RESET in GLB_CTRL after the key and the head resets, or the write is refused and counted. -/
def execSoft (s : State) : Answer := onHead .soft (Dev.host 0x00006C 1 (Dev.glbCtrl 1)) s

/-- SUP_WDT (R498): The supervisor watchdog expires after 100 ms without service and the head resets. -/
def execSupWdt (t : Nat) (s : State) : Answer := onHead (.supWdt t) (Dev.supWdt t) s

/-- RESET_RELEASE (R500): Reset is released, straps are sampled and boot starts at stage OTP. -/
def execResetRelease (t position unit : Nat) (s : State) : Answer :=
  onHeadAlways (.resetRelease t position unit) (Dev.resetRelease t position unit) s

/-- OTP_STAGE (R500): The OTP boot stage reads lifecycle, UID, key slots and trim, or halts on undecodable lifecycle bits. -/
def execOtpStage (corr : Nat) (unc : List Nat) (s : State) : Answer :=
  onChip (.otpStage corr unc) (Chip.otpStage corr unc) s

/-- REF_STAGE (R500): REF is detected and every PLL locks, or the stage retries every 10 ms. -/
def execRefStage (t : Nat) (locked : Bool) (s : State) : Answer :=
  onHead (.refStage t locked) (Dev.refStage t locked) s

/-- BIST_STAGE (R500): The SRAM march test and lockstep self-test complete, or the head halts. -/
def execBistStage (pass : Bool) (s : State) : Answer := onHead (.bistStage pass) (Dev.bistStage pass) s

/-- SLOTS_STAGE (R485): The head verifies the boot-flash slots in order and applies one, or waits for a host LOAD. -/
def execSlotsStage (t : Nat) (s : State) : Answer := onChip (.slotsStage t) (Chip.slotsStage t) s

/-- CONFIGURATION_COMPLETE (R502): The configuration is put in force, the safety section is handed over and the head
enters WAKING or DORMANT. -/
def execConfigurationComplete (t : Nat) (s : State) : Answer :=
  onHead (.configurationComplete t) (Dev.configComplete t) s

end Sys2Proof.Machine
end

