-- ==== Sys2Proof/Machine/Frame.lean ====
section
/-! DEFINITION. The steps of a frame that several subsystems share: the tick (R96, R97), the quota message at a head
(R241), selection and scheduling (R242, R255), the launch (R119 to R124), and the misses of R106. -/
namespace Sys2Proof.Machine

/-! ## The tick -/

/-- May this head tick (R96, R106, R415, R503)? A head that already ticks goes on; another needs T0, its PLL, and on a head
other than the lead its admission and alignment. -/
def Dev.mayTick (d : Dev) : Bool :=
  d.cad.t0Set && d.cad.tbLocked && decide (2 ≤ d.redState) &&
  (d.ticking ||
    (!(d.redState == 2 && (d.g F.RED_STATE_PHASE == 0 || d.g F.RED_STATE_PHASE == 1 || d.g F.RED_STATE_PHASE == 3)) &&
     (d.isLead || ((d.g F.LANE_ENUM_ADMITTED).testBit d.pos && !d.spectator && d.b F.CAD_SYNC_STATE_SPAN_ALIGNED))))

/-- Frame number, epoch and time of the next tick (R96, R97). Mark: DEDUCED, safe (log entry 45). -/
def Dev.nextTick (d : Dev) : Dev :=
  if d.cad.started then
    let t := d.cad.tickAt + d.periodQ
    let f := d.cad.frame + 1
    { d.atClock t with cad := { (d.atClock t).cad with tickAt := t, frame := f % 2 ^ 32, epoch := (d.cad.epoch + f / 2 ^ 32) % 2 ^ 16 } }
  else { d.atClock d.cad.tickAt with cad := { (d.atClock d.cad.tickAt).cad with started := true, frame := 0, epoch := 0 } }

/-- The polarity in which a lane is fully inserted from the tick just passed to the next one (R335): every leg has the command of it
throughout, no switch is forced, and the lane is no trim cell. Mark: DEDUCED, unsafe (log entry 173). -/
def Dev.fullNow (d : Dev) (l : Nat) : Nat :=
  let e := d.edgeOf l
  let t := d.cad.tickAt
  let is (ins : Nat) : Bool :=
    let cs := d.mapCmds l (insCmds (d.g (F.HCL_PORT_CTRL_CELL_TYPE l)) ins)
    !cs.isEmpty && (List.range cs.length).all (fun k => (cs[k]?).getD 0 == e.cmdAt k t &&
      e.sent.all (fun c => c.leg != k || decide (t + d.periodQ ≤ c.t) || c.cmd == (cs[k]?).getD 0))
  if e.trim.isSome || d.forces l != 0 then 0
  else if is 1 then 1
  else if is 2 && d.isFb l then 2
  else 0

/-- The cell ports at a tick: last frame's outcome moves back one (R136, R335). -/
def Dev.portTick (d : Dev) : Dev :=
  let d := (List.range 64).foldl (fun d l =>
    d.portUpd l (fun p => { p with wasUsable := p.usable, vcapPrev := d.g (F.HCL_PORT_VCAP_VCAP l), got := false, usable := false })) d
  let full := (List.range 64).foldl (fun m l => mset m l (d.fullNow l)) d.bal.full
  { d with bal := { d.bal with fullPrev := d.bal.full, full := full } }

/-- The leg commands in force at the tick just passed (R281). -/
def Dev.legTick (d : Dev) : Dev :=
  (List.range 64).foldl (fun d l => (List.range 4).foldl (fun d k =>
    d.p (F.legState l k) ((d.edgeOf l).cmdAt k d.cad.tickAt)) (d.showLane l)) d

/-- The ticks since an arm view snapshot was captured (R75, R110). -/
def Dev.snapTick (d : Dev) : Dev :=
  if (mget d.mbx 4).at_.isSome then { d with mbx := mupd d.mbx 4 (fun b => { b with wait := b.wait + 1 }) } else d

/-- Counts of redundancy that run in frames. -/
def Dev.redTick (d : Dev) : Dev :=
  let r := { d.red with noQuota := d.red.noQuota + 1, ticks := d.red.ticks + 1, captured := false,
                        holdFrames := if d.red.hold then d.red.holdFrames + 1 else d.red.holdFrames }
  { d with red := r }.notTakenTick

/-- What a tick does at the head beside the rows that have a step of their own: the time, the measurements of the window that
ended (`codes`, slot by slot), the power limit, what the engines latch, and every count that runs in frames.
Mark: DEDUCED, unsafe (log entry 15); DESIGN CHOICE, safe (log entry 76). -/
def Dev.frameTick (codes : List (List Int)) (d : Dev) : Dev :=
  if !d.mayTick then d
  else
    let new := !d.ticking
    let last := d.cad.tickAt
    let was := d.cad.frame
    let d := d.catchUp.nextTick
    let d := d.pb F.CAD_SYNC_STATE_TICKS true
    let d := d.when d.isLead (fun d => d.pb F.CAD_SYNC_STATE_SPAN_ALIGNED true)
    let d := d.p F.CAD_TICK_PHASE_PHASE (d.tickGlobal % secQ % max 1 d.periodQ)
    let d := d.when (new && d.inPhase 2) (fun d => { d with red := { d.red with phaseAt := d.cad.now } })
    let d := d.when (new && d.b F.CE_CTRL_INIT) (fun d => { d with ce := { d.ce with initDue := true } })
    let d := { d with cad := { d.cad with work := default } }
    let d := ((if new then d.endNotes.fsRest else d.endNotes.fsTick was codes).safTick last).louvreTick.ceTick.mfTick.probeTick.convTick.promote
    (d.avSend.snapTick.suppTick.engTick.portTick.legTick.redTick)

/-- The TB PLL loses lock (R106, R417). -/
def Dev.tbUnlock (d : Dev) : Dev :=
  if d.cad.tbLocked then
    let d := { d with cad := { d.cad with tbLocked := false } }
    let d := (d.pb F.CAD_SYNC_STATE_TICKS false).pb F.CE_STATUS_RUNNING false
    (d.raise { src := 0x0106, cls := 4, event := false }).relinquish relqTbUnlock
  else d

/-- The TB PLL regains lock (R106, R217): ticks come again with the next tick of the sequence, and a pending INIT is taken. -/
def Dev.ticksResume (d : Dev) : Dev :=
  if d.cad.tbLocked then d
  else
    let d := ({ d with cad := { d.cad with tbLocked := true } }.endCause 0x0106 0)
    d.when (d.b F.CE_CTRL_INIT) (fun d => { d with ce := { d.ce with initDue := true } })

/-- MISS_LIMIT (R107), with the optional relinquishment of a failing CE (R417). -/
def Dev.missLimitRow (stage pos : Nat) (d : Dev) : Dev :=
  let was := mget d.cad.missRaised (missKey stage pos)
  let d := d.missLimit stage pos
  let now := mget d.cad.missRaised (missKey stage pos)
  d.when (now && !was && stage == 2 && d.relqMask 0) (fun d => d.relinquish relqMissLimit)

/-! ## The quota message at a head (R241, R456) -/

/-- RELEASE of a message (R326): too late once the DSFs of frame F - 1 have gone; counted when F has passed. -/
def Dev.takeRelease (d : Dev) (f : Nat) (init : Bool) : Dev :=
  if later f d.cad.frame then
    let late := f == frameAdd d.cad.frame 1 && d.cad.work.launched
    { d with prot := { d.prot with relF := some f, relInit := init, relLate := late } }
  else d.inc F.PROT_RELEASE_VOID_COUNT

/-- The first message of a suppression of an arm (R247, R250): what has come in its frame or before is no further Shutter, what has
come in a later frame is one. Mark: DEDUCED, unsafe (log entry 167). -/
def Dev.suppBegins (d : Dev) (a : Nat) (q : QuotaMsg) : Dev :=
  let further := match d.prot.lastShutter with
    | some f => later f q.frame
    | none => false
  d.when ((q.arm a).suppFirst && !further) (fun d => { d with bal := { d.bal with suppStop := mset d.bal.suppStop a false } })

/-- Everything that travels with the quotas. Mark: DESIGN CHOICE, unsafe (log entry 157). -/
def Dev.directives (d : Dev) (q : QuotaMsg) : Dev :=
  let d := { d with red := { d.red with noQuota := 0 } }.avOutcomes q.outcomes
  let d := d.p F.CAD_SYNC_STATE_STATE q.sync
  let d := match q.release with
    | some (f, i) => d.takeRelease f i
    | none => d
  let d := d.when q.relinquish (fun d => { d with red := { d.red with relqNext := true } })
  let d := match q.resume with
    | some f => d.when (later f d.cad.frame) (fun d => { d with red := { d.red with resumeAt := some f } })
    | none => d
  let d := d.when (q.hold && d.redState == 3) (fun d =>
    { d with red := { d.red with hold := true, resumeAt := none, holdFrames := 0 } })
  let d := d.when q.cellsUp Dev.endExemption
  let d := match q.claim with
    | some (f, g, who) =>
      d.when (d.redState == 2 && (who.isNone || who == some d.pos) &&
          (d.g F.RED_STATE_PHASE == 2 || d.g F.RED_STATE_PHASE == 5)) (fun d =>
        { d with red := { d.red with claimAt := some f, claimGen := g } }.p F.RED_STATE_PHASE 5)
    | none => d
  let d := match q.snap with
    | some s => { d with red := { d.red with snapPart := some s } }
    | none => d
  let d := match q.handover with
    | some f => { d with red := { d.red with handoverAt := some f } }
    | none => d
  let d := [0, 1].foldl (fun d a => d.suppBegins a q) d
  d.when (q.dormant && d.inPhase 2 || q.dormant && d.inPhase 5) (fun d => d.enterDormant)

/-- A quota message arrives (R241, R457). One that comes past the deadline of its frame gives no quotas. -/
def Dev.quotaTake (h : SpanHdr) (q : QuotaMsg) (d : Dev) : Dev :=
  let (act, d) := d.spanTake spQuota h
  if act && !d.isLead then
    let fresh := d.ticking && q.frame == d.cad.frame && !d.cad.work.quotaLate && !d.cad.work.quotas
    let d := d.when fresh (fun d => d.takeQuota q)
    d.directives q
  else d

/-- The quota deadline passes without the message of this frame (R106). -/
def Dev.quotaLate (d : Dev) : Dev :=
  if d.isLead || !d.ticking || d.spectator || d.cad.work.quotas || d.cad.work.quotaLate then d
  else
    let d := { d with cad := { d.cad with work := { d.cad.work with quotaLate := true } } }
    ((d.inc F.CAD_QUOTA_LATE_COUNT).raise { src := 0x0102, cls := 1 }).missed 3 0

/-! ## RUN (R122) -/

/-- A release named for the next tick takes effect there (R326). -/
def Dev.releaseNext (d : Dev) : Bool := match d.prot.relF with
  | some f => f == frameAdd d.cad.frame 1 && !d.releaseVoid f
  | none => false

/-- An arm in suppression at this head (R247, R250). -/
def Dev.suppressed (d : Dev) (a : Nat) : Bool :=
  let q := d.bal.quota.arm a
  q.suppress && !mget d.bal.suppStop a

/-- An FB lane of an arm in suppression: its first DSF of the suppression carries RELEASE 1 (R247). -/
def Dev.suppLane (d : Dev) (l : Nat) : Bool := match d.armOf l with
  | some a => d.suppressed a && d.isFb l
  | none => false

/-- A Shutter counts as latched for a lane in the DSF of this frame (R122, R247, R326, R435). Mark: DEDUCED, unsafe (log entry 70). -/
def Dev.latchedFor (d : Dev) (l : Nat) : Bool :=
  let held := d.red.hold && d.red.resumeAt != some (frameAdd d.cad.frame 1)
  let lat := match d.armOf l with
    | some a => if d.suppressed a then !d.isFb l
      else (if a = 0 then d.b F.PROT_STATUS_LATCHED0 else d.b F.PROT_STATUS_LATCHED1) && !d.releaseNext
    | none => d.latched && !d.releaseNext
  held || lat

/-- Every condition of R122 but the count of edges. Only an ACTIVE head commands its cells (R123, R413).
Mark: DEDUCED, unsafe (log entry 69). -/
def Dev.runOk (d : Dev) (l : Nat) : Bool :=
  d.so0 && d.b (F.HCL_PORT_CTRL_ENABLE l) && !d.b (F.HCL_PORT_CTRL_HOST_BYPASS l) && d.permit l && d.redState == 3 &&
  d.laneUp l && !d.latchedFor l

/-! ## Selection and scheduling -/

/-- The plan of one lane that is to run: `t1` and `t2` are ticks n+1 and n+2, `was` the lanes inserted in frame n-1's
selection. -/
def Dev.planLane (d : Dev) (l nRun t1 t2 : Nat) (was : List Nat) : LanePlan :=
  let e := (d.edgeOf l).advance t1
  match d.armOf l with
  | none => if d.isDx l then d.planDx l nRun t1 t2 e else d.planBase l 0 t1 t2 t1 e
  | some a =>
    let q := d.bal.quota.arm a
    let p := d.port! l
    let sup := d.suppressed a && d.isFb l
    let t0 := if sup && (q.suppFirst || q.suppLast) then t1 + d.pos * q.sigma else t1
    if sup && q.suppLast then d.planOff l t1 t2 t0 e
    else if mget d.bal.trim a = some l then d.planTrim l q.neg (was.contains l) q.fNum q.fDen t1 t2 t0 e
    else d.planBase l (if p.inserted then (if p.neg then 2 else 1) else 0) t1 t2 t0 e

/-- Put a lane's plan down, with what it counts and shows (R266, R267, R272, R280, R281). -/
def Dev.putPlan (d : Dev) (l : Nat) (p : LanePlan) : Dev :=
  let d : Dev := { d with edge := mset d.edge l p.lane }
  let d := ((d.addTo F.EDGE_SHORT_COUNT p.shorts).addTo F.EDGE_CARRY_LOST_COUNT p.lost).addTo F.EDGE_POSTPONE_COUNT p.postponed
  let d := p.locked.foldl (fun d _ => (d.inc F.EDGE_INTERLOCK_COUNT).raise
    { src := 0x0405, cls := 2, detail := l, arms := d.armMask l, value := d.g (F.HCL_PORT_VCAP_VCAP l) }) d
  (d.pb (F.laneTrim l) p.lane.trim.isSome).showLane l

/-- Blanking windows begin at the leg command changes that a DSF carries (R258, R317). Mark: DEDUCED, unsafe (log entry 75). -/
def Dev.blankFrom (d : Dev) (a : Nat) (ts : List Nat) : Dev :=
  if ts.isEmpty then d
  else (List.range 16).foldl (fun d k =>
    if d.role k = a + 1 then
      d.chanUpd k (fun c => { c with changes := (c.changes.filter (fun t => decide (d.cad.now < t + 8000))) ++ ts })
    else d) d

/-- A lane that is sent RUN 0 (R256, R258, R267): its residuals are discarded, and the change of its legs to OFF is reported. -/
def Dev.haltLane (d : Dev) (l t1 : Nat) : Dev :=
  let e := (d.edgeOf l).advance t1
  let d := d.addTo F.EDGE_CARRY_LOST_COUNT e.heldCount
  let d := match d.armOf l with
    | some a => d.when ((List.range 4).any (fun k => (e.leg k).cmd != cmdOff)) (fun d => d.blankFrom a [t1])
    | none => d
  let d : Dev := { d with edge := mset d.edge l (e.halt t1) }
  (d.pb (F.laneTrim l) false).showLane l

/-- The state of the DX carrier of the head (R269). -/
def Dev.showDx (d : Dev) (nRun : Nat) : Dev :=
  let (pn, pd) := d.pCell nRun
  let low := 2 * 40 * d.g F.EDGE_DX_ON_ON
  let lim := decide (pn < low * pd)
  let was := d.b F.EDGE_DX_STATE_DX_LIMITED
  let q := if lim then (low : Int) else rneDiv pn pd
  let d := (d.ps F.EDGE_DX_STATE_P_CELL (qdiv q 40)).p F.EDGE_DX_STATE_N_RUN nRun
  (d.pb F.EDGE_DX_STATE_DX_LIMITED lim).when (lim && !was) (fun d => d.inc F.EDGE_DX_LIMIT_COUNT)

/-- A DSF is launched on the lane each frame (R121, R138). -/
def Dev.launches (d : Dev) (l : Nat) : Bool := d.b (F.HCL_PORT_CTRL_ENABLE l) && d.configured l && d.laneUp l

/-- Cell selection and the edge scheduler (R242 to R244, R255), once both branches of the frame are complete (R100). -/
def Dev.cellSelection (d : Dev) : Dev :=
  let w := d.cad.work
  if !(d.ticking && w.sorted && (w.quotas || w.quotaLate) && !w.selected && !d.spectator) then d
  else
    let was := (List.range 64).filter (fun l => (d.port! l).inserted)
    let d := d.applyPicks (d.pick 0) (d.pick 1)
    let d := { d with bal := { d.bal with relSent := d.bal.relSent.filter (fun l => d.suppLane l) } }
    let t1 := d.cad.tickAt + d.periodQ
    let t2 := t1 + d.periodNext * 40
    let lanes := (List.range 64).filter (fun l => d.configured l)
    let run := lanes.filter (fun l => d.runOk l)
    let nRun := (run.filter (fun l => d.isDx l)).length
    let d := d.when (!d.dxLanes.isEmpty) (fun d => d.showDx nRun)
    let d := lanes.foldl (fun d l =>
      if run.contains l then d.putPlan l (d.planLane l nRun t1 t2 was)
      else if d.launches l then { d with edge := mupd d.edge l (fun e => { e with plan := [], planEdges := [] }) }
      else d.haltLane l t1) d
    let w := { d.cad.work with selected := true, runMask := run.foldl (fun m l => setBit m l) 0 }
    { d with cad := { d.cad with work := w } }

/-! ## The launch (R119 to R124, R247, R326, R410, R419) -/

/-- The edges of a DSF: the earliest twelve at or after tick n+1 that its offsets can reach (R121). -/
def sendEdges (es : List SwEdge) (t1 : Nat) : List SwEdge :=
  (es.filter (fun x => decide (t1 ≤ x.t) && decide (x.t < t1 + 2 ^ 28))).take 12

/-- The number of edges of a lane in the window of tick n+1 (R122). -/
def windowEdges (es : List SwEdge) (t1 t2 : Nat) : Nat := (es.filter (fun x => decide (t1 ≤ x.t) && decide (x.t < t2))).length

/-- When a DSF launched now, its bulk segments and the IDLE behind them have left the lane (R101, R124, R127, R131). -/
def Dev.laneBusy (d : Dev) (l bulks : Nat) : Dev :=
  let r := d.g (F.LANE_CFG_RATE l)
  let n := (lHtx r + sDsf r) * 4 + (1024 * bulks + 9) / 10 + byRate r 64 32 16 26
  d.probeUpd l (fun p => { p with busy := d.cad.now + n })

/-- Build and launch the DSF of one lane. -/
def Dev.launchLane (claim0 : Bool) (t1 t2 : Nat) (d : Dev) (l : Nat) : Dev :=
  let e := d.edgeOf l
  let tooFar := d.cad.work.runMask.testBit l && decide (12 < windowEdges e.planEdges t1 t2)
  let d := d.when tooFar (fun d => (d.inc (F.HCL_EDGE_OVERFLOW_COUNT l)).raiseSuspect 0x0205 l)
  let run := d.cad.work.runMask.testBit l && d.runOk l && !tooFar && !claim0
  let d := if run then d else d.haltLane l t1
  let sup := d.suppLane l && !d.bal.relSent.contains l
  let es := if run then sendEdges e.planEdges t1 else []
  let (sg, bulk, d) := d.convBuild l
  let f : Dsf :=
    { targetFrame := frameAdd d.cad.frame 1, claim := if claim0 then 0 else d.claimSent,
      tickTime := (d.tickGlobal + d.periodQ) % 2 ^ 32, run := run, release := d.releaseNext || sup,
      bypass := d.bypassed l || d.b (F.HCL_PORT_CTRL_HOST_BYPASS l), segValid := sg.isSome,
      cellType := d.g (F.HCL_PORT_CTRL_CELL_TYPE l), simmer := d.b F.RED_GAP_SIMMER, edgeCount := es.length,
      bulkCount := bulk.length,
      epoch := if d.cad.frame = 2 ^ 32 - 1 then (d.cad.epoch + 1) % 2 ^ 16 else d.cad.epoch,
      edges := es.map (fun x => ⟨x.on, x.sw, x.t - t1⟩),
      segment := match sg with
        | some s => s.encode
        | none => padTo 28 [] }
  let d := (d.emit (.dsf l f.encode (bulk.map bulkEncode))).laneBusy l bulk.length
  let d := d.when sup (fun d => { d with bal := { d.bal with relSent := l :: d.bal.relSent } })
  let d := (d.pb (F.HCL_PORT_STATE_RUN_SENT l) run).p (F.laneEdges l) (min 12 (windowEdges es t1 t2))
  let told := e.plan.filter (fun c => decide (c.t < t2) || es.any (fun x => x.unit == c.t && x.sw / 2 == c.leg))
  let owed := e.planEdges.filter (fun x => decide (x.unit < t2) && !es.contains x)
  let d := d.when run (fun d => { d with edge := mset d.edge l { e with sent := told, sentEdges := es, owed := owed } })
  let d := match d.armOf l with
    | some a => d.when run (fun d =>
        d.blankFrom a ((e.plan.filter (fun (c : LegChange) => decide (t1 ≤ c.t) && decide (c.t < t2))).map LegChange.t))
    | none => d
  let d := d.portUpd l (fun p => { p with dxFrames := if run && d.isDx l then p.dxFrames + 1 else 0 })
  d.showPort l

/-- The launch of the DSFs of a frame (R121). -/
def Dev.dsfLaunch (d : Dev) : Dev :=
  let w := d.cad.work
  if !(d.ticking && w.selected && !w.launched && !w.launchLate && decide (2 ≤ d.redState) && !d.spectator) then d
  else
    let d := d.atClock (d.cad.tickAt + d.cad.lQ)
    let d := d.when d.red.relqNext (fun d => ({ d with red := { d.red with relqNext := false } }).relinquish relqGroup)
    let claim0 := d.claimDiffers
    let d := d.when claim0 (fun d => d.relinquish relqClaimCheck)
    let t1 := d.cad.tickAt + d.periodQ
    let t2 := t1 + d.periodNext * 40
    let lanes := d.enabledLanes.filter (fun l => d.configured l && d.laneUp l)
    let d := lanes.foldl (fun d l => d.launchLane claim0 t1 t2 l) d
    let d := { d with prot := { d.prot with handling := d.prot.handling.filter (fun h => h.cls != 2) } }
    { d with cad := { d.cad with work := { d.cad.work with launched := true } } }.deadlineMet 4 0

/-- The DSFs have not all been launched by the launch deadline (R106, R132): none is sent. Mark: DEDUCED, unsafe (log entry 149). -/
def Dev.launchLate (d : Dev) : Dev :=
  let w := d.cad.work
  if !(d.ticking && !w.launched && !w.launchLate && decide (2 ≤ d.redState) && !d.spectator) then d
  else
    let lanes := d.enabledLanes.filter (fun l => d.configured l && d.laneUp l)
    let d := lanes.foldl (fun d l => d.emit (.idle l)) d
    let d := { d with cad := { d.cad with work := { d.cad.work with launchLate := true } } }
    ((d.inc F.CAD_LAUNCH_LATE_COUNT).raise { src := 0x0103, cls := 1 }).missed 4 0

end Sys2Proof.Machine
end

