-- ==== Sys2Proof/Machine/ExecCadence.lean ====
section
/-! DEFINITION. The meanings of the commands of time, probes and alignment, one for each row of the table. -/
namespace Sys2Proof.Machine

/-- TOD_ARM (R81): Host writes ARM in CAD_TOD_ARM to arm a time-of-day load, or the head refuses it and counts
CAD_TOD_REJECT_COUNT. -/
def execTodArm (s : State) : Answer := onHead .todArm (Dev.host 0x020018 1 Dev.todArm) s

/-- PPS_EDGE (R83): A configured STN_PPS edge is timestamped and accepted or rejected by the synchronization state. -/
def execPpsEdge (t : Nat) (s : State) : Answer := onHead (.ppsEdge t) (Dev.ppsEdge t) s

/-- PPS_LOCKED (R85): Four consecutive accepted edges within 100 ns move the state from ACQUIRE to LOCKED. -/
def execPpsLocked (s : State) : Answer := onHead .ppsLocked Dev.ppsLocked s

/-- PPS_LOCK_LOST (R85): Three consecutive accepted edges beyond 1 us move LOCKED to ACQUIRE with an F1 fault. -/
def execPpsLockLost (s : State) : Answer := onHead .ppsLockLost Dev.ppsLockLost s

/-- HOLDOVER (R85): No accepted edge for 2.5 s moves LOCKED or ACQUIRE to HOLDOVER with the rate frozen. -/
def execHoldover (t : Nat) (s : State) : Answer := onHead (.holdover t) (Dev.holdover t) s

/-- HOLDOVER_LIMIT (R85): CAD_HOLDOVER_LIMIT seconds in HOLDOVER move the state to UNQUALIFIED with an F1 fault. -/
def execHoldoverLimit (t : Nat) (s : State) : Answer := onHead (.holdoverLimit t) (Dev.holdoverLimit t) s

/-- FRAME_TICK (R96): A frame tick falls at T0 + k x T: the frame number advances, inputs latch and committed values take
effect. -/
def execFrameTick (codes : List (List Int)) (s : State) : Answer := onHead (.frameTick codes) (Dev.frameTick codes) s

/-- PROBE_INTERVAL (R89): The probe interval count of a lane expires and a TIME_PROBE becomes due. -/
def execProbeInterval (ln : Nat) (s : State) : Answer := onHead (.probeInterval ln) (Dev.probeInterval ln) s

/-- TIME_PROBE (R131): The head sends a due TIME_PROBE on a lane once it fits before the next launch time. -/
def execTimeProbe (ln t : Nat) (s : State) : Answer := onHead (.timeProbe ln t) (Dev.timeProbe ln t) s

/-- TIME_ECHO (R90): The head receives a TIME_ECHO, computes the round trip and updates the mean and the one-way delays. -/
def execTimeEcho (ln t : Nat) (line : Line) (s : State) : Answer :=
  onHead (.timeEcho ln t line) (Dev.timeEcho ln t line) s

/-- PROBE_AVERAGE_RESTART (R90): After 16 consecutive rejected round trips the head discards the mean and restarts
averaging. -/
def execProbeAverageRestart (ln : Nat) (s : State) : Answer :=
  onHead (.probeAverageRestart ln) (Dev.probeRestart ln) s

/-- ALIGN_CELL (R95): A cell residual outside the limit on three consecutive echoes clears ALIGNED and raises an F2
SUSPECT fault. -/
def execAlignCell (l : Nat) (s : State) : Answer := onHead (.alignCell l) (Dev.alignCell l) s

/-- ALIGN_HEAD (R95): A head residual against the lead outside the limit on three consecutive exchanges raises an F1
fault. -/
def execAlignHead (s : State) : Answer := onHead .alignHead Dev.alignHead s

/-- ECHO_LOST (R131): No matching echo within four frames abandons the probe exchange and increments HCL_ECHO_LOST_COUNT. -/
def execEchoLost (ln : Nat) (s : State) : Answer := onHead (.echoLost ln) (Dev.echoLost ln) s

/-- SPAN_TIME_PROBE (R93): A head receives a TIME_PROBE on the first lane of a span bundle, aligns its own time to the
lead and answers with a TIME_ECHO. -/
def execSpanTimeProbe (ln t t3 : Nat) (shift : Int) (t0 : Option (Nat × Nat × Nat)) (line : Line) (s : State) : Answer :=
  onHead (.spanTimeProbe ln t t3 shift t0 line) (Dev.spanTimeProbe ln t t3 shift t0 line) s

/-- TICKS_RESUME (R217): The TB PLL regains lock after a loss and the head's tick engine runs again, taking a pending INIT
at its first tick. -/
def execTicksResume (s : State) : Answer := onHead .ticksResume Dev.ticksResume s

end Sys2Proof.Machine
end

