-- ==== Sys2Proof/Machine/ExecCell.lean ====
section
/-! DEFINITION. The meanings of the commands of the cell node, one for each row of the table. -/
namespace Sys2Proof.Machine

/-- CELL_DSF (R142): A cell receives a DSF on a port and checks it, adopting, obeying or discarding it. -/
def execCellDsf (t p : Nat) (dsf bulk rest : Line) (s : State) : Answer :=
  onNode (.cellDsf t p dsf bulk rest) (Cell.dsf t p (dsf.then (bulk.then rest))) s

/-- CELL_TARGET_TICK (R143): At the target tick of an accepted obeyed DSF the cell applies bypass, release, RUN and
pending edges. -/
def execCellTargetTick (s : State) : Answer := onNode .cellTargetTick Cell.targetTick s

/-- CELL_EDGE (R144): The cell executes edges due at one time, refusing both-on and dead-time violations. -/
def execCellEdge (s : State) : Answer := onNode .cellEdge Cell.edge s

/-- CELL_SHUTTER (R145): A cell accepts a SHUTTER of sufficient claim, turns every switch off and sets its latch. -/
def execCellShutter (t p : Nat) (line : Line) (s : State) : Answer :=
  onNode (.cellShutter t p line) (Cell.shutterSet t p line) s

/-- CELL_PROBE (R140): A cell receives a TIME_PROBE, corrects its time where allowed and answers with TIME_ECHO. -/
def execCellProbe (t t3 p : Nat) (line : Line) (s : State) : Answer :=
  onNodeOut (.cellProbe t t3 p line) (Cell.probe t t3 p line) s

/-- CELL_GAP (R146): Four ticks without an obeyed DSF, or a claim-0 DSF, start the gap in BLOCK or SIMMER. -/
def execCellGap (s : State) : Answer := onNode .cellGap Cell.gap s

/-- CELL_SIMMER_END (R146): The coast limit runs out in SIMMER and the cell blocks. -/
def execCellSimmerEnd (s : State) : Answer := onNode .cellSimmerEnd Cell.simmerEnd s

/-- CELL_FLOOR_CLEAR (R147): After 1 s without an obeyed stream the cell clears its claim floor. -/
def execCellFloorClear (t : Nat) (s : State) : Answer := onNode (.cellFloorClear t) (Cell.floorClear t) s

/-- CELL_USF_SEND (R149): At each tick the cell sends one USF on each trained port with its sample, status and segment. -/
def execCellUsfSend (vcap temp res faults : Nat) (s : State) : Answer :=
  onNodeOut (.cellUsfSend vcap temp res faults) (Cell.usfSend vcap temp res faults) s

/-- CELL_SEGMENT (R175): A cell conversation endpoint handles a received segment and changes state. -/
def execCellSegment (p : Nat) (bytes : List Byte) (s : State) : Answer :=
  onNode (.cellSegment p bytes) (Cell.segment p bytes) s

/-- CELL_RETX_TIMEOUT (R163): A cell segment unacknowledged for SEG_TIMEOUT ticks is resent, or ABORT RETX is sent at the
limit. -/
def execCellRetxTimeout (p : Nat) (s : State) : Answer := onNode (.cellRetxTimeout p) (Cell.retxTimeout p) s

/-- CELL_IDLE_TIMEOUT (R175): 4,096 ticks without a segment of the present CNUM end the endpoint's conversation with ABORT
IDLE. -/
def execCellIdleTimeout (p : Nat) (s : State) : Answer := onNode (.cellIdleTimeout p) (Cell.idleTimeout p) s

/-- CELL_WORK_DONE (R175): The cell finishes the work of a conversation and sends its RESULT. -/
def execCellWorkDone (p status : Nat) (value : List Byte) (stored : Bool) (version : Nat) (s : State) : Answer :=
  onNode (.cellWorkDone p status value stored version) (Cell.workDone p status value stored version) s

/-- CELL_NODE_BOOT (R147): A cell node boots, whether powered up or restarted, with its endpoints IDLE, claim floor
cleared, bypass released and BOOT count advanced. -/
def execCellNodeBoot (setup : Option NodeSetup) (s : State) : Answer :=
  onNode (.cellNodeBoot setup) (Cell.nodeBoot setup) s

end Sys2Proof.Machine
end

