-- ==== Sys2Proof/Machine/ExecCommit.lean ====
section
/-! DEFINITION. The meanings of the commands of commits, mailboxes and data windows, one for each row of the table. -/
namespace Sys2Proof.Machine

/-- COMMIT (R56): Host writes the commit bit of a local commit group; the commit becomes pending for the next cut-off. -/
def execCommit (g : Nat) (s : State) : Answer :=
  onHead (.commit g) (Dev.host (0x010000 + 0x20 * g) 1 (Dev.commit g)) s

/-- COMMIT_CUTOFF (R56): At the commit cut-off 100 ns before a tick, shadows of pending groups are copied to staging sets
and validated. -/
def execCommitCutoff (s : State) : Answer := onHead .commitCutoff (fun d => d.commitCutoff.mbxCutoff) s

/-- COMMIT_OUTCOME (R571): At the tick, a validated set is put in force or rejected, and COMMIT, PENDING, LAST_RESULT,
REASON, RESULT_FRAME and counters update together. -/
def execCommitOutcome (s : State) : Answer := onHead .commitOutcome Dev.commitOutcome s

/-- AV_COMMIT (R65): Host writes an arm view commit bit at the lead; the lead takes it at its cut-off and names target
frame F = n + 3. -/
def execAvCommit (k : Nat) (s : State) : Answer :=
  onHead (.avCommit k) (Dev.host (0x160000 + 0x20 * k) 1 (Dev.avCommit k)) s

/-- STAGE (R65): A head receives an arm view staging set, validates its part and returns a VERDICT to the lead. -/
def execStage (h : SpanHdr) (k target : Nat) (set : SMap Nat) (s : State) : Answer :=
  onHead (.stage h k target set) (Dev.stageTake h k target set) s

/-- VERDICT (R66): The lead receives a head's verdict on an arm view staging set. -/
def execVerdict (h : SpanHdr) (k target reason : Nat) (s : State) : Answer :=
  onHead (.verdict h k target reason) (Dev.verdictTake h k target reason) s

/-- AV_COMMIT_APPLY (R65): At tick F each head puts an applied arm view set in force, or discards it. -/
def execAvCommitApply (s : State) : Answer := onHead .avCommitApply Dev.avApply s

/-- MBX_REQUEST (R69): Host writes a non-zero item code to MBX_REQ, starting a request, replacing any earlier one, or
failing it with BADARG or LATE. -/
def execMbxRequest (m item : Nat) (atFrame : Bool) (s : State) : Answer :=
  onHead (.mbxRequest m item atFrame) (Dev.host (mbxReqAddr m) (item + 256 * bit atFrame) (Dev.mbxRequest m item atFrame)) s

/-- MBX_CAPTURE (R69): A mailbox item is copied in one instant at its tick or when the request is taken; BUSY clears and
VALID rises. -/
def execMbxCapture (m t : Nat) (s : State) : Answer := onHead (.mbxCapture m t) (Dev.mbxCapture m t) s

/-- MBX_DATA_READ (R69): A read of MBX_DATA returns the next word and advances the pointer, clearing VALID at the last
word or returning EMPTY. -/
def execMbxDataRead (m : Nat) (s : State) : Answer := onHead (.mbxDataRead m) (Dev.portRead (mbxDataAddr m)) s

/-- SNAP_PART (R75): The lead receives a head's part of an arm view snapshot and raises VALID when every part has arrived. -/
def execSnapPart (h : SpanHdr) (frame : Nat) (words : List Nat) (s : State) : Answer :=
  onHead (.snapPart h frame words) (Dev.snapPartTake h frame words) s

/-- SNAPSHOT_TIMEOUT (R75): 64 frames after F an arm view snapshot becomes VALID with the silent positions flagged. -/
def execSnapshotTimeout (s : State) : Answer := onHead .snapshotTimeout Dev.snapTimeout s

/-- DW_DATA_WRITE (R77): A write to a write-window port stores the word at DW_PTR and advances it, or counts an overflow
or a write during use. -/
def execDwDataWrite (k w : Nat) (s : State) : Answer :=
  onHead (.dwDataWrite k w) (Dev.host (dwAddr k) 0 (Dev.dwWrite k w)) s

/-- DW_RESULT_READ (R76): A read of the service results window port returns the next result word. -/
def execDwResultRead (k : Nat) (s : State) : Answer := onHead (.dwResultRead k) (Dev.portRead (dwAddr k)) s

end Sys2Proof.Machine
end

