-- ==== Sys2Proof/Machine/ExecEnergize.lean ====
section
/-! DEFINITION. The meanings of the commands of energization, one for each row of the table. -/
namespace Sys2Proof.Machine

/-- START (R508): Host writes START in AV_ENG_CMD and the energization sequence begins at CHECK. -/
def execStart (s : State) : Answer := onHead .start (Dev.host 0x160700 1 (Dev.engCmd 1)) s

/-- CONFIRM (R508): Host writes CONFIRM while WAIT_HOST is set and the waiting step ends. -/
def execConfirm (s : State) : Answer := onHead .confirm (Dev.host 0x160700 2 (Dev.engCmd 2)) s

/-- ABORT (R511): Host writes ABORT in AV_ENG_CMD and the sequence ends with result HOST. -/
def execAbort (s : State) : Answer := onHead .abort (Dev.host 0x160700 4 (Dev.engCmd 4)) s

/-- DISCHARGED (R513): Host writes DISCHARGED and the state becomes DEENERGIZED when allowed. -/
def execDischarged (s : State) : Answer := onHead .discharged (Dev.host 0x160700 8 (Dev.engCmd 8)) s

/-- ENG_STEP_TIMEOUT (R508): An energization step's timeout passes and the sequence ends with TIMEOUT or CELLS. -/
def execEngStepTimeout (s : State) : Answer := onHead .engStepTimeout Dev.engTimeout s

end Sys2Proof.Machine
end

