-- ==== Sys2Proof/Machine/ExecFrame.lean ====
section
/-! DEFINITION. The meanings of the commands of the frame engines, deadlines and the control engine, one for each row of the table. -/
namespace Sys2Proof.Machine

/-- CE_PASS (R194): The control engine evaluates its whole graph once, starting 10 ns after the tick, and delivers its
sinks. -/
def execCePass (corr : Nat) (uncorr : Bool) (s : State) : Answer :=
  onHead (.cePass corr uncorr) (Dev.cePass corr uncorr) s

/-- NONFINITE_LIMIT (R209): One instance meets R208 in CE_NONFINITE_LIMIT consecutive frames and an F3 fault is raised. -/
def execNonfiniteLimit (inst : Nat) (s : State) : Answer := onHead (.nonfiniteLimit inst) (Dev.nonfiniteLimit inst) s

/-- INIT (R217): Host writes INIT in CE_CTRL; the request is taken at the next commit cut-off. -/
def execInit (s : State) : Answer := onHead .init (Dev.host 0x0C000C 1 Dev.ceInitWrite) s

/-- CE_INITIALISE (R216): At the tick after an INIT, configuration or restart, every instance is set to its initial values
and CE_INIT_COUNT increments. -/
def execCeInitialise (s : State) : Answer := onHead .ceInitialise Dev.ceInitialise s

/-- SPAN_OUT (R204): The lead receives a head's SPAN_OUT values for use as SPAN_IN in its next pass. -/
def execSpanOut (h : SpanHdr) (frame : Nat) (vals : List Nat) (s : State) : Answer :=
  onHead (.spanOut h frame vals) (Dev.spanOut h frame vals) s

/-- GATHER_DEADLINE (R106): At the gather deadline cells without a good USF are missing this frame and the sort of the
cells begins. -/
def execGatherDeadline (s : State) : Answer := onHead .gatherDeadline Dev.gatherEnd s

/-- SORT_END (R238): The bitonic sort ends and the head forms its threshold summary and sends it to the lead. -/
def execSortEnd (s : State) : Answer := onHead .sortEnd Dev.sortEnd s

/-- QUOTA_COMPUTE (R235): When its CE pass ends, the lead computes N, trim fraction, direction and quotas per arm and
sends the quota message. -/
def execQuotaCompute (s : State) : Answer := onHead .quotaCompute Dev.quotaCompute s

/-- QUOTA_LATE (R106): The quota message has not arrived at the quota deadline; the head selects under the quotas of the
previous frame. -/
def execQuotaLate (s : State) : Answer := onHead .quotaLate Dev.quotaLate s

/-- CE_OVERRUN (R106): The CE pass has not ended at its deadline; its outputs are discarded and an F3 fault raised. -/
def execCeOverrun (s : State) : Answer := onHead .ceOverrun Dev.ceOverrun s

/-- CELL_SELECTION (R242): With both branches complete, the head ranks its cells and inserts its quota and any trim cell. -/
def execCellSelection (s : State) : Answer := onHead .cellSelection Dev.cellSelection s

/-- DSF_LAUNCH (R121): At the launch time the head builds the DSF of each cell lane with CRC and launches it. -/
def execDsfLaunch (s : State) : Answer := onHead .dsfLaunch Dev.dsfLaunch s

/-- LAUNCH_LATE (R106): DSFs not all launched by the launch deadline: no DSF of the frame is sent and an F1 fault is
raised. -/
def execLaunchLate (s : State) : Answer := onHead .launchLate Dev.launchLate s

/-- MISS_LIMIT (R107): The same deadline is missed in CAD_MISS_LIMIT consecutive frames and fault MISS_LIMIT is raised. -/
def execMissLimit (code pos : Nat) (s : State) : Answer := onHead (.missLimit code pos) (Dev.missLimitRow code pos) s

/-- TB_UNLOCK (R106): The TB PLL loses lock; the head stops generating ticks and raises an F4 fault. -/
def execTbUnlock (s : State) : Answer := onHead .tbUnlock Dev.tbUnlock s

end Sys2Proof.Machine
end

