-- ==== Sys2Proof/Machine/Hrp.lean ====
section
/-! DEFINITION. The host register port (R37 to R49, R569): a request from its header and continuation segments, the status it meets, what
it performs, its response, and an access that waits for another clock domain. -/
namespace Sys2Proof.Machine

/-! ## Commands (R41) -/

def hcRd : Nat := 0x01
def hcWr : Nat := 0x02
def hcRdInc : Nat := 0x11
def hcWrInc : Nat := 0x12
def hcRdPort : Nat := 0x21
def hcWrPort : Nat := 0x22
def hcNop : Nat := 0x30

def HrpReq.known (r : HrpReq) : Bool :=
  r.cmd == hcRd || r.cmd == hcWr || r.cmd == hcRdInc || r.cmd == hcWrInc || r.cmd == hcRdPort || r.cmd == hcWrPort || r.cmd == hcNop
def HrpReq.reads (r : HrpReq) : Bool := r.cmd == hcRd || r.cmd == hcRdInc || r.cmd == hcRdPort
def HrpReq.writes (r : HrpReq) : Bool := r.cmd == hcWr || r.cmd == hcWrInc || r.cmd == hcWrPort
def HrpReq.incs (r : HrpReq) : Bool := r.cmd == hcRdInc || r.cmd == hcWrInc
def HrpReq.ports (r : HrpReq) : Bool := r.cmd == hcRdPort || r.cmd == hcWrPort
/-- A write burst, which continuation segments follow (R40). -/
def HrpReq.bursts (r : HrpReq) : Bool := r.cmd == hcWrInc || r.cmd == hcWrPort

/-- The address of each word. -/
def HrpReq.addrs (r : HrpReq) : List Nat := (List.range (r.len + 1)).map (fun i => if r.incs then r.addr + 4 * i else r.addr)
/-- The address of the last word. -/
def HrpReq.last (r : HrpReq) : Nat := if r.incs then r.addr + 4 * r.len else r.addr

/-! ## Receiving a request (R39 to R41, R44) -/

/-- The header's own CRC holds. -/
def headerGood (hdr : Nat) : Bool := crc8 (be 9 (hdr / 2 ^ 8)) == hdr % 2 ^ 8

/-- The CRC of a continuation segment holds. -/
def segGood (s : Nat) : Bool := crc8 (be 4 (s / 2 ^ 8)) == s % 2 ^ 8

/-- The request that an 80-bit header and the continuation segments after it spell. Mark: DEDUCED, unsafe (log entry 24). -/
def hrpParse (hdr : Nat) (segs : List Nat) : HrpReq :=
  let len := bits hdr 43 40
  let r : HrpReq := { cmd := bits hdr 79 72, addr := bits hdr 71 48, bmask := bits hdr 47 44, len := len, data := [bits hdr 39 8],
                      segsBad := false, lost := false }
  if r.bursts then
    let ss := segs.take len
    { r with data := r.data ++ ss.map (fun s => bits s 39 8), segsBad := ss.any (fun s => !segGood s) }
  else r

/-! ## The status a request meets (R43, R569) -/

/-- Every cause but DOMAIN_OFF, in the order of R569. Mark: DEDUCED, unsafe (log entry 23). -/
def Dev.hrpStatus (d : Dev) (r : HrpReq) : Nat :=
  if !r.known || (r.len != 0 && (r.cmd == hcRd || r.cmd == hcWr || r.cmd == hcNop)) then hsCmd
  else if r.addr % 4 != 0 then hsAlign
  else if busEnd ≤ r.last then hsAddress
  else if r.incs && blockOf r.addr != blockOf r.last then hsBoundary
  else if (r.incs && r.addrs.any (fun a => (portOf a).isSome)) || (r.ports && (portOf r.addr).isNone) then hsWindow
  else if r.segsBad then hsCrc
  else if r.writes && r.addrs.any (fun a => d.accessBad a r.bmask r.bursts) then hsAccess
  else if r.writes && (r.addrs.zip r.data).any (fun x => d.lockHit x.1 x.2 r.bmask) then hsLocked
  else hsOk

/-! ## Performing (R42, R43, R55) -/

/-- The words of a read, one after another; true when a mailbox port was empty. -/
def Dev.hrpReads (d : Dev) (as : List Nat) : (List Nat × Bool) × Dev :=
  as.foldl (fun acc a =>
    let ((ws, e), d) := acc
    let ((v, empty), d) := d.busRead a
    ((ws ++ [v], e || empty), d)) (([], false), d)

/-- The writes of a request, word by word, until one of them resets the head. -/
def Chip.hrpWrites (c : Chip) (r : HrpReq) : Chip :=
  (r.addrs.zip r.data).foldl (fun c x => if c.dev.boot.held then c else c.regWrite x.1 x.2 r.bmask) c

/-- Perform a request that no check rejects: its status, the words read, and the head after it. -/
def Chip.hrpPerform (c : Chip) (r : HrpReq) : (Nat × List Nat) × Chip :=
  if r.reads then
    let ((ws, e), d) := c.dev.hrpReads r.addrs
    ((if e then hsEmpty else hsOk, ws), { c with dev := d })
  else if r.writes then ((hsOk, []), c.hrpWrites r)
  else ((hsOk, []), c)

/-- The words of the response: zeros for a read that was not performed (R43). -/
def respWords (r : HrpReq) (st : Nat) (ws : List Nat) : List Nat :=
  if !r.reads then [] else if st = hsOk ∨ st = hsEmpty then ws else List.replicate (r.len + 1) 0

/-- A request has ended (R42, R45, R49, R50): its status is the last one, a rejection is counted, and the response goes out unless
HRP_CS_N has risen. Mark: DEDUCED, unsafe (log entry 27); DEDUCED, unsafe (log entry 152). -/
def Dev.hrpFinish (r : HrpReq) (st : Nat) (ws : List Nat) (d : Dev) : Dev :=
  if d.boot.held then d
  else
    let h := { d.hrp with reqs := d.hrp.reqs.drop 1, off := false, answered := d.hrp.answered || !r.lost }
    let d := { d with hrp := h }
    let d := d.p F.HRP_LAST_STATUS_STATUS st
    let d := d.when (st != hsOk && st != hsEmpty && st != hsCrc) (fun d => d.inc F.HRP_REJECT_COUNT)
    if r.lost then d.inc F.HRP_LOST_RSP_COUNT
    else
      let out := respWords r st ws
      d.emit (.response st out (crc8 (be 1 st ++ out.flatMap (be 4))))

/-- Is the block of a request served, so that its domain counts as on (R47)? A NOP needs none. -/
def Dev.hrpServed (d : Dev) (r : HrpReq) : Bool := r.cmd == hcNop || d.served (blockOf r.addr)

/-- Begin the request at the front, and those behind it (R38, R47, R48): what is rejected, and what needs no other domain, ends at once;
any other waits, with its domain as it is now. -/
def Chip.hrpRun : Nat → Chip → Chip
  | 0, c => c
  | n + 1, c =>
    match c.dev.hrp.reqs with
    | [] => c
    | r :: _ =>
      let st := c.dev.hrpStatus r
      if st ≠ hsOk then Chip.hrpRun n (c.on (Dev.hrpFinish r st []))
      else if r.cmd = hcNop ∨ (inRb (blockOf r.addr) = true ∧ c.dev.hrpServed r = true) then
        let ((st, ws), c) := c.hrpPerform r
        Chip.hrpRun n (c.on (Dev.hrpFinish r st ws))
      else c.on (fun d => { d with hrp := { d.hrp with off := !d.hrpServed r } })

/-- A transaction's request comes in: the 80 bits of its header and the segments of 40 bits that followed. A header that fails its CRC is
not answered, and HRP_RDY stays low until HRP_CS_N rises (R44, R45, R46); a burst cut short is no request (R49). -/
def Chip.hrpRequest (hdr : Nat) (segs : List Nat) (c : Chip) : Chip :=
  let c := c.on (fun d => { d with hrp := { d.hrp with answered := false, cs := true } })
  if !headerGood hdr then c.on (fun d => (d.inc F.HRP_CRC_ERR_COUNT).p F.HRP_LAST_STATUS_STATUS hsCrc)
  else
    let r := hrpParse hdr segs
    if r.bursts && decide (segs.length < r.len) then c
    else
      let bad := if r.bursts then ((segs.take r.len).filter (fun s => !segGood s)).length else 0
      let busy := !c.dev.hrp.reqs.isEmpty
      let c := c.on (fun d => ({ d with hrp := { d.hrp with reqs := d.hrp.reqs ++ [r] } } : Dev).when (bad != 0)
        (fun d => d.addTo F.HRP_CRC_ERR_COUNT bad))
      if busy then c else c.hrpRun 1

/-- The access in another domain completes (R47, R48). -/
def Chip.hrpComplete (t : Nat) (c : Chip) : Chip :=
  let c := c.on (fun d => d.at t)
  match c.dev.hrp.reqs with
  | [] => c
  | r :: rest =>
    if c.dev.hrp.off || !c.dev.hrpServed r then c
    else
      let ((st, ws), c) := c.hrpPerform r
      (c.on (Dev.hrpFinish r st ws)).hrpRun rest.length

/-- 4 us after its last bit an access whose domain was off, or went off, ends without effect (R47, R48). -/
def Chip.hrpDomainOff (t : Nat) (c : Chip) : Chip :=
  let c := c.on (fun d => d.at t)
  match c.dev.hrp.reqs with
  | [] => c
  | r :: rest =>
    if c.dev.hrp.off || !c.dev.hrpServed r then (c.on (Dev.hrpFinish r hsDomainOff [])).hrpRun rest.length else c

/-- HRP_CS_N rises during a transaction (R49): after a complete request the access completes and its response is lost; before that the
request is discarded. -/
def Dev.hrpAbort (complete : Bool) (d : Dev) : Dev :=
  let d := { d with hrp := { d.hrp with cs := false } }
  if !complete then d.inc F.HRP_ABORT_COUNT
  else if d.hrp.answered then { d with hrp := { d.hrp with answered := false } }.inc F.HRP_LOST_RSP_COUNT
  else
    let n := d.hrp.reqs.length
    { d with hrp := { d.hrp with reqs := (d.hrp.reqs.take (n - 1)) ++ (d.hrp.reqs.drop (n - 1)).map (fun r => { r with lost := true }) } }

/-- A row of the port: a request whose header carries command code `cmd`. -/
def Chip.hrpCommand (cmd : Nat) (rest : Nat) (segs : List Nat) (c : Chip) : Chip :=
  c.hrpRequest (cmd * 2 ^ 72 + rest % 2 ^ 72) segs

/-- The level of ball HRP_RDY after a command (R44, R46, R545): low in reset, and from the fall of HRP_CS_N until the response is ready; it is
high with HRP_CS_N high. -/
def Dev.hrpRdy (d : Dev) : Bool := (!d.hrp.cs || d.hrp.answered) && !d.boot.held

end Sys2Proof.Machine
end

