-- ==== Sys2Proof/Machine/ExecHost.lean ====
section
/-! DEFINITION. The meanings of the commands of the host register port and the plain register write, one for each row of the table. -/
namespace Sys2Proof.Machine

/-- RD (R42): Host port command that reads one word at ADDR and returns status, data and CRC-8. -/
def execRd (rest : Nat) (segs : List Nat) (s : State) : Answer :=
  onChip (.rd rest segs) (Chip.hrpCommand hcRd rest segs) s

/-- WR (R54): Host port command that writes one word at ADDR under BMASK and returns status and CRC-8. -/
def execWr (rest : Nat) (segs : List Nat) (s : State) : Answer :=
  onChip (.wr rest segs) (Chip.hrpCommand hcWr rest segs) s

/-- RD_INC (R55): Host port command that reads LEN+1 consecutive words word by word, with no atomicity. -/
def execRdInc (rest : Nat) (segs : List Nat) (s : State) : Answer :=
  onChip (.rdInc rest segs) (Chip.hrpCommand hcRdInc rest segs) s

/-- WR_INC (R55): Host port command that checks a whole write burst and then writes LEN+1 consecutive words. -/
def execWrInc (rest : Nat) (segs : List Nat) (s : State) : Answer :=
  onChip (.wrInc rest segs) (Chip.hrpCommand hcWrInc rest segs) s

/-- RD_PORT (R54): Host port command that reads LEN+1 words from one data-window port, advancing its pointer. -/
def execRdPort (rest : Nat) (segs : List Nat) (s : State) : Answer :=
  onChip (.rdPort rest segs) (Chip.hrpCommand hcRdPort rest segs) s

/-- WR_PORT (R54): Host port command that writes LEN+1 words to one data-window port, advancing its pointer. -/
def execWrPort (rest : Nat) (segs : List Nat) (s : State) : Answer :=
  onChip (.wrPort rest segs) (Chip.hrpCommand hcWrPort rest segs) s

/-- NOP (R47): Host port command that performs no access and returns status OK. -/
def execNop (hdr : Nat) (segs : List Nat) (s : State) : Answer := onChip (.nop hdr segs) (Chip.hrpRequest hdr segs) s

/-- ACCESS_COMPLETE (R47): An access to a block of a non-RB domain that is on completes and HRP_RDY rises. -/
def execAccessComplete (t : Nat) (s : State) : Answer := onChip (.accessComplete t) (Chip.hrpComplete t) s

/-- DOMAIN_OFF (R48): An access whose domain was off, or went off, ends 4 us after the last request bit with status
DOMAIN_OFF and no effect. -/
def execDomainOff (t : Nat) (s : State) : Answer := onChip (.domainOff t) (Chip.hrpDomainOff t) s

/-- HRP_ABORT (R49): HRP_CS_N rises during a transaction; an incomplete request is discarded and HRP_ABORT_COUNT
increments. -/
def execHrpAbort (complete : Bool) (s : State) : Answer := onHead (.hrpAbort complete) (Dev.hrpAbort complete) s

/-- PLAIN_REGISTER_WRITE (R51): A write to a register with no behaviour of its own, applied by field class (CFG at once,
SHD to shadow, LIVE ignored, CNT set) with any range check. -/
def execPlainRegisterWrite (a w bm : Nat) (s : State) : Answer :=
  onHead (.plainRegisterWrite a w bm) (Dev.plainWrite a w bm) s

end Sys2Proof.Machine
end

