-- ==== Sys2Proof/Machine/ExecLane.lean ====
section
/-! DEFINITION. The meanings of the commands of the lanes, the ring and the uplinks, one for each row of the table. -/
namespace Sys2Proof.Machine

/-- LANE_POWER (R454): Host writes POWER in LANE_CTRL; the lane changes power state or the write is refused and counted. -/
def execLanePower (ln w : Nat) (s : State) : Answer :=
  onHead (.lanePower ln w) (Dev.hostWord (0x040000 + 0x100 * ln) w (Dev.lanePower ln w)) s

/-- PLL_LOCK (R447): A lane's group PLL locks after leaving SHUT and a training attempt starts at DETECT. -/
def execPllLock (ln : Nat) (s : State) : Answer := onHead (.pllLock ln) (Dev.pllLock ln) s

/-- SIGNAL_DETECT (R447): The signal detector sees 80 mV for 1 us and the lane moves from DETECT to ALIGN. -/
def execSignalDetect (ln : Nat) (s : State) : Answer := onHead (.signalDetect ln) (Dev.signalDetect ln) s

/-- ALIGN_LOCK (R447): The CDR and character or block lock complete and the lane moves to CHECK. -/
def execAlignLock (ln : Nat) (s : State) : Answer := onHead (.alignLock ln) (Dev.alignLock ln) s

/-- TRAIN (R447): A TRAIN ordered set is received and the lane advances CHECK, READY or UP, or retrains if it was UP. -/
def execTrain (ln : Nat) (line : Line) (inverted : Bool) (s : State) : Answer :=
  onHead (.train ln line inverted) (Dev.train ln line inverted) s

/-- TRAIN_ATTEMPT_LIMIT (R447): A training attempt reaches 250 us, returns to DETECT and counts LANE_TRAIN_FAIL_COUNT. -/
def execTrainAttemptLimit (ln : Nat) (s : State) : Answer := onHead (.trainAttemptLimit ln) (Dev.attemptLimit ln) s

/-- LANE_DOWN (R451): An UP lane loses signal or code integrity, returns to DETECT and discards its delay measurement. -/
def execLaneDown (ln errors : Nat) (s : State) : Answer := onHead (.laneDown ln errors) (Dev.laneDown ln errors) s

/-- LANE_EQ_WRITE (R445): Host writes LANE_EQ; valid settings take effect within 1 us, invalid ones leave the register
unchanged. -/
def execLaneEqWrite (ln w : Nat) (s : State) : Answer :=
  onHead (.laneEqWrite ln w) (Dev.hostWord (0x040008 + 0x100 * ln) w (Dev.laneEq ln w)) s

/-- MODE_WRITE (R465): Host writes MODE in LANE_TEST; the lane enters or leaves pattern test, or the write is refused and
counted. -/
def execModeWrite (ln mode : Nat) (s : State) : Answer :=
  onHead (.modeWrite ln mode) (Dev.host (0x040010 + 0x100 * ln) 0x18 (Dev.modeWrite ln mode)) s

/-- INJECT_ONE (R466): Host writes INJECT_ONE and one transmitted line bit is inverted. -/
def execInjectOne (ln : Nat) (s : State) : Answer :=
  onHead (.injectOne ln) (Dev.host (0x040010 + 0x100 * ln) (2 ^ 16) (Dev.injectOne ln)) s

/-- INJECT_BURST (R466): Host writes INJECT_BURST and BURST_LEN + 1 consecutive line bits are inverted. -/
def execInjectBurst (ln : Nat) (s : State) : Answer :=
  onHead (.injectBurst ln) (Dev.host (0x040010 + 0x100 * ln) (2 ^ 17) (Dev.injectBurst ln)) s

/-- CHECKER_LOCK (R464): The pattern checker locks after 128 consecutive correct bits. -/
def execCheckerLock (ln : Nat) (inverted : Bool) (s : State) : Answer :=
  onHead (.checkerLock ln inverted) (Dev.checkerLock ln inverted) s

/-- CHECKER_LOSS (R464): 32 wrong bits within 128 lose checker lock, counted in LANE_CHK_LOSS_COUNT. -/
def execCheckerLoss (ln wrong kbits : Nat) (s : State) : Answer :=
  onHead (.checkerLoss ln wrong kbits) (Dev.checkerLoss ln wrong kbits) s

/-- ENUM_SEND (R460): Every 1 ms until H heads are admitted the lead sends ENUM round the ring. -/
def execEnumSend (s : State) : Answer := onHead .enumSend Dev.enumSend s

/-- ENUM (R460): A head receives ENUM, answers with ENUM_REPLY and learns its admission state. -/
def execEnum (h : SpanHdr) (admitted ring : Nat) (full spectator : Bool) (s : State) : Answer :=
  onHead (.enum h admitted ring full spectator) (Dev.enumTake h admitted ring full spectator) s

/-- ENUM_REPLY (R460): The lead receives an ENUM_REPLY and admits or refuses the head under R28. -/
def execEnumReply (h : SpanHdr) (position : Nat) (s : State) : Answer :=
  onHead (.enumReply h position) (Dev.enumReply h position) s

/-- STATION (R461): At every tick whose frame number is a multiple of PERIOD a STATION message is queued on both uplinks. -/
def execStation (s : State) : Answer := onHead .station Dev.station s

/-- UL_SHUTTER (R463): A SHUTTER received on an uplink with SHUTTER_IN set requests the Shutter and raises UL_SHUTTER. -/
def execUlShutter (ln : Nat) (line : Line) (s : State) : Answer :=
  onHead (.ulShutter ln line) (Dev.ulShutter ln line) s

/-- UL_SHUTTER_CLEAR (R463): 1 ms without an uplink SHUTTER ends the cause of UL_SHUTTER. -/
def execUlShutterClear (s : State) : Answer := onHead .ulShutterClear Dev.ulShutterClear s

end Sys2Proof.Machine
end

