-- ==== Sys2Proof/Machine/ExecLead.lean ====
section
/-! DEFINITION. The meanings of the commands of summaries, quotas and suppression, one for each row of the table. -/
namespace Sys2Proof.Machine

/-- SUMMARY (R238): The lead receives a head's summary with counts, entries and HOLD, LATCHED, HOST_HELD and SO0 reports. -/
def execSummary (h : SpanHdr) (r : Report) (s : State) : Answer := onHead (.summary h r) (Dev.summaryTake h r) s

/-- QUOTA (R241): A head receives the quota message with quotas, trim, direction and any APPLY, CANCEL, RELEASE,
RELINQUISH or RESUME. -/
def execQuota (h : SpanHdr) (q : QuotaMsg) (s : State) : Answer := onHead (.quota h q) (Dev.quotaTake h q) s

/-- SUPPRESS_END (R250): The arm current stays at or below AV_DCF_IZERO for AV_DCF_HOLD frames and suppression ends with
staggered turn-off. -/
def execSuppressEnd (arm : Nat) (s : State) : Answer := onHead (.suppressEnd arm) (Dev.suppressEnd arm) s

/-- SUPPRESS_TIMEOUT (R250): AV_DCF_TMAX passes in suppression; suppression ends with staggered turn-off and an F4 fault. -/
def execSuppressTimeout (arm : Nat) (s : State) : Answer := onHead (.suppressTimeout arm) (Dev.suppressTimeout arm) s

end Sys2Proof.Machine
end

