-- ==== Sys2Proof/Machine/ExecLink.lean ====
section
/-! DEFINITION. The meanings of the commands of the cell link and conversations, one for each row of the table. -/
namespace Sys2Proof.Machine

/-- USF (R136): The head receives an upstream frame, checks it in order and takes its values, status and segment. -/
def execUsf (l : Nat) (line : Line) (s : State) : Answer := onHead (.usf l line) (Dev.usf l line) s

/-- SUSPECT_LIMIT (R137): The count of consecutive unusable frames reaches HCL_SUSPECT_LIMIT; the cell is set SUSPECT with
an F2 fault. -/
def execSuspectLimit (l : Nat) (s : State) : Answer := onHead (.suspectLimit l) (Dev.suspectLimit l) s

/-- CELL_LOST (R339): The count of unusable frames reaches HCL_LOST_LIMIT and the cell is bypassed by cell-failure
handling. -/
def execCellLost (l : Nat) (s : State) : Answer := onHead (.cellLost l) (Dev.cellLostAt l) s

/-- SUSPECT_CLEAR (R137): 1,024 consecutive usable frames with ALIGNED high clear a SUSPECT state. -/
def execSuspectClear (l : Nat) (s : State) : Answer := onHead (.suspectClear l) (Dev.suspectClear l) s

/-- GO (R181): Host writes GO in HCL_CONV_GO; the request is checked and a slot is QUEUED or the open refused. -/
def execGo (s : State) : Answer := onHead .go (Dev.host 0x084110 1 Dev.convGo) s

/-- CONV_OPEN (R170): A queued conversation reaches the head of its lane queue, gets a CNUM and its OPEN is sent. -/
def execConvOpen (l : Nat) (s : State) : Answer := onHead (.convOpen l) (Dev.convOpen l) s

/-- CONV_SEG_TIMEOUT (R163): A sequenced segment unacknowledged for HCL_SEG_TIMEOUT frames is resent, or the conversation
ends with RETX at the limit. -/
def execConvSegTimeout (l : Nat) (s : State) : Answer := onHead (.convSegTimeout l) (Dev.segTimeout l) s

/-- CONV_WHOLE_TIMEOUT (R184): The whole timeout of a conversation passes; the head sends ABORT TIMEOUT and ends it. -/
def execConvWholeTimeout (slot : Nat) (s : State) : Answer :=
  onHead (.convWholeTimeout slot) (Dev.wholeTimeout slot) s

/-- CONV_ABORT (R184): Host writes ABORT in HCL_CONV_STATUS; the conversation ends with HOST_ABORT at the next DSF build. -/
def execConvAbort (slot : Nat) (s : State) : Answer :=
  onHead (.convAbort slot) (Dev.host (0x085000 + 4 * slot) (2 ^ 30) (Dev.hostAbort slot)) s

/-- CONV_RELEASE (R184): Host writes RELEASE to free a DONE slot and return its receive space. -/
def execConvRelease (slot : Nat) (s : State) : Answer :=
  onHead (.convRelease slot) (Dev.host (0x085000 + 4 * slot) (2 ^ 31) (Dev.hostRelease slot)) s

/-- REDISCOVER (R185): Host writes REDISCOVER and discovery of the lane's cell starts. -/
def execRediscover (l : Nat) (s : State) : Answer :=
  onHead (.rediscover l) (Dev.host (0x080084 + 0x100 * l) 1 (Dev.rediscover l)) s

/-- DISCOVERY_DEFER (R185): A deferred discovery is retried at a tick when a slot has become free. -/
def execDiscoveryDefer (l : Nat) (s : State) : Answer := onHead (.discoveryDefer l) (Dev.discDefer l) s

/-- DISC_RETRY (R186): HCL_DISC_RETRY frames after a failed discovery, discovery is repeated from step 1. -/
def execDiscRetry (l : Nat) (s : State) : Answer := onHead (.discRetry l) (Dev.discRetry l) s

end Sys2Proof.Machine
end

