-- ==== Sys2Proof/Machine/ExecMeasure.lean ====
section
/-! DEFINITION. The meanings of the commands of measurement, metrology and the recorder, one for each row of the table. -/
namespace Sys2Proof.Machine

/-- TEST_FAIL (R291): A channel fails FS_TEST_FAIL_LIMIT consecutive injections; TEST_FAIL is set and it is reported as a
failed sensor. -/
def execTestFail (k : Nat) (s : State) : Answer := onHead (.testFail k) (Dev.testFail k) s

/-- TEST_FAIL_CLEAR (R291): Four consecutive passes, one at each level, clear a channel's TEST_FAIL bit. -/
def execTestFailClear (k : Nat) (s : State) : Answer := onHead (.testFailClear k) (Dev.testFailClear k) s

/-- MET_GO (R296): Host writes GOc in MET_GO; the converter becomes busy with the METROLOGY members in force latched. -/
def execMetGo (c t : Nat) (s : State) : Answer := onHead (.metGo c t) (Dev.host 0x101024 (2 ^ c) (Dev.metGo c t)) s

/-- MET_INTEGRATION_START (R296): A metrology integration starts at the next reference edge after GO. -/
def execMetIntegrationStart (c : Nat) (s : State) : Answer := onHead (.metIntegrationStart c) (Dev.metStart c) s

/-- MET_CONVERSION_END (R296): An integration ends at its CYCLES-th edge and its result, flags and counters are written. -/
def execMetConversionEnd (c t : Nat) (x : Int) (ovr : Bool) (s : State) : Answer :=
  onHead (.metConversionEnd c t x ovr) (Dev.metEnd c t x ovr) s

/-- LSYNC_EDGE (R294): A rising LSYNC edge is accepted within 45 to 65 Hz or rejected and counted. -/
def execLsyncEdge (t : Nat) (s : State) : Answer := onHead (.lsyncEdge t) (Dev.lsyncEdge t) s

/-- LSYNC_LOSS (R294): No LSYNC edge accepted for 25 ms clears LSYNC_OK. -/
def execLsyncLoss (t : Nat) (s : State) : Answer := onHead (.lsyncLoss t) (Dev.lsyncLoss t) s

/-- NOREF (R299): An LSYNC-paced conversion waits more than 25 ms for a reference and ends with NOREF. -/
def execNoref (c t : Nat) (s : State) : Answer := onHead (.noref c t) (Dev.metNoref c t) s

/-- CAP_ARM (R306): Host writes ARM in CAP_CMD; the recorder empties and enters ARMED. -/
def execCapArm (s : State) : Answer := onHead .capArm (Dev.host 0x102008 1 Dev.capArm) s

/-- CAP_TRIGGER (R306): Host writes TRIGGER in CAP_CMD; an ARMED recorder enters TRIGGERED, otherwise the trigger is
ignored. -/
def execCapTrigger (s : State) : Answer := onHead .capTrigger (Dev.host 0x102008 2 (Dev.capTrigger 0)) s

/-- CAP_DONE (R306): After 4,095 - PRE further samples the recorder enters DONE and ARM clears. -/
def execCapDone (s : State) : Answer := onHead .capDone Dev.capDone s

/-- CAP_LEVEL_TRIGGER (R306): A delivered fast-sense code meets the CAP_LEVEL condition while TRIG_LEVEL is set and
triggers an ARMED recorder. -/
def execCapLevelTrigger (x : ChanCode) (s : State) : Answer :=
  onHead (.capLevelTrigger x) (Dev.capLevel x.k x.code x.t) s

end Sys2Proof.Machine
end

