-- ==== Sys2Proof/Machine/Rondi.lean ====
section
/-! DEFINITION. The Rondi monitor (R533 to R536): its commands, the lifecycle states that accept each, and the lines it answers. -/
namespace Sys2Proof.Machine

/-! ## Text -/

/-- A hexadecimal digit. -/
def hexDigit (n : Nat) : Char := (['0', '1', '2', '3', '4', '5', '6', '7', '8', '9', 'A', 'B', 'C', 'D', 'E', 'F'][n % 16]?).getD '0'

/-- `n` hexadecimal digits of a number. -/
def hexDigits (n v : Nat) : String := String.ofList ((List.range n).map (fun i => hexDigit (v / 16 ^ (n - 1 - i))))

/-- The forms of the manual (R536): a 24-bit address and a 32-bit word, with a bar before the low four digits. -/
def hexAddr (a : Nat) : String := "0x" ++ hexDigits 2 (a / 2 ^ 16) ++ "_" ++ hexDigits 4 a
def hexWord (w : Nat) : String := "0x" ++ hexDigits 4 (w / 2 ^ 16) ++ "_" ++ hexDigits 4 w

/-- The status names of R43. -/
def statusName (st : Nat) : String :=
  match st with
  | 0x00 => "OK" | 0x01 => "CRC" | 0x02 => "CMD" | 0x03 => "ALIGN" | 0x04 => "ADDRESS" | 0x05 => "ACCESS" | 0x06 => "LOCKED"
  | 0x07 => "BOUNDARY" | 0x08 => "WINDOW" | 0x09 => "EMPTY" | _ => "DOMAIN_OFF"

/-- The names of R532 that a submission can answer. -/
def submitName (st : Nat) : String :=
  match st with
  | 0 => "OK" | 1 => "BADCODE" | 2 => "BADARG" | _ => "QFULL"

/-- A line and the prompt behind the last. -/
def Dev.line (d : Dev) (s : String) : Dev := d.emit (.rondi s)
def Dev.prompt (d : Dev) : Dev := d.line "rondi> "

/-! ## Acceptance (R533, R534) -/

/-- The three columns of the table of R534: HELP and INFO; what reads; what writes. -/
def Dev.monAccepts (d : Dev) (kind : Nat) : Bool :=
  let life := d.g F.SEC_LIFECYCLE_STATE
  let full := (d.g F.SEC_LIFECYCLE_UNLOCKED).testBit 0
  if kind = 0 then true
  else if life = 7 then false
  else if kind = 1 then true
  else life != 3 || full

/-- An answer of ERR, counted. -/
def Dev.monErr (d : Dev) (what : String) : Dev := ((d.line ("ERR " ++ what)).prompt).inc F.MON_REFUSE_COUNT

/-- A command that has been performed. -/
def Dev.monDone (d : Dev) : Dev := d.prompt.inc F.MON_CMD_COUNT

/-- Serve a command of a kind: not in HALTED (R533), ERR LIFECYCLE where the state does not accept it. -/
def Dev.mon (d : Dev) (kind : Nat) (f : Dev → Dev) : Dev :=
  if d.halted then d else if d.monAccepts kind then f d else d.monErr "LIFECYCLE"

/-! ## Commands that show -/

/-- HELP. Mark: DESIGN CHOICE, unsafe (log entry 118). -/
def Dev.monHelp (d : Dev) : Dev :=
  d.mon 0 (fun d =>
    (["HELP", "INFO", "RD addr [n]", "STATE", "FAULTS [n]", "LANES", "WR addr value [mask]", "SVC code [args]", "RESET"].foldl
      Dev.line d).monDone)

/-- INFO: UID, lifecycle, boot stage, position, unit, CONFIG_ID. -/
def Dev.monInfo (d : Dev) : Dev :=
  d.mon 0 (fun d =>
    let ws := (List.range 4).map (fun k => d.g (F.SEC_UID_WORD k)) ++
      [d.g F.SEC_LIFECYCLE_STATE, d.g F.GLB_BOOT_STATUS_STAGE, d.pos, d.unit, d.g F.SEC_CONFIG_ID_HI_ID, d.g F.SEC_CONFIG_ID_LO_ID]
    (ws.foldl (fun d w => d.line (hexWord w)) d).monDone)

/-- One register as a line (R536). -/
def regLine (a w st : Nat) : String := hexAddr a ++ " = " ++ hexWord w ++ " " ++ statusName st

/-- The first cause that a read of `n` words meets (R535, R569). -/
def Dev.monReadStatus (d : Dev) (a n : Nat) : Nat :=
  let last := a + 4 * (n - 1)
  if a % 4 ≠ 0 then hsAlign
  else if busEnd ≤ last then hsAddress
  else if blockOf a ≠ blockOf last then hsBoundary
  else if 2 ≤ n ∧ ((List.range n).any (fun i => (portOf (a + 4 * i)).isSome)) = true then hsWindow
  else if !d.served (blockOf a) then hsDomainOff
  else hsOk

/-- RD addr [n]. -/
def Dev.monRd (a n : Nat) (d : Dev) : Dev :=
  d.mon 1 (fun d =>
    if n = 0 ∨ 16 < n then d.monErr "LINE"
    else
      let st := d.monReadStatus a n
      if st ≠ hsOk then d.monErr (statusName st)
      else ((List.range n).foldl (fun d i =>
        let ((v, e), d) := d.busRead (a + 4 * i)
        d.line (regLine (a + 4 * i) v (if e then hsEmpty else hsOk))) d).monDone)

/-- Registers shown one a line, each with its own status: a block that is not served shows DOMAIN_OFF. -/
def Dev.showRegs (d : Dev) (as : List Nat) : Dev :=
  as.foldl (fun d a => if d.served (blockOf a) then d.line (regLine a (d.regRead a) hsOk) else d.line (regLine a 0 hsDomainOff)) d

/-- STATE: RED_STATE, SAF_STATE, CAD_SYNC_STATE, PROT_STATUS, and AV_ENG_STATUS at the lead. -/
def Dev.monState (d : Dev) : Dev :=
  d.mon 1 (fun d => (d.showRegs ([F.RED_STATE_STATE.addr, F.SAF_STATE_STATE.addr, 0x02001C, F.PROT_STATUS_LATCHED0.addr] ++
    (if d.isLead then [0x160704] else []))).monDone)

/-- The `n` newest records of the ring, newest first. -/
def newestRecords (d : Dev) (n : Nat) : List FaultRec :=
  ((sortBy (fun (x y : FaultRec) => later x.seq y.seq) (d.prot.ring.filterMap Prod.snd)).take n)

/-- FAULTS [n]: the eight words of each record on a line. -/
def Dev.monFaults (n : Nat) (d : Dev) : Dev :=
  d.mon 1 (fun d =>
    if n = 0 ∨ 32 < n then d.monErr "LINE"
    else ((newestRecords d n).foldl (fun d r =>
      d.line ((recordWords d r).foldl (fun s w => if s = "" then hexWord w else s ++ " " ++ hexWord w) "")) d).monDone)

/-- LANES: LANE_STATE of every lane. -/
def Dev.monLanes (d : Dev) : Dev :=
  d.mon 1 (fun d => (d.showRegs ((List.range 72).map (fun i => (F.LANE_STATE_LANE_UP i).addr))).monDone)

/-! ## Commands that change something -/

/-- The audit record (R535). -/
def Dev.monAudit (d : Dev) (what : Nat) : Dev := d.raise { src := 0x0B13, cls := 0, detail := what }

/-- The first cause that a write meets: the rules of the host port, and ACCESS for the safety and security blocks. -/
def Dev.monWriteStatus (d : Dev) (a w bm : Nat) : Nat :=
  if a % 4 ≠ 0 then hsAlign
  else if busEnd ≤ a then hsAddress
  else if blockOf a = 0x120000 ∨ blockOf a = 0x140000 ∨ d.accessBad a bm false = true then hsAccess
  else if d.lockHit a w bm then hsLocked
  else if !d.served (blockOf a) then hsDomainOff
  else hsOk

/-- WR addr value [mask]. -/
def Chip.monWr (a w bm : Nat) (c : Chip) : Chip :=
  if c.dev.halted then c
  else if !c.dev.monAccepts 2 then c.on (fun d => d.monErr "LIFECYCLE")
  else
    let st := c.dev.monWriteStatus a w bm
    if st ≠ hsOk then c.on (fun d => d.monErr (statusName st))
    else ((c.on (fun d => (d.monAudit 0).line "OK")).on Dev.monDone).regWrite a w bm

/-- SVC code [args]: a request on queue 14. -/
def Dev.monSvc (code : Nat) (args : List Nat) (d : Dev) : Dev :=
  d.mon 2 (fun d =>
    if !d.served 0x150000 then d.monErr (statusName hsDomainOff)
    else
      let st := d.svcCheck code 14 args.length
      let d := d.svcSubmitArgs code 14 args
      if st = 0 then ((d.monAudit 1).line "OK").monDone else d.monErr (submitName st))

/-- RESET: a SOFT reset without the key. -/
def Dev.monReset (d : Dev) : Dev := d.mon 2 (fun d => ((d.monAudit 2).line "OK").monDone.softReset resetKeyWord)

/-- A line longer than 80 characters (R533). -/
def Dev.errLine (d : Dev) : Dev := if d.halted then d else d.monErr "LINE"

end Sys2Proof.Machine
end

