-- ==== Sys2Proof/Machine/ExecMonitor.lean ====
section
/-! DEFINITION. The meanings of the commands of the Rondi monitor, one for each row of the table. -/
namespace Sys2Proof.Machine

/-- MON_HELP (R534): Rondi command that lists the commands. -/
def execMonHelp (s : State) : Answer := onHead .monHelp Dev.monHelp s

/-- MON_INFO (R534): Rondi command that shows UID, lifecycle, boot stage, position, unit and CONFIG_ID. -/
def execMonInfo (s : State) : Answer := onHead .monInfo Dev.monInfo s

/-- MON_RD (R535): Rondi command that reads 1 to 16 words through the register bus. -/
def execMonRd (a n : Nat) (s : State) : Answer := onHead (.monRd a n) (Dev.monRd a n) s

/-- MON_STATE (R534): Rondi command that shows the redundancy, safety, sync, protection and energization states. -/
def execMonState (s : State) : Answer := onHead .monState Dev.monState s

/-- MON_FAULTS (R534): Rondi command that shows the newest fault records. -/
def execMonFaults (n : Nat) (s : State) : Answer := onHead (.monFaults n) (Dev.monFaults n) s

/-- MON_LANES (R534): Rondi command that shows LANE_STATE of every lane. -/
def execMonLanes (s : State) : Answer := onHead .monLanes Dev.monLanes s

/-- MON_WR (R535): Rondi command that makes one register write under host port rules. -/
def execMonWr (a w bm : Nat) (s : State) : Answer := onChip (.monWr a w bm) (Chip.monWr a w bm) s

/-- MON_SVC (R534): Rondi command that submits a service request on queue 14. -/
def execMonSvc (code : Nat) (args : List Nat) (s : State) : Answer :=
  onHead (.monSvc code args) (Dev.monSvc code args) s

/-- MON_RESET (R534): Rondi command that makes a SOFT reset without the key. -/
def execMonReset (s : State) : Answer := onHead .monReset Dev.monReset s

/-- ERR_LINE (R533): A Rondi input line longer than 80 characters is discarded with ERR LINE. -/
def execErrLine (s : State) : Answer := onHead .errLine Dev.errLine s

end Sys2Proof.Machine
end

