-- ==== Sys2Proof/Machine/ExecProtect.lean ====
section
/-! DEFINITION. The meanings of the commands of protection, faults and temperatures, one for each row of the table. -/
namespace Sys2Proof.Machine

/-- HARD_OC (R315): A hard comparator operates on an input beyond its level; the head requests the Shutter and raises
HARD_OC. -/
def execHardOc (k : Nat) (code : Int) (t : Nat) (s : State) : Answer :=
  onHead (.hardOc k code t) (Dev.hardOc k code t) s

/-- SOFT_OC (R316): FILTER consecutive codes beyond the soft window make a soft detection, acted on or held pending in
blanking. -/
def execSoftOc (k : Nat) (code : Int) (t : Nat) (s : State) : Answer :=
  onHead (.softOc k code t) (Dev.softOc k code t) s

/-- PENDING_EVALUATE (R318): A pending soft detection is confirmed or dropped at the first code outside blanking or 4.0 us
later. -/
def execPendingEvaluate (k : Nat) (code : Int) (t : Nat) (s : State) : Answer :=
  onHead (.pendingEvaluate k code t) (Dev.pendingEvaluate k code t) s

/-- SPAN_SHUTTER (R135): A SHUTTER received on the span is relayed onward and to the head's own cell lanes. -/
def execSpanShutter (x : LaneLine) (s : State) : Answer := onHead (.spanShutter x) (Dev.spanShutter x.ln x.line) s

/-- RELEASE (R325): Host writes RELEASE in AV_PROT_CMD at the lead, permitting a release of the group's latches. -/
def execRelease (s : State) : Answer := onHead .release (Dev.host 0x160608 1 Dev.hostReleaseCmd) s

/-- RELEASE_APPLY (R326): At tick F each head clears its Shutter latches, and initialises its CE when INIT is set. -/
def execReleaseApply (s : State) : Answer := onHead .releaseApply Dev.releaseApply s

/-- HOST_SHUTTER (R327): Host writes SHUTTER in PROT_CMD; the Shutter is requested with host source and fault HOST_SHUTTER
raised. -/
def execHostShutter (s : State) : Answer := onHead .hostShutter (Dev.host 0x103444 1 (Dev.protCmd 1)) s

/-- AV_HOST_SHUTTER (R327): Host writes SHUTTER in AV_PROT_CMD at the lead; the Shutter is requested with host source. -/
def execAvHostShutter (s : State) : Answer := onHead .avHostShutter (Dev.host 0x160608 2 Dev.hostShutter) s

/-- F4_RESET (R328): Host writes F4_RESET in PROT_CMD after the key; the reset is taken at the next cut-off or at once
without ticks. -/
def execF4Reset (s : State) : Answer := onHead .f4Reset (Dev.host 0x103444 2 (Dev.protCmd 2)) s

/-- UNPIN (R347): Host writes UNPIN in PROT_CMD and the fault record in slot INDEX is unpinned. -/
def execUnpin (s : State) : Answer := onHead .unpin (Dev.host 0x103444 4 (Dev.protCmd 4)) s

/-- UNPIN_ALL (R347): Host writes UNPIN_ALL in PROT_CMD and every pinned record is unpinned. -/
def execUnpinAll (s : State) : Answer := onHead .unpinAll (Dev.host 0x103444 8 (Dev.protCmd 8)) s

/-- CLEAR_BYPASS (R341): Host writes CLEAR_BYPASS in PROT_CMD and the bypass bit of the selected lane clears when it
reports no BYPASSED status. -/
def execClearBypass (s : State) : Answer := onHead .clearBypass (Dev.host 0x103444 16 (Dev.protCmd 16)) s

/-- FAULT_ENGINE_TAKE (R344): The fault engine takes an entry from a fault queue, writes its record and merges or pre-
empts handlings. -/
def execFaultEngineTake (s : State) : Answer := onHead .faultEngineTake Dev.faultEngineStep s

/-- SENSOR_SUBST (R334): An ARM channel is declared failed and its values are substituted by the estimate, with F1 DERATE. -/
def execSensorSubst (k : Nat) (s : State) : Answer := onHead (.sensorSubst k) (Dev.sensorSubst k) s

/-- SENSOR_TIMEOUT (R337): A channel substituted for PROT_EST_LIMIT frames raises an F4 fault. -/
def execSensorTimeout (k : Nat) (s : State) : Answer := onHead (.sensorTimeout k) (Dev.sensorTimeout k) s

/-- SENSOR_RESTORE (R338): A substituted channel agrees with the estimate for 1,024 frames with TEST_FAIL clear and is
restored. -/
def execSensorRestore (k : Nat) (s : State) : Answer := onHead (.sensorRestore k) (Dev.sensorRestore k) s

/-- BLOCK_END (R340): 1,024 consecutive usable frames with the cause bit clear end a BLOCK action. -/
def execBlockEnd (l : Nat) (s : State) : Answer := onHead (.blockEnd l) (Dev.blockEnd l) s

/-- DX_NO_RES (R342): RES_CURRENT below PROT_DX_IMIN in PROT_DX_FRAMES qualifying frames bypasses the DX cell. -/
def execDxNoRes (l : Nat) (s : State) : Answer := onHead (.dxNoRes l) (Dev.dxNoResAt l) s

/-- TEMP_CONVERSION (R354): A temperature input is converted in its 62.5 us slot and its reading updated. -/
def execTempConversion (k : Nat) (x : Int) (s : State) : Answer :=
  onHead (.tempConversion k x) (Dev.tempConversion k x) s

/-- SENSOR_BROKEN (R356): A third consecutive bad conversion declares an input broken, reading +200 C with fault
SENSOR_BROKEN. -/
def execSensorBroken (k : Nat) (s : State) : Answer := onHead (.sensorBroken k) (Dev.sensorBroken k) s

/-- BROKEN_CLEAR (R356): 16 consecutive good conversions clear a BROKEN bit. -/
def execBrokenClear (k : Nat) (s : State) : Answer := onHead (.brokenClear k) (Dev.brokenClear k) s

end Sys2Proof.Machine
end

