-- ==== Sys2Proof/Machine/ExecRedund.lean ====
section
/-! DEFINITION. The meanings of the commands of redundancy: roles, checkpoints and wakes, one for each row of the table. -/
namespace Sys2Proof.Machine

/-- ESTABLISH_END (R413): At the end of 1.1 s of ESTABLISH the lead sends the group DORMANT or names the claim tick. -/
def execEstablishEnd (t : Nat) (s : State) : Answer := onHead (.establishEnd t) (Dev.establishEnd t) s

/-- COLD_WAKE (R414): A DORMANT head with no valid checkpoint wakes cold when START_WAIT has passed. -/
def execColdWake (t : Nat) (s : State) : Answer := onHead (.coldWake t) (Dev.coldWake t) s

/-- RELINQUISH (R420): Host command RELINQUISH, with the key, makes an ACTIVE or WAKING head relinquish with cause HOST. -/
def execRelinquish (s : State) : Answer := onHead .relinquish (Dev.host 0x130014 1 (Dev.redCmd 1)) s

/-- HANDOVER (R420): Host command HANDOVER at the lead names F for an out-of-schedule checkpoint before relinquishing. -/
def execHandover (s : State) : Answer := onHead .handover (Dev.host 0x130014 2 (Dev.redCmd 2)) s

/-- STANDBY (R420): Host command STANDBY moves a RELINQUISHED head to DORMANT when allowed. -/
def execStandby (s : State) : Answer := onHead .standby (Dev.host 0x130014 4 (Dev.redCmd 4)) s

/-- TAKE (R420): Host command TAKE moves a RELINQUISHED head to a cold wake when allowed. -/
def execTake (s : State) : Answer := onHead .take (Dev.host 0x130014 8 (Dev.redCmd 8)) s

/-- WAKE (R420): Host command WAKE starts a warm wake of a DORMANT head. -/
def execWake (s : State) : Answer := onHead .wake (Dev.host 0x130014 16 (Dev.redCmd 16)) s

/-- CLAIM_NOT_TAKEN (R417): CLAIM_OK low on every up lane for 64 frames after the claim tick makes the head relinquish. -/
def execClaimNotTaken (s : State) : Answer := onHead .claimNotTaken Dev.claimNotTaken s

/-- LEAD_LOST (R417): A head without a quota message for 16 consecutive frames relinquishes with cause LEAD_LOST. -/
def execLeadLost (s : State) : Answer := onHead .leadLost Dev.leadLost s

/-- LOCKSTEP (R417): The two supervisor cores disagree and the head relinquishes. -/
def execLockstep (s : State) : Answer := onHead .lockstep Dev.lockstep s

/-- NOTICE (R423): A Hatch RELINQUISH notice is received; a DORMANT head wakes warm, others count it as ignored. -/
def execNotice (bytes : List Byte) (s : State) : Answer := onHead (.notice bytes) (Dev.notice bytes) s

/-- HATCH_BLOCK (R422): A Hatch block of a checkpoint or settings message is received and stored. -/
def execHatchBlock (bytes : List Byte) (s : State) : Answer := onHead (.hatchBlock bytes) (Dev.hatchBlock bytes) s

/-- CHECKPOINT_CAPTURE (R424): At each checkpoint tick an ACTIVE head captures its state and starts sending it over Hatch. -/
def execCheckpointCapture (s : State) : Answer := onHead .checkpointCapture Dev.capture s

/-- CHECKPOINT_SENT (R424): The last block of a checkpoint has been sent, completing a HANDOVER relinquishment where one
is pending. -/
def execCheckpointSent (s : State) : Answer := onHead .checkpointSent Dev.checkpointSent s

/-- SETTINGS_SEND (R426): A settings message due after a commit is sent to the partner once the line is free. -/
def execSettingsSend (s : State) : Answer := onHead .settingsSend Dev.settingsSend s

/-- CHECKPOINT_WATCHDOG (R428): No valid checkpoint within 3 x INTERVAL expires the watchdog of a DORMANT head, which
wakes. -/
def execCheckpointWatchdog (t : Nat) (s : State) : Answer := onHead (.checkpointWatchdog t) (Dev.watchdog t) s

/-- WAKE_BEACON (R431): A DORMANT head detects the 1.5625 MHz beacon for 2 us, wakes warm and starts its own beacon. -/
def execWakeBeacon (s : State) : Answer := onHead .wakeBeacon Dev.wakeBeacon s

/-- RESTORE_DONE (R430): The RESTORE phase ends with domains on, PLLs locked and retained configuration checked. -/
def execRestoreDone (t : Nat) (crcOk : Bool) (s : State) : Answer :=
  onHead (.restoreDone t crcOk) (Dev.restoreDone t crcOk) s

/-- OPEN_DONE (R430): The OPEN phase ends with lanes opened and trained. -/
def execOpenDone (t : Nat) (s : State) : Answer := onHead (.openDone t) (Dev.openDone t) s

/-- TIME_DONE (R432): The TIME phase ends with time, frame number and T0 adopted from cells or from the lead. -/
def execTimeDone (t : Nat) (s : State) : Answer := onHead (.timeDone t) (Dev.timeDone t) s

/-- LOAD_DONE (R433): The LOAD phase restores the newest valid checkpoint and settings image and reports LOADED. -/
def execLoadDone (t : Nat) (s : State) : Answer := onHead (.loadDone t) (Dev.loadDone t) s

/-- WAKE_PHASE_TIMEOUT (R430): A wake phase exceeds its bound and the wake ends with cause WAKE_FAIL. -/
def execWakePhaseTimeout (t : Nat) (s : State) : Answer := onHead (.wakePhaseTimeout t) (Dev.phaseTimeout t) s

/-- LOADED (R434): The lead receives a head's LOADED report and names the claim frame when all have reported. -/
def execLoaded (h : SpanHdr) (gen : Nat) (s : State) : Answer := onHead (.loaded h gen) (Dev.loadedTake h gen) s

/-- CLAIM_NAME_TIMEOUT (R434): 8 ms after its wake began the lead names the claim without the heads that have not
reported. -/
def execClaimNameTimeout (t : Nat) (s : State) : Answer := onHead (.claimNameTimeout t) (Dev.claimNameTimeout t) s

/-- CLAIM_TICK (R434): At tick C each head takes the new claim with RUN 0 and records TAKEOVER. -/
def execClaimTick (s : State) : Answer := onHead .claimTick Dev.claimTick s

/-- RESUME (R435): At the named tick the hold after a claim ends and DSFs follow R122 normally. -/
def execResume (s : State) : Answer := onHead .resume Dev.resume s

/-- RESUME_LATE (R435): RESUME not reached within 1,024 frames raises F3 RESUME_LATE. -/
def execResumeLate (s : State) : Answer := onHead .resumeLate Dev.resumeLate s

end Sys2Proof.Machine
end

