-- ==== Sys2Proof/Machine/ExecSafety.lean ====
section
/-! DEFINITION. The meanings of the commands of the safety island, one for each row of the table. -/
namespace Sys2Proof.Machine

/-- SAFETY_CYCLE (R370): The island reads its filtered inputs and monitors every 200 us and decides its state and outputs. -/
def execSafetyCycle (t found ecc : Nat) (s : State) : Answer :=
  onHeadAlways (.safetyCycle t found ecc) (Dev.safetyCycle t found ecc) s

/-- LIMITED_FUNCTION_DEMAND (R387): F consecutive violating windows make an SLV, SLR or SLD demand with its action. -/
def execLimitedFunctionDemand (k : Nat) (s : State) : Answer :=
  onHeadAlways (.limitedFunctionDemand k) (Dev.limitedDemand k) s

/-- INPUT_DEMAND (R377): A safety input stays low for its filter time and a demand is taken. -/
def execInputDemand (k : Nat) (s : State) : Answer := onHeadAlways (.inputDemand k) (Dev.inputDemand k) s

/-- INPUT_CLEAR (R377): A demanding safety input stays high for its filter time and the demand clears. -/
def execInputClear (k : Nat) (s : State) : Answer := onHeadAlways (.inputClear k) (Dev.inputClear k) s

/-- TEST_PULSE (R380): The island checks each test-pulse window of a privileged input for stuck-high or cross-short
faults. -/
def execTestPulse (k low touched : Nat) (s : State) : Answer :=
  onHeadAlways (.testPulse k low touched) (Dev.testPulse k low touched) s

/-- HARDWARE_MONITOR_FAULT (R371): A supply or clock monitor detects a fault and every safety output goes off in hardware. -/
def execHardwareMonitorFault (clock : Bool) (s : State) : Answer :=
  onHeadAlways (.hardwareMonitorFault clock) (Dev.hardwareMonitor clock) s

/-- ISLAND_WATCHDOG (R371): No program-flow signature within 400 us expires the island watchdog and turns every output
off. -/
def execIslandWatchdog (s : State) : Answer := onHeadAlways .islandWatchdog Dev.islandWatchdog s

/-- ACK_STUCK (R372): SAFE_ACK high for more than 10 s is fault ACK_STUCK. -/
def execAckStuck (s : State) : Answer := onHeadAlways .ackStuck Dev.ackStuck s

/-- SAFE_ACK (R398): At the falling edge of a SAFE_ACK pulse the acknowledge is accepted or refused and counted. -/
def execSafeAck (t ms : Nat) (s : State) : Answer := onHeadAlways (.safeAck t ms) (Dev.safeAck t ms) s

/-- SAF_ARM (R400): Host writes SAF_ARM; the arming word raises ARMED for 10 s, any other value clears it. -/
def execSafArm (w : Nat) (s : State) : Answer := onHead (.safArm w) (Dev.hostWord 0x120010 w (Dev.safArm w)) s

/-- ARMED_EXPIRY (R400): ARMED falls 10 s after the arming word. -/
def execArmedExpiry (t : Nat) (s : State) : Answer := onHeadAlways (.armedExpiry t) (Dev.armedExpiry t) s

/-- SELECTION_CONFIRM (R401): Host writes SAF_SELECT_CONFIRM; the new SLV set and SLD direction apply at the next cycle or
are refused. -/
def execSelectionConfirm (w : Nat) (s : State) : Answer :=
  onHead (.selectionConfirm w) (Dev.hostWord 0x12001C w (Dev.selectConfirm w)) s

/-- HOST_BLOCK (R402): Host writes HOST_BLOCK in SAF_CMD, setting stop demand HOST until an acknowledge. -/
def execHostBlock (s : State) : Answer := onHead .hostBlock (Dev.host 0x120014 1 Dev.hostBlock) s

/-- START_WINDOW (R378): The start-up window expires with door inputs not cycled; fault START_WINDOW is raised and the
window restarts. -/
def execStartWindow (s : State) : Answer := onHeadAlways .startWindow Dev.startWindow s

/-- SELFTEST_DONE (R374): The island's start-up tests pass and it enters START, CLOSING or STOPPED. -/
def execSelftestDone (s : State) : Answer := onHeadAlways .selftestDone Dev.selftestDone s

/-- PERMIT_IN_EDGE (R390): PERMIT_IN changes; PERMIT_OUT follows in hardware and SO0 goes off within 20 ns of a fall. -/
def execPermitInEdge (t : Nat) (high : Bool) (s : State) : Answer :=
  onHeadAlways (.permitInEdge t high) (Dev.permitInEdge t high) s

/-- CLOSING_ATTEMPT (R391): The lead in CLOSING drives PERMIT_OUT high for a closing attempt. -/
def execClosingAttempt (t : Nat) (s : State) : Answer := onHeadAlways (.closingAttempt t) (Dev.closingAttempt t) s

/-- CHAIN_CLOSED (R391): PERMIT_IN high for 100 us in an attempt sets CLOSED and the lead enters PERMIT. -/
def execChainClosed (t : Nat) (s : State) : Answer := onHeadAlways (.chainClosed t) (Dev.chainClosed t) s

/-- CLOSING_ATTEMPT_TIMEOUT (R391): An attempt without closure for 10 ms drives PERMIT_OUT low for 1 ms and counts a
retry. -/
def execClosingAttemptTimeout (t : Nat) (s : State) : Answer :=
  onHeadAlways (.closingAttemptTimeout t) (Dev.attemptTimeout t) s

/-- SAFETY (R394): An island receives a span safety message, checks CRC and sequence and updates its view of that
position. -/
def execSafety (t : Nat) (h : SpanHdr) (bytes : List Byte) (s : State) : Answer :=
  onHeadAlways (.safety t h bytes) (Dev.safetyTake t h bytes) s

/-- MSG_LOSS (R394): No safety message from an admitted position for SAF_MSG_TIMEOUT sets MSG_LOSS. -/
def execMsgLoss (t p : Nat) (s : State) : Answer := onHeadAlways (.msgLoss t p) (Dev.msgLoss t p) s

/-- CHAIN (R395): A disagreement between PERMIT_IN and the messages lasting 2 ms is fault CHAIN. -/
def execChain (t : Nat) (s : State) : Answer := onHeadAlways (.chain t) (Dev.chainFault t) s

/-- DARK_PULSE (R376): Every 10 s each switch of an output that is on is turned off for at most 50 us and read back. -/
def execDarkPulse (so : Nat) (good : Bool) (s : State) : Answer :=
  onHeadAlways (.darkPulse so good) (Dev.darkPulse so good) s

end Sys2Proof.Machine
end

