-- ==== Sys2Proof/Machine/ExecSecurity.lean ====
section
/-! DEFINITION. The meanings of the commands of configuration and security, one for each row of the table. -/
namespace Sys2Proof.Machine

/-- LOAD (R487): Host writes LOAD in SEC_CMD and the container in window 0 starts verification. -/
def execLoad (s : State) : Answer := onChip .load (Chip.host 0x140020 1 (Chip.secCmd 1)) s

/-- LOAD_COMPLETE (R487): Verification of a loaded container ends; it is applied with a reset, or rejected with
CONFIG_REJECT. -/
def execLoadComplete (t : Nat) (s : State) : Answer := onChip (.loadComplete t) (Chip.loadDone t) s

/-- PROGRAM_SLOT (R487): Host writes PROGRAM_SLOT; the container is verified and the slot erased, programmed and read
back. -/
def execProgramSlot (s : State) : Answer := onChip .programSlot (Chip.host 0x140020 2 (Chip.secCmd 2)) s

/-- PROGRAM_SLOT_COMPLETE (R487): A slot program ends and its result is written to SEC_RESULT. -/
def execProgramSlotComplete (good : Bool) (s : State) : Answer :=
  onHead (.programSlotComplete good) (Dev.programSlotDone good) s

/-- TOKEN (R492): Host writes TOKEN; the token is verified and UNLOCK, REVOKE or RETIRE performed, and a new challenge
drawn. -/
def execToken (s : State) : Answer := onChip .token (Chip.host 0x140020 4 (Chip.secCmd 4)) s

/-- ATTEST (R493): Host writes ATTEST and the head starts building a signed report over the nonce. -/
def execAttest (s : State) : Answer := onChip .attest (Chip.host 0x140020 8 (Chip.secCmd 8)) s

/-- ATTEST_COMPLETE (R494): The attestation report is complete and SEC_ATTEST_COUNT increments. -/
def execAttestComplete (s : State) : Answer := onChip .attestComplete Chip.attestDone s

/-- ADVANCE_SVN (R484): Host writes ADVANCE_SVN and OTP thermometer bits are set up to the SVNs in force. -/
def execAdvanceSvn (s : State) : Answer := onChip .advanceSvn (Chip.host 0x140020 16 (Chip.secCmd 16)) s

/-- PROVISION (R489): Host writes PROVISION in BLANK and key generation and OTP programming begin. -/
def execProvision (s : State) : Answer := onChip .provision (Chip.host 0x140020 32 (Chip.secCmd 32)) s

/-- PROVISION_COMPLETE (R489): Provisioning ends with keys and owner slots programmed and the PROVISIONED bit set. -/
def execProvisionComplete (s : State) : Answer := onChip .provisionComplete Chip.provisionDone s

/-- DEPLOY (R490): Host writes DEPLOY in PROVISIONED and the DEPLOYED bit is programmed. -/
def execDeploy (s : State) : Answer := onChip .deploy (Chip.host 0x140020 64 (Chip.secCmd 64)) s

/-- LOCK (R492): Host writes LOCK in SEC_CMD and every unlocked feature closes. -/
def execLock (s : State) : Answer := onChip .lock (Chip.host 0x140020 128 (Chip.secCmd 128)) s

/-- UNLOCK_EXPIRY (R492): The DURATION of an unlock passes and the unlocked features close. -/
def execUnlockExpiry (t : Nat) (s : State) : Answer := onHead (.unlockExpiry t) (Dev.unlockExpiry t) s

end Sys2Proof.Machine
end

