-- ==== Sys2Proof/Machine/ExecService.lean ====
section
/-! DEFINITION. The meanings of the commands of supervisor services, one for each row of the table. -/
namespace Sys2Proof.Machine

/-- SUBMIT (R520): Host writes SUBMIT; the request is checked and queued with a ticket or refused. -/
def execSubmit (s : State) : Answer := onHead .submit (Dev.host 0x150004 1 Dev.svcSubmit) s

/-- ENERGY_START (R526): Service that sets ENERGY and starts converters 0 and 1 at the same edge. -/
def execEnergyStart (q t : Nat) (s : State) : Answer := onHead (.energyStart q t) (Dev.energyStart q t) s

/-- ENERGY_STOP (R526): Service that stops the energy converters at the end of the window and clears ENERGY. -/
def execEnergyStop (q : Nat) (s : State) : Answer := onHead (.energyStop q) (Dev.energyStop q) s

/-- MET_CHECK (R527): Service that runs zero and reference conversions on each converter of the mask. -/
def execMetCheck (q : Nat) (zero ref : Int) (s : State) : Answer :=
  onHead (.metCheck q zero ref) (Dev.metCheckStep q zero ref) s

/-- FW_DISTRIBUTE (R528): Service that pushes the staged image to every lane of the mask and optionally reboots them. -/
def execFwDistribute (q : Nat) (s : State) : Answer := onHead (.fwDistribute q) (Dev.fwStep q) s

/-- LOG_FAULTS (R529): Service that copies every unlogged fault record to the flash log. -/
def execLogFaults (q : Nat) (good : Bool) (s : State) : Answer := onHead (.logFaults q good) (Dev.logFaults q good) s

/-- LOG_CHECKPOINT (R529): Service that copies a checkpoint buffer to the flash log as marker and parts. -/
def execLogCheckpoint (q : Nat) (good : Bool) (s : State) : Answer :=
  onHead (.logCheckpoint q good) (Dev.logCheckpoint q good) s

/-- LOG_READ (R529): Service that reads entries of the flash log into the result window. -/
def execLogRead (q : Nat) (s : State) : Answer := onHead (.logRead q) (Dev.logRead q) s

/-- LOG_ERASE (R525): Service that erases every log sector. -/
def execLogErase (q : Nat) (good : Bool) (s : State) : Answer := onHead (.logErase q good) (Dev.logErase q good) s

/-- SERVICE_END (R522): A service request ends and its result joins the done list, holding the queue if the list is full. -/
def execServiceEnd (q : Nat) (s : State) : Answer := onHead (.serviceEnd q) (Dev.serviceEnd q) s

/-- NEXT (R522): Host writes NEXT and the oldest result is loaded into SVC_RESULT and window 3. -/
def execNext (s : State) : Answer := onHead .next (Dev.host 0x15000C 1 Dev.svcNext) s

/-- CANCEL (R523): Host writes CANCEL and the ticketed request ends with CANCELLED at once or at its next boundary. -/
def execCancel (ticket : Nat) (s : State) : Answer :=
  onHead (.cancel ticket) (Dev.host 0x150018 (ticket + 2 ^ 31) (Dev.serviceWrite 0x150018 (ticket + 2 ^ 31))) s

end Sys2Proof.Machine
end

