-- ==== Sys2Proof/Machine/Dispatch.lean ====
section
/-! DEFINITION. One arm for each constructor of `Instr`, in the table's order. -/
namespace Sys2Proof.Machine

def exec (i : Instr) (s : State) : Host.Outcome State Fault Refusal :=
  match i with
  | .rd rest segs => Sys2Proof.Machine.execRd rest segs s
  | .wr rest segs => Sys2Proof.Machine.execWr rest segs s
  | .rdInc rest segs => Sys2Proof.Machine.execRdInc rest segs s
  | .wrInc rest segs => Sys2Proof.Machine.execWrInc rest segs s
  | .rdPort rest segs => Sys2Proof.Machine.execRdPort rest segs s
  | .wrPort rest segs => Sys2Proof.Machine.execWrPort rest segs s
  | .nop hdr segs => Sys2Proof.Machine.execNop hdr segs s
  | .accessComplete t => Sys2Proof.Machine.execAccessComplete t s
  | .domainOff t => Sys2Proof.Machine.execDomainOff t s
  | .hrpAbort complete => Sys2Proof.Machine.execHrpAbort complete s
  | .plainRegisterWrite a w bm => Sys2Proof.Machine.execPlainRegisterWrite a w bm s
  | .commit g => Sys2Proof.Machine.execCommit g s
  | .commitCutoff => Sys2Proof.Machine.execCommitCutoff s
  | .commitOutcome => Sys2Proof.Machine.execCommitOutcome s
  | .avCommit k => Sys2Proof.Machine.execAvCommit k s
  | .stage h k target set => Sys2Proof.Machine.execStage h k target set s
  | .verdict h k target reason => Sys2Proof.Machine.execVerdict h k target reason s
  | .avCommitApply => Sys2Proof.Machine.execAvCommitApply s
  | .mbxRequest m item atFrame => Sys2Proof.Machine.execMbxRequest m item atFrame s
  | .mbxCapture m t => Sys2Proof.Machine.execMbxCapture m t s
  | .mbxDataRead m => Sys2Proof.Machine.execMbxDataRead m s
  | .snapPart h frame words => Sys2Proof.Machine.execSnapPart h frame words s
  | .snapshotTimeout => Sys2Proof.Machine.execSnapshotTimeout s
  | .dwDataWrite k w => Sys2Proof.Machine.execDwDataWrite k w s
  | .dwResultRead k => Sys2Proof.Machine.execDwResultRead k s
  | .todArm => Sys2Proof.Machine.execTodArm s
  | .ppsEdge t => Sys2Proof.Machine.execPpsEdge t s
  | .ppsLocked => Sys2Proof.Machine.execPpsLocked s
  | .ppsLockLost => Sys2Proof.Machine.execPpsLockLost s
  | .holdover t => Sys2Proof.Machine.execHoldover t s
  | .holdoverLimit t => Sys2Proof.Machine.execHoldoverLimit t s
  | .frameTick codes => Sys2Proof.Machine.execFrameTick codes s
  | .probeInterval ln => Sys2Proof.Machine.execProbeInterval ln s
  | .timeProbe ln t => Sys2Proof.Machine.execTimeProbe ln t s
  | .timeEcho ln t line => Sys2Proof.Machine.execTimeEcho ln t line s
  | .probeAverageRestart ln => Sys2Proof.Machine.execProbeAverageRestart ln s
  | .alignCell l => Sys2Proof.Machine.execAlignCell l s
  | .alignHead => Sys2Proof.Machine.execAlignHead s
  | .echoLost ln => Sys2Proof.Machine.execEchoLost ln s
  | .cePass corr uncorr => Sys2Proof.Machine.execCePass corr uncorr s
  | .nonfiniteLimit inst => Sys2Proof.Machine.execNonfiniteLimit inst s
  | .init => Sys2Proof.Machine.execInit s
  | .ceInitialise => Sys2Proof.Machine.execCeInitialise s
  | .spanOut h frame vals => Sys2Proof.Machine.execSpanOut h frame vals s
  | .gatherDeadline => Sys2Proof.Machine.execGatherDeadline s
  | .sortEnd => Sys2Proof.Machine.execSortEnd s
  | .quotaCompute => Sys2Proof.Machine.execQuotaCompute s
  | .quotaLate => Sys2Proof.Machine.execQuotaLate s
  | .ceOverrun => Sys2Proof.Machine.execCeOverrun s
  | .cellSelection => Sys2Proof.Machine.execCellSelection s
  | .dsfLaunch => Sys2Proof.Machine.execDsfLaunch s
  | .launchLate => Sys2Proof.Machine.execLaunchLate s
  | .missLimit code pos => Sys2Proof.Machine.execMissLimit code pos s
  | .tbUnlock => Sys2Proof.Machine.execTbUnlock s
  | .usf l line => Sys2Proof.Machine.execUsf l line s
  | .suspectLimit l => Sys2Proof.Machine.execSuspectLimit l s
  | .cellLost l => Sys2Proof.Machine.execCellLost l s
  | .suspectClear l => Sys2Proof.Machine.execSuspectClear l s
  | .go => Sys2Proof.Machine.execGo s
  | .convOpen l => Sys2Proof.Machine.execConvOpen l s
  | .convSegTimeout l => Sys2Proof.Machine.execConvSegTimeout l s
  | .convWholeTimeout slot => Sys2Proof.Machine.execConvWholeTimeout slot s
  | .convAbort slot => Sys2Proof.Machine.execConvAbort slot s
  | .convRelease slot => Sys2Proof.Machine.execConvRelease slot s
  | .rediscover l => Sys2Proof.Machine.execRediscover l s
  | .discoveryDefer l => Sys2Proof.Machine.execDiscoveryDefer l s
  | .discRetry l => Sys2Proof.Machine.execDiscRetry l s
  | .summary h r => Sys2Proof.Machine.execSummary h r s
  | .quota h q => Sys2Proof.Machine.execQuota h q s
  | .suppressEnd arm => Sys2Proof.Machine.execSuppressEnd arm s
  | .suppressTimeout arm => Sys2Proof.Machine.execSuppressTimeout arm s
  | .testFail k => Sys2Proof.Machine.execTestFail k s
  | .testFailClear k => Sys2Proof.Machine.execTestFailClear k s
  | .metGo c t => Sys2Proof.Machine.execMetGo c t s
  | .metIntegrationStart c => Sys2Proof.Machine.execMetIntegrationStart c s
  | .metConversionEnd c t x ovr => Sys2Proof.Machine.execMetConversionEnd c t x ovr s
  | .lsyncEdge t => Sys2Proof.Machine.execLsyncEdge t s
  | .lsyncLoss t => Sys2Proof.Machine.execLsyncLoss t s
  | .noref c t => Sys2Proof.Machine.execNoref c t s
  | .capArm => Sys2Proof.Machine.execCapArm s
  | .capTrigger => Sys2Proof.Machine.execCapTrigger s
  | .capDone => Sys2Proof.Machine.execCapDone s
  | .hardOc k code t => Sys2Proof.Machine.execHardOc k code t s
  | .softOc k code t => Sys2Proof.Machine.execSoftOc k code t s
  | .pendingEvaluate k code t => Sys2Proof.Machine.execPendingEvaluate k code t s
  | .spanShutter x => Sys2Proof.Machine.execSpanShutter x s
  | .release => Sys2Proof.Machine.execRelease s
  | .releaseApply => Sys2Proof.Machine.execReleaseApply s
  | .hostShutter => Sys2Proof.Machine.execHostShutter s
  | .avHostShutter => Sys2Proof.Machine.execAvHostShutter s
  | .f4Reset => Sys2Proof.Machine.execF4Reset s
  | .unpin => Sys2Proof.Machine.execUnpin s
  | .unpinAll => Sys2Proof.Machine.execUnpinAll s
  | .clearBypass => Sys2Proof.Machine.execClearBypass s
  | .faultEngineTake => Sys2Proof.Machine.execFaultEngineTake s
  | .sensorSubst k => Sys2Proof.Machine.execSensorSubst k s
  | .sensorTimeout k => Sys2Proof.Machine.execSensorTimeout k s
  | .sensorRestore k => Sys2Proof.Machine.execSensorRestore k s
  | .blockEnd l => Sys2Proof.Machine.execBlockEnd l s
  | .dxNoRes l => Sys2Proof.Machine.execDxNoRes l s
  | .tempConversion k x => Sys2Proof.Machine.execTempConversion k x s
  | .sensorBroken k => Sys2Proof.Machine.execSensorBroken k s
  | .brokenClear k => Sys2Proof.Machine.execBrokenClear k s
  | .safetyCycle t found ecc => Sys2Proof.Machine.execSafetyCycle t found ecc s
  | .limitedFunctionDemand k => Sys2Proof.Machine.execLimitedFunctionDemand k s
  | .inputDemand k => Sys2Proof.Machine.execInputDemand k s
  | .inputClear k => Sys2Proof.Machine.execInputClear k s
  | .testPulse k low touched => Sys2Proof.Machine.execTestPulse k low touched s
  | .hardwareMonitorFault clock => Sys2Proof.Machine.execHardwareMonitorFault clock s
  | .islandWatchdog => Sys2Proof.Machine.execIslandWatchdog s
  | .ackStuck => Sys2Proof.Machine.execAckStuck s
  | .safeAck t ms => Sys2Proof.Machine.execSafeAck t ms s
  | .safArm w => Sys2Proof.Machine.execSafArm w s
  | .armedExpiry t => Sys2Proof.Machine.execArmedExpiry t s
  | .selectionConfirm w => Sys2Proof.Machine.execSelectionConfirm w s
  | .hostBlock => Sys2Proof.Machine.execHostBlock s
  | .startWindow => Sys2Proof.Machine.execStartWindow s
  | .selftestDone => Sys2Proof.Machine.execSelftestDone s
  | .permitInEdge t high => Sys2Proof.Machine.execPermitInEdge t high s
  | .closingAttempt t => Sys2Proof.Machine.execClosingAttempt t s
  | .chainClosed t => Sys2Proof.Machine.execChainClosed t s
  | .closingAttemptTimeout t => Sys2Proof.Machine.execClosingAttemptTimeout t s
  | .safety t h bytes => Sys2Proof.Machine.execSafety t h bytes s
  | .msgLoss t p => Sys2Proof.Machine.execMsgLoss t p s
  | .chain t => Sys2Proof.Machine.execChain t s
  | .darkPulse so good => Sys2Proof.Machine.execDarkPulse so good s
  | .establishEnd t => Sys2Proof.Machine.execEstablishEnd t s
  | .coldWake t => Sys2Proof.Machine.execColdWake t s
  | .relinquish => Sys2Proof.Machine.execRelinquish s
  | .handover => Sys2Proof.Machine.execHandover s
  | .standby => Sys2Proof.Machine.execStandby s
  | .take => Sys2Proof.Machine.execTake s
  | .wake => Sys2Proof.Machine.execWake s
  | .claimNotTaken => Sys2Proof.Machine.execClaimNotTaken s
  | .leadLost => Sys2Proof.Machine.execLeadLost s
  | .lockstep => Sys2Proof.Machine.execLockstep s
  | .notice bytes => Sys2Proof.Machine.execNotice bytes s
  | .hatchBlock bytes => Sys2Proof.Machine.execHatchBlock bytes s
  | .checkpointCapture => Sys2Proof.Machine.execCheckpointCapture s
  | .checkpointSent => Sys2Proof.Machine.execCheckpointSent s
  | .settingsSend => Sys2Proof.Machine.execSettingsSend s
  | .checkpointWatchdog t => Sys2Proof.Machine.execCheckpointWatchdog t s
  | .wakeBeacon => Sys2Proof.Machine.execWakeBeacon s
  | .restoreDone t crcOk => Sys2Proof.Machine.execRestoreDone t crcOk s
  | .openDone t => Sys2Proof.Machine.execOpenDone t s
  | .timeDone t => Sys2Proof.Machine.execTimeDone t s
  | .loadDone t => Sys2Proof.Machine.execLoadDone t s
  | .wakePhaseTimeout t => Sys2Proof.Machine.execWakePhaseTimeout t s
  | .loaded h gen => Sys2Proof.Machine.execLoaded h gen s
  | .claimNameTimeout t => Sys2Proof.Machine.execClaimNameTimeout t s
  | .claimTick => Sys2Proof.Machine.execClaimTick s
  | .resume => Sys2Proof.Machine.execResume s
  | .resumeLate => Sys2Proof.Machine.execResumeLate s
  | .lanePower ln w => Sys2Proof.Machine.execLanePower ln w s
  | .pllLock ln => Sys2Proof.Machine.execPllLock ln s
  | .signalDetect ln => Sys2Proof.Machine.execSignalDetect ln s
  | .alignLock ln => Sys2Proof.Machine.execAlignLock ln s
  | .train ln line inverted => Sys2Proof.Machine.execTrain ln line inverted s
  | .trainAttemptLimit ln => Sys2Proof.Machine.execTrainAttemptLimit ln s
  | .laneDown ln errors => Sys2Proof.Machine.execLaneDown ln errors s
  | .laneEqWrite ln w => Sys2Proof.Machine.execLaneEqWrite ln w s
  | .modeWrite ln mode => Sys2Proof.Machine.execModeWrite ln mode s
  | .injectOne ln => Sys2Proof.Machine.execInjectOne ln s
  | .injectBurst ln => Sys2Proof.Machine.execInjectBurst ln s
  | .checkerLock ln inverted => Sys2Proof.Machine.execCheckerLock ln inverted s
  | .checkerLoss ln wrong kbits => Sys2Proof.Machine.execCheckerLoss ln wrong kbits s
  | .enumSend => Sys2Proof.Machine.execEnumSend s
  | .enum h admitted ring full spectator => Sys2Proof.Machine.execEnum h admitted ring full spectator s
  | .enumReply h position => Sys2Proof.Machine.execEnumReply h position s
  | .station => Sys2Proof.Machine.execStation s
  | .ulShutter ln line => Sys2Proof.Machine.execUlShutter ln line s
  | .ulShutterClear => Sys2Proof.Machine.execUlShutterClear s
  | .porAon t => Sys2Proof.Machine.execPorAon t s
  | .porCore t => Sys2Proof.Machine.execPorCore t s
  | .porSafe t => Sys2Proof.Machine.execPorSafe t s
  | .resetN t => Sys2Proof.Machine.execResetN t s
  | .soft => Sys2Proof.Machine.execSoft s
  | .supWdt t => Sys2Proof.Machine.execSupWdt t s
  | .resetRelease t position unit => Sys2Proof.Machine.execResetRelease t position unit s
  | .otpStage corr unc => Sys2Proof.Machine.execOtpStage corr unc s
  | .refStage t locked => Sys2Proof.Machine.execRefStage t locked s
  | .bistStage pass => Sys2Proof.Machine.execBistStage pass s
  | .slotsStage t => Sys2Proof.Machine.execSlotsStage t s
  | .configurationComplete t => Sys2Proof.Machine.execConfigurationComplete t s
  | .load => Sys2Proof.Machine.execLoad s
  | .loadComplete t => Sys2Proof.Machine.execLoadComplete t s
  | .programSlot => Sys2Proof.Machine.execProgramSlot s
  | .programSlotComplete good => Sys2Proof.Machine.execProgramSlotComplete good s
  | .token => Sys2Proof.Machine.execToken s
  | .attest => Sys2Proof.Machine.execAttest s
  | .attestComplete => Sys2Proof.Machine.execAttestComplete s
  | .advanceSvn => Sys2Proof.Machine.execAdvanceSvn s
  | .provision => Sys2Proof.Machine.execProvision s
  | .provisionComplete => Sys2Proof.Machine.execProvisionComplete s
  | .deploy => Sys2Proof.Machine.execDeploy s
  | .lock => Sys2Proof.Machine.execLock s
  | .unlockExpiry t => Sys2Proof.Machine.execUnlockExpiry t s
  | .start => Sys2Proof.Machine.execStart s
  | .confirm => Sys2Proof.Machine.execConfirm s
  | .abort => Sys2Proof.Machine.execAbort s
  | .discharged => Sys2Proof.Machine.execDischarged s
  | .engStepTimeout => Sys2Proof.Machine.execEngStepTimeout s
  | .submit => Sys2Proof.Machine.execSubmit s
  | .energyStart q t => Sys2Proof.Machine.execEnergyStart q t s
  | .energyStop q => Sys2Proof.Machine.execEnergyStop q s
  | .metCheck q zero ref => Sys2Proof.Machine.execMetCheck q zero ref s
  | .fwDistribute q => Sys2Proof.Machine.execFwDistribute q s
  | .logFaults q good => Sys2Proof.Machine.execLogFaults q good s
  | .logCheckpoint q good => Sys2Proof.Machine.execLogCheckpoint q good s
  | .logRead q => Sys2Proof.Machine.execLogRead q s
  | .logErase q good => Sys2Proof.Machine.execLogErase q good s
  | .serviceEnd q => Sys2Proof.Machine.execServiceEnd q s
  | .next => Sys2Proof.Machine.execNext s
  | .cancel ticket => Sys2Proof.Machine.execCancel ticket s
  | .monHelp => Sys2Proof.Machine.execMonHelp s
  | .monInfo => Sys2Proof.Machine.execMonInfo s
  | .monRd a n => Sys2Proof.Machine.execMonRd a n s
  | .monState => Sys2Proof.Machine.execMonState s
  | .monFaults n => Sys2Proof.Machine.execMonFaults n s
  | .monLanes => Sys2Proof.Machine.execMonLanes s
  | .monWr a w bm => Sys2Proof.Machine.execMonWr a w bm s
  | .monSvc code args => Sys2Proof.Machine.execMonSvc code args s
  | .monReset => Sys2Proof.Machine.execMonReset s
  | .errLine => Sys2Proof.Machine.execErrLine s
  | .cellDsf t p dsf bulk rest => Sys2Proof.Machine.execCellDsf t p dsf bulk rest s
  | .cellTargetTick => Sys2Proof.Machine.execCellTargetTick s
  | .cellEdge => Sys2Proof.Machine.execCellEdge s
  | .cellShutter t p line => Sys2Proof.Machine.execCellShutter t p line s
  | .cellProbe t t3 p line => Sys2Proof.Machine.execCellProbe t t3 p line s
  | .cellGap => Sys2Proof.Machine.execCellGap s
  | .cellSimmerEnd => Sys2Proof.Machine.execCellSimmerEnd s
  | .cellFloorClear t => Sys2Proof.Machine.execCellFloorClear t s
  | .cellUsfSend vcap temp res faults => Sys2Proof.Machine.execCellUsfSend vcap temp res faults s
  | .cellSegment p bytes => Sys2Proof.Machine.execCellSegment p bytes s
  | .cellRetxTimeout p => Sys2Proof.Machine.execCellRetxTimeout p s
  | .cellIdleTimeout p => Sys2Proof.Machine.execCellIdleTimeout p s
  | .cellWorkDone p status value stored version => Sys2Proof.Machine.execCellWorkDone p status value stored version s
  | .spanTimeProbe ln t t3 shift t0 line => Sys2Proof.Machine.execSpanTimeProbe ln t t3 shift t0 line s
  | .ticksResume => Sys2Proof.Machine.execTicksResume s
  | .cellNodeBoot setup => Sys2Proof.Machine.execCellNodeBoot setup s
  | .capLevelTrigger x => Sys2Proof.Machine.execCapLevelTrigger x s

end Sys2Proof.Machine
end

