-- ==== Sys2Proof/Safety.lean ====
section
/-! DEFINITION. The terms in which the statements speak: a head out of reset, a state with another head in it, the register fields that
two heads share, a request that the host port performs at once. -/
namespace Sys2Proof.Machine

/-- The head is out of reset, so that its clocks run and its ports answer (R498, R500). -/
def State.up (s : State) : Prop := s.dev.boot.held = false

/-- `s` with another head: the queue, the OTP and the cell node are those of `s`. -/
def State.withDev (s : State) (d : Dev) : State := { s with dev := d }

/-- `s` with another OTP and another head: the queue and the cell node are those of `s`. -/
def State.withHead (s : State) (o : SMap Nat) (d : Dev) : State := { s with otp := o, dev := d }

/-- `s` with another cell node, and nothing sent by the head. -/
def State.withNode (s : State) (n : Cell) : State := { s with node := n, dev := s.dev.fresh }

/-- Every register field but those listed reads in `d'` as in `d`. -/
def Dev.regsBut (d d' : Dev) (fs : List Fld) : Prop := ∀ f : Fld, f.key ∉ fs.map Fld.key → d'.g f = d.g f

/-- `d'` is `d` but for what registers show and what the head sends. -/
def Dev.onlyRegs (d d' : Dev) : Prop := d' = { d with rf := d'.rf, out := d'.out }

/-- The 80 bits of a header of command code `cmd` (R39). -/
def hrpHeader (cmd rest : Nat) : Nat := cmd * 2 ^ 72 + rest

/-- A request that the idle host port performs at once (R39 to R48): its CRC holds, its segments are all there, no check rejects it, and
it needs no block outside domain RB. -/
def State.portTakes (s : State) (hdr : Nat) (segs : List Nat) : Prop :=
  s.up ∧ s.dev.hrp.reqs = [] ∧ headerGood hdr = true ∧
  ((hrpParse hdr segs).bursts = true → (hrpParse hdr segs).len ≤ segs.length) ∧ s.dev.hrpStatus (hrpParse hdr segs) = hsOk ∧
  ((hrpParse hdr segs).cmd = hcNop ∨
    (inRb (blockOf (hrpParse hdr segs).addr) = true ∧ s.dev.served (blockOf (hrpParse hdr segs).addr) = true))

/-- The head with a request at its port. -/
def Dev.taking (d : Dev) (r : HrpReq) : Dev := { d.fresh with hrp := { d.hrp with reqs := [r], answered := false, cs := true } }

/-- A response of the port (R42). -/
def hrpResponse (st : Nat) (ws : List Nat) : Out := .response st ws (crc8 (be 1 st ++ ws.flatMap (be 4)))

/-- The head may take a host's write of `w` to the register at `a` (R35, R47, R54, R477). -/
def Dev.hostTakesWord (d : Dev) (a w : Nat) : Prop :=
  d.served (blockOf a) = true ∧ d.accessBad a 15 false = false ∧ d.lockHit a w 15 = false

/-- A host's write of `w` under byte mask `bm` to a register with no behaviour of its own passes the checks of the bus (R51, R54, R477). -/
def Dev.plainTakes (d : Dev) (a w bm : Nat) : Prop :=
  ownBehaviour a = false ∧ a % 4 = 0 ∧ d.served (blockOf a) = true ∧ d.accessBad a bm false = false ∧ d.lockHit a w bm = false

/-- Bit address of a field that no field of the register at `a` has. -/
def offRegister (a : Nat) (x : Fld) : Prop := ∀ r, regAt a = some r → ∀ f ∈ r.fields, x.key ≠ (Fld.mk a f.lo f.w).key

/-- The fields of a local commit group that show a commit and its outcome (R61). -/
def cmtFields (g : Nat) : List Fld :=
  [F.CMT_COMMIT_COMMIT g, F.CMT_STATUS_PENDING g, F.CMT_STATUS_LAST_RESULT g, F.CMT_STATUS_REASON g, F.CMT_RESULT_FRAME_FRAME g,
   F.CMT_APPLY_COUNT g, F.CMT_REJECT_COUNT g]

/-- The register fields that a fault of some class can change, but for the count of its class. -/
def faultFields : List Fld :=
  [F.PROT_STATUS_LATCHED0, F.PROT_STATUS_LATCHED1, F.PROT_STATUS_REASON, F.PROT_STATUS_ORIGIN, F.PROT_SHUTTER_COUNT,
   F.PROT_STATUS_DCSIDE, F.PROT_STATUS_HOST_HELD, F.PROT_STATUS_HOLD, F.PROT_STATUS_WARN, F.PROT_STATUS_DERATE,
   F.PROT_STATUS_TRIPPED, F.PROT_QUEUE_LOST_COUNT, F.HCL_SHUTTER_COUNT, F.CAP_TRIG_FRAME_FRAME, F.CAP_TRIG_SLOT_SLOT,
   F.CAP_STATE_STATE, F.CAP_STATE_SOURCE, F.CAP_STATE_PRE_VALID, F.CAP_IGNORED_COUNT]

/-- The state that a fault can change: registers, the protection, the capture, what waits for the next wake, what is sent. -/
def Dev.onlyFaults (d d' : Dev) : Prop :=
  d' = { d with rf := d'.rf, prot := d'.prot, cap := d'.cap, bal := { d.bal with suppStop := d'.bal.suppStop },
                red := { d.red with deferred := d'.red.deferred }, out := d'.out }

/-- What raising a fault leaves (R329, R344, R416): outside DORMANT its cause stands, it is counted under its class, F3 and F4 have
latched both arms and are to be held, and F4 trips; in DORMANT it waits for the next wake. -/
def Dev.faulted (d d' : Dev) (src cls detail : Nat) : Prop :=
  (d.redState ≠ 1 → d'.hasCause src detail = true ∧ d'.g (F.PROT_CLASS_COUNT cls) = (d.g (F.PROT_CLASS_COUNT cls) + 1) % 2 ^ 32 ∧
    (3 ≤ cls → d'.latched = true ∧ d'.prot.holdSeen = true) ∧ (cls = 4 → d'.b F.PROT_STATUS_TRIPPED = true)) ∧
  (d.redState = 1 → ∃ r, r.src = src ∧ r.cls = cls ∧ r.detail = detail ∧ d'.red.deferred = d.red.deferred ++ [r])

/-- The register fields that a fault of class `cls` and the command itself (`fs`) can change. -/
def Dev.regsFault (d d' : Dev) (cls : Nat) (fs : List Fld) : Prop := d.regsBut d' (faultFields ++ F.PROT_CLASS_COUNT cls :: fs)

/-- The head has stood down with a cause (R417, R418): DEGRADED, with claim 0. -/
def Dev.stoodDown (d : Dev) (cause : Nat) : Prop :=
  d.redState = 4 ∧ d.g F.RED_STATE_CAUSE = cause ∧ d.g F.RED_CLAIM_CLAIM = 0 ∧ d.claimB = 0

/-- Discovery of the cell on lane `l` starts (R185): an IDENTITY conversation in a free slot, or a deferral where it cannot open. -/
def Dev.discStarts (d d' : Dev) (l : Nat) : Prop :=
  (d.freeSlots ≠ [] → (d.cl l).queue.length < 16 → d.g F.HCL_CONV_SLOTS_POOL_FREE ≠ 0 →
    d'.disc l = 2 ∧ ∃ k, k < 128 ∧ d.slotState k = 0 ∧ d'.slotState k = 1 ∧ d'.slotKind k = 6 ∧ d'.slotLane k = l ∧ (d'.slotOf k).owner = 1 ∧
      ∀ j, j < 128 → j ≠ k → d'.slotState j = d.slotState j ∧ d'.slotOf j = d.slotOf j) ∧
  (d.freeSlots = [] ∨ 16 ≤ (d.cl l).queue.length ∨ d.g F.HCL_CONV_SLOTS_POOL_FREE = 0 →
    d'.disc l = 1 ∧ (d'.cl l).deferred = true ∧ d'.slot = d.slot ∧
    d'.g F.HCL_DISC_DEFER_COUNT = (d.g F.HCL_DISC_DEFER_COUNT + if (d.cl l).deferred then 0 else 1) % 2 ^ 32)

/-- At `t` channel `k` has an aperture whose code is delivered at once and alone (R284, R288, R289): a slot of the window in progress that
no test takes, and that follows none. -/
def Dev.delivers (d : Dev) (k t : Nat) : Prop :=
  ∃ i, d.slotAt t = some i ∧ d.injectedSlot k i = false ∧ (1 ≤ i → d.injectedSlot k (i - 1) = false)

/-- Command `i` of SEC_CMD has ended with a result (R495), and changed no other register but those of `fs`. -/
def Dev.secEnded (d d' : Dev) (i code : Nat) (fs : List Fld) : Prop :=
  d'.sec.running = none ∧ d'.g F.SEC_RESULT_CMD = i ∧ d'.g F.SEC_RESULT_STATUS = code ∧
  d.regsBut d' ([cmdBit i, F.SEC_RESULT_CMD, F.SEC_RESULT_STATUS, F.SEC_RESULT_DETAIL] ++ fs)

/-- Command `i` of SEC_CMD has ended outside the NV window (R364): counted, an event, nothing programmed. -/
def Dev.nvRefused (d d' : Dev) (i code : Nat) : Prop :=
  d.secEnded d' i code (faultFields ++ [F.PROT_CLASS_COUNT 0, F.THM_NV_REFUSE_COUNT]) ∧ d.faulted d' 0x0706 0 0 ∧
  d'.g F.THM_NV_REFUSE_COUNT = (d.g F.THM_NV_REFUSE_COUNT + 1) % 2 ^ 32 ∧ d'.sec.flash = d.sec.flash

/-- A container has been rejected with a status (R487, R497). -/
def Dev.rejected (d d' : Dev) (i code res : Nat) : Prop :=
  d.secEnded d' i code (faultFields ++ [F.PROT_CLASS_COUNT 1, F.SEC_REJECT_COUNT]) ∧ d.faulted d' 0x0B01 1 res ∧
  d'.g F.SEC_REJECT_COUNT = (d.g F.SEC_REJECT_COUNT + 1) % 2 ^ 32 ∧ d'.sec.flash = d.sec.flash

/-- The head acts on a span message of type `ty` (R457, R460): a good CRC, the first copy, and addressed to it. -/
def Dev.actsOn (d : Dev) (ty : Nat) (h : SpanHdr) : Bool :=
  h.good && !(toLead ty && !d.isLead) && !(d.spectator && ty != spEnum) && d.firstCopy ty h

/-- The head after a span message that it acts on has been relayed and noted (R457), before what the message does. -/
def Dev.spanHeard (d : Dev) (ty : Nat) (h : SpanHdr) : Dev :=
  { d.relay ty h with spanSeq := mset d.spanSeq (h.origin * 256 + ty) (some (h.seq, h.part)) }

/-- The lane that a DSF is launched on (R119). -/
def Out.dsfLane (o : Out) : Option Nat := match o with
  | .dsf l _ _ => some l
  | _ => none

/-- Request `r` is at the front of service queue `q`, of service `code`, neither ended nor told to end, and it is its turn where it uses
the boot flash (R521, R523, R524). Mark: DEDUCED, unsafe (log entry 129). -/
def Dev.serves (d : Dev) (code q : Nat) (r : SvcReq) : Prop :=
  (d.svcQueue q).head? = some r ∧ r.code = code ∧ r.ended = none ∧ r.cancel = false ∧ r.standdown = false ∧
  (usesFlash code = true →
    (d.svc.reqs.find? (fun x => usesFlash x.code && x.ended.isNone)).any (fun x => x.ticket == r.ticket) = true ∧ d.sec.running ≠ some 1)

/-- The request at the front of queue `q` has ended with a result and data (R522). -/
def Dev.frontEnds (d : Dev) (q res : Nat) (data : List Nat) : Prop :=
  ∃ r, (d.svcQueue q).head? = some r ∧ r.ended = some res ∧ r.running = false ∧ r.data = data

/-- The request at the front of queue `q` runs, with the data produced so far. -/
def Dev.frontGoesOn (d : Dev) (q : Nat) (data : List Nat) : Prop :=
  ∃ r, (d.svcQueue q).head? = some r ∧ r.ended = none ∧ r.running = true ∧ r.data = data

/-- SO0 is on only in state PERMIT with PERMIT_IN high (R375, R390). -/
def Dev.permitSound (d : Dev) : Prop :=
  (d.g F.SAF_IO_SO).testBit 0 = true → d.saf = stPermit ∧ d.b F.SAF_IO_PERMIT_IN = true

/-- No leg has both its switches on: switches 2k and 2k + 1 are the two of leg k (R120, R144). -/
def legsApart (sw : Nat) : Prop := ∀ k, ¬(sw.testBit (2 * k) = true ∧ sw.testBit (2 * k + 1) = true)

/-- What a cell node keeps: eight switches, no leg short-circuited, now and at the ticks that SIMMER repeats (R144, R146); with the Shutter
latch or the bypass set, nothing on, no edge to come, not running and not simmering (R143, R145). -/
def Cell.sound (c : Cell) : Prop :=
  legsApart c.sw ∧ legsApart c.start ∧ legsApart c.repStart ∧ c.sw < 256 ∧ c.start < 256 ∧ c.repStart < 256 ∧
  (c.shutter = true ∨ c.bypassed = true → c.sw = 0 ∧ c.pend = [] ∧ c.running = false ∧ c.simmer = false)

/-- The lifecycle bits hold one of the four states (R488). -/
def lifeSound (o : SMap Nat) : Prop := lifeBits o = 0 ∨ lifeBits o = 1 ∨ lifeBits o = 3 ∨ lifeBits o = 7

/-- The fields of a segment fit their places (R156). -/
def Seg.fits (s : Seg) : Prop := s.ty < 16 ∧ s.cnum < 256 ∧ s.seq < 2 ^ 16 ∧ s.payload.length = 24

/-- The fields of a DSF fit their places (R119, R120). -/
def Dsf.fits (f : Dsf) : Prop :=
  f.targetFrame < 2 ^ 32 ∧ f.claim < 2 ^ 32 ∧ f.tickTime < 2 ^ 32 ∧ f.cellType < 4 ∧ f.edgeCount = f.edges.length ∧ f.edges.length ≤ 12 ∧
  f.bulkCount < 16 ∧ f.epoch < 2 ^ 16 ∧ f.segment.length = 28 ∧ ∀ e, e ∈ f.edges → e.switch < 8 ∧ e.offset < 2 ^ 28

/-- The fields of a USF fit their places (R126). -/
def Usf.fits (u : Usf) : Prop :=
  u.sampleFrame < 2 ^ 32 ∧ u.frameEcho < 2 ^ 32 ∧ u.claimEcho < 2 ^ 32 ∧ u.status < 2 ^ 16 ∧ u.gateFault < 2 ^ 16 ∧ u.vcap < 2 ^ 32 ∧
  u.temp < 2 ^ 16 ∧ u.resCurrent < 2 ^ 16 ∧ u.segment.length = 28 ∧ u.sampleEpoch < 2 ^ 16

end Sys2Proof.Machine
namespace Sys2Proof
open Sys2Proof.Machine

/-- The commands of the safety family. -/
def Instr.island (i : Instr) : Bool := match i with
  | .safetyCycle _ _ _ | .limitedFunctionDemand _ | .inputDemand _ | .inputClear _ | .testPulse _ _ _ | .hardwareMonitorFault _
  | .islandWatchdog | .ackStuck | .safeAck _ _ | .safArm _ | .armedExpiry _ | .selectionConfirm _ | .hostBlock | .startWindow
  | .selftestDone | .permitInEdge _ _ | .closingAttempt _ | .chainClosed _ | .closingAttemptTimeout _ | .safety _ _ _ | .msgLoss _ _
  | .chain _ | .darkPulse _ _ => true
  | _ => false

/-- The commands of the cell node. -/
def Instr.atCell (i : Instr) : Bool := match i with
  | .cellDsf _ _ _ _ _ | .cellTargetTick | .cellEdge | .cellShutter _ _ _ | .cellProbe _ _ _ _ | .cellGap | .cellSimmerEnd
  | .cellFloorClear _ | .cellUsfSend _ _ _ _ | .cellSegment _ _ | .cellRetxTimeout _ | .cellIdleTimeout _
  | .cellWorkDone _ _ _ _ _ | .cellNodeBoot _ => true
  | _ => false

/-- The commands that reach a head held in reset: the reset sources that need no clock of the head, the release, and the safety island,
which runs on its own supply (R33, R498). -/
def Instr.inReset (i : Instr) : Bool := i.island || (match i with
  | .porAon _ | .porCore _ | .porSafe _ | .resetN _ | .resetRelease _ _ _ => true
  | _ => false)

/-- The commands that can program OTP: those of the security family that do, and the writes of registers, of which SEC_CMD is one, with
the commands of the host port, which performs the requests that wait in turn. -/
def Instr.otpWriter (i : Instr) : Bool := match i with
  | .token | .advanceSvn | .provision | .provisionComplete | .deploy | .monWr _ _ _ | .plainRegisterWrite _ _ _ | .rd _ _ | .wr _ _
  | .rdInc _ _ | .wrInc _ _ | .rdPort _ _ | .wrPort _ _ | .nop _ _ | .accessComplete _ | .domainOff _ => true
  | _ => false

end Sys2Proof
end

