-- ==== Sys2Proof/Certificates/Slice0/Obligations.lean ====
section
/-! DEFINITION. The statements about this model, by family of command. Each docstring names the rules of the spec that it formalises. -/
open Sys2Proof Sys2Proof.Machine

/-- O1 (R42, R43, R50, R55, chapter Register interface and the consistency model). For every head out of reset whose host port is idle, and
every header and segments of command RD, RD_INC or RD_PORT that pass every check: the command answers a next state in which the request is
gone, HRP_LAST_STATUS shows OK (EMPTY where a mailbox port was empty), and the one thing sent is the response with the words that the
reads of the addressed words give, one after another, and the CRC-8 over status and words. Where none of the words is a port, they are the
words of the registers, and nothing but HRP_LAST_STATUS and the port's own state changes. Nothing outside the head changes. -/
def Obligations.HostReadsAnswerStatusAndWords : Prop :=
  (∀ (s : State) (rest : Nat) (segs : List Nat), rest < 2 ^ 72 → below (2 ^ 40) segs = true → s.portTakes (hrpHeader hcRd rest) segs →
    ∃ d, exec (.rd rest segs) s = .next (s.withDev d) ∧
      let r := hrpParse (hrpHeader hcRd rest) segs
      let x := (s.dev.taking r).hrpReads r.addrs
      let st := if x.1.2 then hsEmpty else hsOk
      d.hrp = ⟨[], false, true, true⟩ ∧ d.g F.HRP_LAST_STATUS_STATUS = st ∧ d.out = [hrpResponse st x.1.1] ∧
      ((∀ a ∈ r.addrs, portOf a = none) → st = hsOk ∧ x.1.1 = r.addrs.map s.dev.regRead ∧
        s.dev.regsBut d [F.HRP_LAST_STATUS_STATUS] ∧ d = { s.dev with rf := d.rf, out := d.out, hrp := d.hrp })) ∧
  (∀ (s : State) (rest : Nat) (segs : List Nat), rest < 2 ^ 72 → below (2 ^ 40) segs = true → s.portTakes (hrpHeader hcRdInc rest) segs →
    ∃ d, exec (.rdInc rest segs) s = .next (s.withDev d) ∧
      let r := hrpParse (hrpHeader hcRdInc rest) segs
      let x := (s.dev.taking r).hrpReads r.addrs
      let st := if x.1.2 then hsEmpty else hsOk
      d.hrp = ⟨[], false, true, true⟩ ∧ d.g F.HRP_LAST_STATUS_STATUS = st ∧ d.out = [hrpResponse st x.1.1] ∧
      ((∀ a ∈ r.addrs, portOf a = none) → st = hsOk ∧ x.1.1 = r.addrs.map s.dev.regRead ∧
        s.dev.regsBut d [F.HRP_LAST_STATUS_STATUS] ∧ d = { s.dev with rf := d.rf, out := d.out, hrp := d.hrp })) ∧
  (∀ (s : State) (rest : Nat) (segs : List Nat), rest < 2 ^ 72 → below (2 ^ 40) segs = true → s.portTakes (hrpHeader hcRdPort rest) segs →
    ∃ d, exec (.rdPort rest segs) s = .next (s.withDev d) ∧
      let r := hrpParse (hrpHeader hcRdPort rest) segs
      let x := (s.dev.taking r).hrpReads r.addrs
      let st := if x.1.2 then hsEmpty else hsOk
      d.hrp = ⟨[], false, true, true⟩ ∧ d.g F.HRP_LAST_STATUS_STATUS = st ∧ d.out = [hrpResponse st x.1.1] ∧
      ((∀ a ∈ r.addrs, portOf a = none) → st = hsOk ∧ x.1.1 = r.addrs.map s.dev.regRead ∧
        s.dev.regsBut d [F.HRP_LAST_STATUS_STATUS] ∧ d = { s.dev with rf := d.rf, out := d.out, hrp := d.hrp }))

/-- O2 (R42, R43, R54, R55, chapter Register interface and the consistency model). For every head out of reset whose host port is idle, and
every header and segments of command WR, WR_INC or WR_PORT that pass every check: the command answers a next state in which each word has
been written at its address under BMASK, in order; unless a write resets the head, HRP_LAST_STATUS shows OK, the response (status and
CRC-8, no words) is the last thing sent, and nothing else differs from what the writes leave. -/
def Obligations.HostWritesPerformEveryWord : Prop :=
  (∀ (s : State) (rest : Nat) (segs : List Nat), rest < 2 ^ 72 → below (2 ^ 40) segs = true → s.portTakes (hrpHeader hcWr rest) segs →
    let r := hrpParse (hrpHeader hcWr rest) segs
    let c := Chip.hrpWrites ⟨s.otp, s.dev.taking r⟩ r
    ∃ (d : Dev) (o : SMap Nat), exec (.wr rest segs) s = .next { s with otp := o, dev := d } ∧ o = c.otp ∧
      (c.dev.boot.held = true → d = c.dev) ∧
      (c.dev.boot.held = false → d.g F.HRP_LAST_STATUS_STATUS = hsOk ∧ d.out = c.dev.out ++ [hrpResponse hsOk []] ∧
        c.dev.regsBut d [F.HRP_LAST_STATUS_STATUS] ∧
        d = { c.dev with rf := d.rf, out := d.out, hrp := ⟨c.dev.hrp.reqs.drop 1, false, true, c.dev.hrp.cs⟩ })) ∧
  (∀ (s : State) (rest : Nat) (segs : List Nat), rest < 2 ^ 72 → below (2 ^ 40) segs = true → s.portTakes (hrpHeader hcWrInc rest) segs →
    let r := hrpParse (hrpHeader hcWrInc rest) segs
    let c := Chip.hrpWrites ⟨s.otp, s.dev.taking r⟩ r
    ∃ (d : Dev) (o : SMap Nat), exec (.wrInc rest segs) s = .next { s with otp := o, dev := d } ∧ o = c.otp ∧
      (c.dev.boot.held = true → d = c.dev) ∧
      (c.dev.boot.held = false → d.g F.HRP_LAST_STATUS_STATUS = hsOk ∧ d.out = c.dev.out ++ [hrpResponse hsOk []] ∧
        c.dev.regsBut d [F.HRP_LAST_STATUS_STATUS] ∧
        d = { c.dev with rf := d.rf, out := d.out, hrp := ⟨c.dev.hrp.reqs.drop 1, false, true, c.dev.hrp.cs⟩ })) ∧
  (∀ (s : State) (rest : Nat) (segs : List Nat), rest < 2 ^ 72 → below (2 ^ 40) segs = true → s.portTakes (hrpHeader hcWrPort rest) segs →
    let r := hrpParse (hrpHeader hcWrPort rest) segs
    let c := Chip.hrpWrites ⟨s.otp, s.dev.taking r⟩ r
    ∃ (d : Dev) (o : SMap Nat), exec (.wrPort rest segs) s = .next { s with otp := o, dev := d } ∧ o = c.otp ∧
      (c.dev.boot.held = true → d = c.dev) ∧
      (c.dev.boot.held = false → d.g F.HRP_LAST_STATUS_STATUS = hsOk ∧ d.out = c.dev.out ++ [hrpResponse hsOk []] ∧
        c.dev.regsBut d [F.HRP_LAST_STATUS_STATUS] ∧
        d = { c.dev with rf := d.rf, out := d.out, hrp := ⟨c.dev.hrp.reqs.drop 1, false, true, c.dev.hrp.cs⟩ }))

/-- O3 (R43, R44, R45, R47, R48, R49, R50, chapter Register interface and the consistency model). NOP answers status OK; every register but
HRP_LAST_STATUS, and everything that is no register, keeps its value. ACCESS_COMPLETE performs the request that waits, its block served
ever since, answers, and goes on with the request behind it. DOMAIN_OFF ends the request that waits with its domain off: status
DOMAIN_OFF, HRP_REJECT_COUNT one higher, zeros for the words of a read, no other register changed. HRP_ABORT before the last bit adds one
to HRP_ABORT_COUNT; after it, with the response standing, one to HRP_LOST_RSP_COUNT, and with the request still waiting marks its response
lost. A header that fails its CRC adds one to HRP_CRC_ERR_COUNT, shows status CRC and is not answered, whatever its command code. -/
def Obligations.HostPortCompletesWaitsAndAborts : Prop :=
  (∀ (s : State) (rest : Nat) (segs : List Nat), rest < 2 ^ 72 → below (2 ^ 40) segs = true → s.portTakes (hrpHeader hcNop rest) segs →
    ∃ d, exec (.nop (hrpHeader hcNop rest) segs) s = .next (s.withDev d) ∧ d.g F.HRP_LAST_STATUS_STATUS = hsOk ∧
      d.out = [hrpResponse hsOk []] ∧ s.dev.regsBut d [F.HRP_LAST_STATUS_STATUS] ∧
      d = { s.dev with rf := d.rf, out := d.out, hrp := ⟨[], false, true, true⟩ }) ∧
  (∀ (s : State) (t : Nat) (r : HrpReq) (rs : List HrpReq), s.up → s.dev.hrp.reqs = r :: rs → s.dev.hrp.off = false →
    s.dev.hrpServed r = true →
    let x := Chip.hrpPerform ⟨s.otp, s.dev.fresh.at t⟩ r
    let c : Chip := ⟨x.2.otp, x.2.dev.hrpFinish r x.1.1 x.1.2⟩
    ∃ (d : Dev) (o : SMap Nat), exec (.accessComplete t) s = .next { s with otp := o, dev := d } ∧ ⟨o, d⟩ = c.hrpRun rs.length ∧
      (rs = [] → o = x.2.otp ∧ (x.2.dev.boot.held = false → d.g F.HRP_LAST_STATUS_STATUS = x.1.1 % 256 ∧
        (r.lost = false → d.out = x.2.dev.out ++ [hrpResponse x.1.1 (respWords r x.1.1 x.1.2)])))) ∧
  (∀ (s : State) (t : Nat) (r : HrpReq) (rs : List HrpReq), s.up → s.dev.hrp.reqs = r :: rs →
    (s.dev.hrp.off = true ∨ s.dev.hrpServed r = false) →
    ∃ (d : Dev) (o : SMap Nat), exec (.domainOff t) s = .next { s with otp := o, dev := d } ∧
      ⟨o, d⟩ = Chip.hrpRun rs.length ⟨s.otp, (s.dev.fresh.at t).hrpFinish r hsDomainOff []⟩ ∧
      (rs = [] → r.lost = false → o = s.otp ∧ d.hrp.reqs = [] ∧ d.g F.HRP_LAST_STATUS_STATUS = hsDomainOff ∧
        d.g F.HRP_REJECT_COUNT = (s.dev.g F.HRP_REJECT_COUNT + 1) % 2 ^ 32 ∧
        d.out = [hrpResponse hsDomainOff (if r.reads then List.replicate (r.len + 1) 0 else [])] ∧
        s.dev.regsBut d [F.HRP_LAST_STATUS_STATUS, F.HRP_REJECT_COUNT] ∧
        d = { s.dev.fresh.at t with rf := d.rf, out := d.out, hrp := d.hrp })) ∧
  (∀ s : State, s.up →
    ∃ d, exec (.hrpAbort false) s = .next (s.withDev d) ∧ d.g F.HRP_ABORT_COUNT = (s.dev.g F.HRP_ABORT_COUNT + 1) % 2 ^ 32 ∧
      s.dev.regsBut d [F.HRP_ABORT_COUNT] ∧ d = { s.dev.fresh with rf := d.rf, hrp := { s.dev.hrp with cs := false } }) ∧
  (∀ s : State, s.up → s.dev.hrp.answered = true →
    ∃ d, exec (.hrpAbort true) s = .next (s.withDev d) ∧ d.g F.HRP_LOST_RSP_COUNT = (s.dev.g F.HRP_LOST_RSP_COUNT + 1) % 2 ^ 32 ∧
      s.dev.regsBut d [F.HRP_LOST_RSP_COUNT] ∧
      d = { s.dev.fresh with rf := d.rf, hrp := { s.dev.hrp with answered := false, cs := false } }) ∧
  (∀ (s : State) (rs : List HrpReq) (r : HrpReq), s.up → s.dev.hrp.answered = false → s.dev.hrp.reqs = rs ++ [r] →
    ∃ d, exec (.hrpAbort true) s = .next (s.withDev d) ∧
      d = { s.dev.fresh with hrp := { s.dev.hrp with reqs := rs ++ [{ r with lost := true }], cs := false } }) ∧
  (∀ (s : State) (i : Instr) (hdr rest : Nat) (segs : List Nat), s.up → hdr < 2 ^ 80 → rest < 2 ^ 72 → below (2 ^ 40) segs = true →
    (i = .nop hdr segs ∨ i = .rd rest segs ∧ hdr = hrpHeader hcRd rest ∨ i = .wr rest segs ∧ hdr = hrpHeader hcWr rest ∨
      i = .rdInc rest segs ∧ hdr = hrpHeader hcRdInc rest ∨ i = .wrInc rest segs ∧ hdr = hrpHeader hcWrInc rest ∨
      i = .rdPort rest segs ∧ hdr = hrpHeader hcRdPort rest ∨ i = .wrPort rest segs ∧ hdr = hrpHeader hcWrPort rest) →
    headerGood hdr = false →
    ∃ d, exec i s = .next (s.withDev d) ∧ d.g F.HRP_CRC_ERR_COUNT = (s.dev.g F.HRP_CRC_ERR_COUNT + 1) % 2 ^ 32 ∧
      d.g F.HRP_LAST_STATUS_STATUS = hsCrc ∧ s.dev.regsBut d [F.HRP_CRC_ERR_COUNT, F.HRP_LAST_STATUS_STATUS] ∧
      d = { s.dev.fresh with rf := d.rf, hrp := { s.dev.hrp with answered := false, cs := true } })

/-- O4 (R51, R54, R210, R477, chapter Register interface and the consistency model). For every head out of reset and every register word of
the map that has no behaviour of its own, in a served block, with nothing locked: PLAIN_REGISTER_WRITE answers a next state. Where the
range check passes, each CFG and CNT field of the register holds its bits of the merged word and each SHD field's shadow does; the value
in force of an SHD field and a LIVE field keep theirs; every other field of the map keeps its value and its shadow, and nothing but
registers and shadows changes. Where the register is a selection window, the shadow of the selected parameter takes the merged word and
nothing else changes. Where the range check fails, or one of the bus's checks, nothing changes at all. -/
def Obligations.PlainWriteFollowsTheFieldClasses : Prop :=
  (∀ (s : State) (a w bm : Nat), s.up → a < busEnd → w < 2 ^ 32 → bm < 16 → s.dev.plainTakes a w bm →
    let m := mergeWord (s.dev.regStored a) w bm
    (s.dev.rangeOk a m = true → s.dev.windowed a = none →
      ∃ d, exec (.plainRegisterWrite a w bm) s = .next (s.withDev d) ∧ d = { s.dev.fresh with rf := d.rf, shadow := d.shadow } ∧
        (∀ r, regAt a = some r → ∀ f ∈ r.fields,
          let x : Fld := ⟨a, f.lo, f.w⟩
          let v := m / 2 ^ f.lo % 2 ^ f.w
          match f.cls with
          | .cfg => d.g x = v ∧ d.sh x = s.dev.sh x
          | .cnt => d.g x = v ∧ d.sh x = s.dev.sh x
          | .shd => d.sh x = v ∧ d.g x = s.dev.g x
          | _ => d.g x = s.dev.g x ∧ d.sh x = s.dev.sh x) ∧
        ∀ x, offRegister a x → d.g x = s.dev.g x ∧ d.sh x = s.dev.sh x) ∧
    (∀ f, s.dev.rangeOk a m = true → s.dev.windowed a = some (some f) →
      ∃ d, exec (.plainRegisterWrite a w bm) s = .next (s.withDev d) ∧ d.sh f = m % 2 ^ f.w ∧
        d = { s.dev.fresh with shadow := d.shadow } ∧ ∀ x : Fld, x.key ≠ f.key → d.sh x = s.dev.sh x) ∧
    (s.dev.rangeOk a m = false ∨ s.dev.windowed a = some none → exec (.plainRegisterWrite a w bm) s = .next (s.withDev s.dev.fresh))) ∧
  (∀ (s : State) (a w bm : Nat), s.up → a < busEnd → w < 2 ^ 32 → bm < 16 → ¬ s.dev.plainTakes a w bm →
    exec (.plainRegisterWrite a w bm) s = .next (s.withDev s.dev.fresh))

/-- O5 (R56, R59, R65, chapter Register interface and the consistency model). For every head out of reset and every local group g whose commit
bit the host may write: COMMIT answers the state in which CMT_COMMIT and the PENDING bit of group g are 1, every other register field and
everything that is no register is unchanged. AV_COMMIT does the same at the lead for arm view group k. -/
def Obligations.CommitIsPendingUntilTheCutOff : Prop :=
  (∀ (s : State) (g : Nat), s.up → g < 13 → s.dev.hostMay (0x010000 + 0x20 * g) 1 = true →
    ∃ d, exec (.commit g) s = .next (s.withDev d) ∧ d.b (F.CMT_COMMIT_COMMIT g) = true ∧ d.b (F.CMT_STATUS_PENDING g) = true ∧
      s.dev.regsBut d [F.CMT_COMMIT_COMMIT g, F.CMT_STATUS_PENDING g] ∧ s.dev.fresh.onlyRegs d) ∧
  (∀ (s : State) (k : Nat), s.up → k < 5 → s.dev.hostMay (0x160000 + 0x20 * k) 1 = true →
    ∃ d, exec (.avCommit k) s = .next (s.withDev d) ∧ d.b (F.AV_CMT_COMMIT_COMMIT k) = true ∧ d.b (F.AV_CMT_STATUS_PENDING k) = true ∧
      s.dev.regsBut d [F.AV_CMT_COMMIT_COMMIT k, F.AV_CMT_STATUS_PENDING k] ∧ s.dev.fresh.onlyRegs d)

/-- O6 (R56, R65, chapter Register interface and the consistency model). For every head out of reset whose ticks run: the cut-off of frame n
answers a next state in which every local group that was PENDING is taken, and in which, at the lead, every arm view group that was
PENDING with none under way is taken with target frame n + 3 and the shadows of its members as its staging set. -/
def Obligations.CutOffTakesEveryPendingGroup : Prop :=
  ∀ s : State, s.up → s.dev.ticking = true →
    ∃ d, exec .commitCutoff s = .next (s.withDev d) ∧
      (∀ g, g < 13 → s.dev.b (F.CMT_STATUS_PENDING g) = true → mget d.cmt.taken g = true) ∧
      (s.dev.isLead = true → ∀ k, k < 5 → s.dev.b (F.AV_CMT_STATUS_PENDING k) = true → mget s.dev.cmt.av (13 + k) = none →
        ∃ c, mget d.cmt.av (13 + k) = some c ∧ c.frame = s.dev.cad.frame ∧ c.target = frameAdd s.dev.cad.frame 3 ∧
          c.set = copyFields (s.dev.members (13 + k)) s.dev.shadow [] ∧ c.sent = false ∧ c.decided = none)

/-- O7 (R57, R61, R571, chapter Register interface and the consistency model). For every head out of reset, with any of the local groups taken
at the cut-off: each group whose validation failed shows REJECTED, the reason of its validation, the frame, COMMIT and PENDING 0 and
REJECT_COUNT one higher; each other taken group shows APPLIED, the frame, COMMIT and PENDING 0 and APPLY_COUNT one higher; the status
registers of the groups not taken stay. Where every taken group was rejected, no other register and nothing else changes. Where one group
was taken and accepted, its staged members are put in force with what the group brings with it, and the settings message is due; for
BAL_LOCAL, FORCE, PROT and LOUVRE each member then reads its staged value and every register but the members, the outcome and SETTINGS_SEQ
keeps its value. -/
def Obligations.CommitOutcomeAppliesOrRejects : Prop :=
  (∀ s : State, s.up →
    ∃ d, exec .commitOutcome s = .next (s.withDev d) ∧ (∀ g, g < 13 → mget d.cmt.taken g = false) ∧
      (∀ g, g < 13 → mget s.dev.cmt.taken g = true →
        d.g (F.CMT_RESULT_FRAME_FRAME g) = s.dev.cad.frame % 2 ^ 32 ∧ d.b (F.CMT_COMMIT_COMMIT g) = false ∧
        d.b (F.CMT_STATUS_PENDING g) = false ∧
        (mget s.dev.cmt.verdict g ≠ 0 → d.g (F.CMT_STATUS_LAST_RESULT g) = 2 ∧
          d.g (F.CMT_STATUS_REASON g) = mget s.dev.cmt.verdict g % 256 ∧
          d.g (F.CMT_REJECT_COUNT g) = (s.dev.g (F.CMT_REJECT_COUNT g) + 1) % 2 ^ 32 ∧
          d.g (F.CMT_APPLY_COUNT g) = s.dev.g (F.CMT_APPLY_COUNT g)) ∧
        (mget s.dev.cmt.verdict g = 0 → d.g (F.CMT_STATUS_LAST_RESULT g) = 1 ∧
          d.g (F.CMT_STATUS_REASON g) = s.dev.g (F.CMT_STATUS_REASON g) ∧
          d.g (F.CMT_APPLY_COUNT g) = (s.dev.g (F.CMT_APPLY_COUNT g) + 1) % 2 ^ 32 ∧
          d.g (F.CMT_REJECT_COUNT g) = s.dev.g (F.CMT_REJECT_COUNT g))) ∧
      (∀ g, g < 13 → mget s.dev.cmt.taken g = false → ∀ f ∈ cmtFields g, d.g f = s.dev.g f) ∧
      ((∀ g, g < 13 → mget s.dev.cmt.taken g = true → mget s.dev.cmt.verdict g ≠ 0) →
        s.dev.regsBut d ((List.range 13).flatMap cmtFields) ∧
        d = { s.dev.fresh with rf := d.rf, cmt := { s.dev.cmt with taken := [] } })) ∧
  (∀ (s : State) (g : Nat), s.up → g < 13 → (∀ j, j < 13 → mget s.dev.cmt.taken j = decide (j = g)) → mget s.dev.cmt.verdict g = 0 →
    ∃ d, exec .commitOutcome s = .next (s.withDev d) ∧
      (let d1 : Dev := { s.dev.fresh with cmt := { s.dev.cmt with taken := [] } }
       d = ((d1.putInForce g s.dev.cmt.staging).showOutcome g 1).settingsDue g) ∧
      (g = 2 ∨ g = 5 ∨ g = 7 ∨ g = 10 →
        (∀ f ∈ s.dev.members g, d.g f = mget s.dev.cmt.staging f.key % 2 ^ f.w) ∧
        s.dev.regsBut d (s.dev.members g ++ cmtFields g ++ [F.RED_SETTINGS_SEQ_SEQ])))

/-- O8 (R65, R66, R67, R571, chapter Register interface and the consistency model). STAGE at a head other than the lead that acts on it: the
set is staged for its target, the head sends its verdict, the outcome of its own validation, and nothing but the span's own state changes
besides. VERDICT at the lead that acts on it: the reason is noted under its origin for the undecided commit of that target; without such a
commit, no commit changes. AV_COMMIT_APPLY: every set staged for the present frame is gone, the frame is noted for the echo of those that
the lead applied; at the lead every commit of this frame ends, STATUS, RESULT_FRAME and the counters show APPLIED or CANCELLED with its
reason and heads. Where one set is due and applied at another head, its members are put in force, for REFS, BAL_GROUP and DC_FAULT with
each reading its staged value; one whose outcome is unknown counts in CMT_ORPHAN_COUNT and changes no other register. -/
def Obligations.ArmViewCommitTravelsByStageVerdictAndApply : Prop :=
  (∀ (s : State) (h : SpanHdr) (k target : Nat) (set : SMap Nat), s.up → k < 5 → target < 2 ^ 32 → hdrOk h = true → mwf set = true →
    s.dev.isLead = false → s.dev.actsOn spStage h = true →
    let d0 := s.dev.fresh.spanHeard spStage h
    let full := copyFields (d0.members (13 + k)) set d0.rf
    let r := if k = 1 then d0.validateCeGroup full (d0.periodAt target) else d0.validate (13 + k) full
    ∃ d, exec (.stage h k target set) s = .next (s.withDev d) ∧
      mget d.cmt.staged (13 + k) = some ⟨target, set, none, if k = 4 ∧ r = 0 then some d0.budgetNow else none⟩ ∧
      (∀ j, j ≠ 13 + k → mget d.cmt.staged j = mget s.dev.cmt.staged j) ∧ Out.span spVerdict 0 [k, target, r] ∈ d.out ∧
      s.dev.regsBut d [F.SPAN_QUEUE_DROP_COUNT] ∧
      d = { s.dev with rf := d.rf, cmt := { s.dev.cmt with staged := d.cmt.staged }, spanSeq := d.spanSeq, fab := d.fab, out := d.out }) ∧
  (∀ (s : State) (h : SpanHdr) (k target : Nat) (set : SMap Nat), s.up → k < 5 → target < 2 ^ 32 → hdrOk h = true → mwf set = true →
    (s.dev.isLead = true ∨ s.dev.actsOn spStage h = false) →
    ∃ d, exec (.stage h k target set) s = .next (s.withDev d) ∧ d.cmt = s.dev.cmt) ∧
  (∀ (s : State) (h : SpanHdr) (k target reason : Nat) (c : AvCommit), s.up → k < 5 → target < 2 ^ 32 → reason < 256 → hdrOk h = true →
    s.dev.isLead = true → s.dev.actsOn spVerdict h = true → mget s.dev.cmt.av (13 + k) = some c → c.target = target → c.decided = none →
    ∃ d, exec (.verdict h k target reason) s = .next (s.withDev d) ∧
      mget d.cmt.av (13 + k) = some { c with verdicts := mset c.verdicts h.origin (some reason) } ∧
      (∀ j, j ≠ 13 + k → mget d.cmt.av j = mget s.dev.cmt.av j) ∧ d.rf = s.dev.rf ∧
      d = { s.dev with cmt := { s.dev.cmt with av := d.cmt.av }, spanSeq := d.spanSeq, out := d.out }) ∧
  (∀ (s : State) (h : SpanHdr) (k target reason : Nat), s.up → k < 5 → target < 2 ^ 32 → reason < 256 → hdrOk h = true →
    (s.dev.actsOn spVerdict h = false ∨ ∀ c, mget s.dev.cmt.av (13 + k) = some c → c.target ≠ target ∨ c.decided ≠ none) →
    ∃ d, exec (.verdict h k target reason) s = .next (s.withDev d) ∧ d.cmt = s.dev.cmt) ∧
  (∀ s : State, s.up →
    ∃ d, exec .avCommitApply s = .next (s.withDev d) ∧
      (∀ (k : Nat) (x : AvStaged), k < 5 → mget s.dev.cmt.staged (13 + k) = some x → x.target = s.dev.cad.frame →
        mget d.cmt.staged (13 + k) = none ∧
        mget d.cmt.avFrame (13 + k) = if x.outcome = some true then some s.dev.cad.frame else mget s.dev.cmt.avFrame (13 + k)) ∧
      (∀ (k : Nat) (c : AvCommit), k < 5 → mget s.dev.cmt.av (13 + k) = some c → c.target = s.dev.cad.frame →
        mget d.cmt.av (13 + k) = none ∧ d.b (F.AV_CMT_COMMIT_COMMIT k) = false ∧ d.b (F.AV_CMT_STATUS_PENDING k) = false ∧
        d.g (F.AV_CMT_RESULT_FRAME_FRAME k) = s.dev.cad.frame % 2 ^ 32 ∧
        (c.decided = some true → d.g (F.AV_CMT_STATUS_LAST_RESULT k) = 1 ∧ d.g (F.AV_CMT_STATUS_HEADS k) = 0 ∧
          d.g (F.AV_CMT_STATUS_HEAD_REASON k) = 0 ∧ d.g (F.AV_CMT_APPLY_COUNT k) = (s.dev.g (F.AV_CMT_APPLY_COUNT k) + 1) % 2 ^ 32) ∧
        (c.decided ≠ some true → d.g (F.AV_CMT_STATUS_LAST_RESULT k) = 3 ∧ d.g (F.AV_CMT_STATUS_REASON k) = c.reason % 256 ∧
          d.g (F.AV_CMT_STATUS_HEADS k) = c.heads % 256 ∧ d.g (F.AV_CMT_STATUS_HEAD_REASON k) = c.headReason % 256 ∧
          d.g (F.AV_CMT_REJECT_COUNT k) = (s.dev.g (F.AV_CMT_REJECT_COUNT k) + 1) % 2 ^ 32))) ∧
  (∀ (s : State) (k : Nat) (x : AvStaged), s.up → k < 5 → s.dev.avDue = [13 + k] → mget s.dev.cmt.av (13 + k) = none →
    mget s.dev.cmt.staged (13 + k) = some x →
    let gone : SMap (Option AvStaged) := mset s.dev.cmt.staged (13 + k) none
    (x.outcome = some true →
      ∃ d, exec .avCommitApply s = .next (s.withDev d) ∧
        (let d1 := s.dev.fresh.putInForce (13 + k) x.set
         d = { d1 with cmt := { d1.cmt with staged := mset d1.cmt.staged (13 + k) none,
                                            avFrame := mset d1.cmt.avFrame (13 + k) (some d1.cad.frame) } }) ∧
        (k = 0 ∨ k = 2 ∨ k = 3 →
          (∀ f ∈ s.dev.members (13 + k), d.g f = mget x.set f.key % 2 ^ f.w) ∧ s.dev.regsBut d (s.dev.members (13 + k)))) ∧
    (x.outcome = some false →
      exec .avCommitApply s = .next (s.withDev { s.dev.fresh with cmt := { s.dev.cmt with staged := gone } })) ∧
    (x.outcome = none →
      ∃ d, exec .avCommitApply s = .next (s.withDev d) ∧ d.g F.CMT_ORPHAN_COUNT = (s.dev.g F.CMT_ORPHAN_COUNT + 1) % 2 ^ 32 ∧
        s.dev.regsBut d [F.CMT_ORPHAN_COUNT] ∧ d = { s.dev.fresh with rf := d.rf, cmt := { s.dev.cmt with staged := gone } }))

/-- O9 (R69, R70, R71, R72, R73, R74, R75, chapter Register interface and the consistency model). At a local mailbox m, and at the lead's arm
view mailbox: a request for a served item with a legal argument and frame leaves VALID 0, BUSY 1, RESULT 0, the item and AT shown, and the
item waiting, CAPTURE copied at once; an item that is not served or an illegal argument leaves BADARG, a frame that is not ahead LATE,
counted. A request that replaces another counts. A capture of a busy mailbox whose conditions hold leaves VALID 1, BUSY 0, RESULT 1 and
the item's header and words; the lead's part of LEG_GROUP is kept until every admitted head has delivered, another head sends its part. A
read of MBX_DATA of a valid mailbox answers status OK and the word at the pointer, which moves on; an empty one answers EMPTY and changes
nothing. SNAP_PART at the lead is kept under its origin and completes the snapshot when no admitted part is missing; SNAPSHOT_TIMEOUT
completes it after 64 ticks. -/
def Obligations.MailboxTakesCapturesAndIsRead : Prop :=
  (∀ (s : State) (m item : Nat) (atFrame : Bool), s.up → m < 5 → item < 256 → item ≠ 0 →
    s.dev.hostMay (mbxReqAddr m) (item + 256 * bit atFrame) = true →
    let arg := s.dev.g (mbArg m)
    let f := s.dev.g (mbFrame m)
    let legal := mbServes m item && (!atFrame || mbAligned item) && s.dev.mbArgOk item arg
    let ahead := if m = 4 then threeAhead f s.dev.cad.frame else later f s.dev.cad.frame
    let due := if atFrame then some f else if m = 4 then some (frameAdd s.dev.cad.frame 3) else none
    ∃ d, exec (.mbxRequest m item atFrame) s = .next (s.withDev d) ∧ d.b (mbValid m) = false ∧ d.g (mbItem m) = item ∧
      d.b (mbAt m) = atFrame ∧ (∀ j, j ≠ m → d.mb j = s.dev.mb j) ∧
      d.g (mbReplace m) = (s.dev.g (mbReplace m) + bit (s.dev.b (mbValid m) || s.dev.b (mbBusy m))) % 2 ^ 32 ∧
      s.dev.regsBut d [mbItem m, mbAt m, mbValid m, mbBusy m, mbResult m, mbReplace m, mbLate m] ∧ d = { s.dev.fresh with rf := d.rf, mbx := d.mbx, red := d.red } ∧
      (legal = false → d.b (mbBusy m) = false ∧ d.g (mbResult m) = mbBadArg ∧ d.mb m = default ∧
        d.g (mbLate m) = s.dev.g (mbLate m) ∧ d.red = s.dev.red) ∧
      (legal = true → atFrame = true → ahead = false → d.b (mbBusy m) = false ∧ d.g (mbResult m) = mbLateCode ∧ d.mb m = default ∧
        d.g (mbLate m) = (s.dev.g (mbLate m) + 1) % 2 ^ 32 ∧ d.red = s.dev.red) ∧
      (legal = true → (atFrame = true → ahead = true) → d.b (mbBusy m) = true ∧ d.g (mbResult m) = 0 ∧
        d.g (mbLate m) = s.dev.g (mbLate m) ∧ (d.mb m).item = item ∧ (d.mb m).arg = arg ∧ (d.mb m).due = due ∧
        (item = 0x08 → (d.mb m).words = s.dev.capture16) ∧
        d.red = if m = 4 then { s.dev.red with snapDue := due.map (fun f => (f, item, arg)) } else s.dev.red)) ∧
  (∀ (s : State) (m t : Nat), s.up → m < 4 → s.dev.b (mbBusy m) = true → (s.dev.mb m).item ≠ 0x08 →
    (mbAligned (s.dev.mb m).item = true → s.dev.frameCome (s.dev.mb m).due = true) →
    ∃ d, exec (.mbxCapture m t) s = .next (s.withDev d) ∧ d.b (mbBusy m) = false ∧ (∀ j, j ≠ m → d.mb j = s.dev.mb j) ∧
      s.dev.regsBut d [mbValid m, mbBusy m, mbResult m] ∧ d = { s.dev.fresh.at t with rf := d.rf, mbx := d.mbx } ∧
      ((s.dev.fresh.at t).mbArgOk (s.dev.mb m).item (s.dev.mb m).arg = true → d.b (mbValid m) = true ∧ d.g (mbResult m) = mbCaptured ∧
        (d.mb m).words = itemOf (s.dev.mb m).item s.dev.cad.frame s.dev.cad.epoch 0
          ((s.dev.fresh.at t).itemWords (s.dev.mb m).item (s.dev.mb m).arg) ∧ (d.mb m).ptr = 0) ∧
      ((s.dev.fresh.at t).mbArgOk (s.dev.mb m).item (s.dev.mb m).arg = false → d.g (mbResult m) = mbBadArg ∧ d.mb m = default)) ∧
  (∀ (s : State) (m t f e : Nat), s.up → m < 4 → s.dev.b (mbBusy m) = true → (s.dev.mb m).item = 0x08 → (s.dev.mb m).at_ = some (f, e) →
    ∃ d, exec (.mbxCapture m t) s = .next (s.withDev d) ∧ d.b (mbValid m) = true ∧ d.b (mbBusy m) = false ∧ d.g (mbResult m) = mbCaptured ∧
      (d.mb m).words = itemOf 0x08 f e 0 (s.dev.mb m).words ∧ (d.mb m).ptr = 0 ∧ s.dev.regsBut d [mbValid m, mbBusy m, mbResult m]) ∧
  (∀ (s : State) (t : Nat), s.up → s.dev.isLead = true → s.dev.b (mbBusy 4) = true → (s.dev.mb 4).at_ = none →
    s.dev.frameCome (s.dev.mb 4).due = true →
    ∃ d, exec (.mbxCapture 4 t) s = .next (s.withDev d) ∧ s.dev.regsBut d [mbValid 4, mbBusy 4, mbResult 4] ∧
      ((s.dev.mb 4).item ≠ 0x40 → d.b (mbValid 4) = true ∧ d.b (mbBusy 4) = false ∧ d.g (mbResult 4) = mbCaptured ∧
        (d.mb 4).words = itemOf (s.dev.mb 4).item s.dev.cad.frame s.dev.cad.epoch 0
          ((s.dev.fresh.at t).itemWords (s.dev.mb 4).item (s.dev.mb 4).arg)) ∧
      ((s.dev.mb 4).item = 0x40 →
        let parts := mset (s.dev.mb 4).parts 0 (s.dev.fresh.at t).armHead
        let x : Nat × List Nat := Dev.legGroup { s.dev with mbx := mset s.dev.mbx 4 { s.dev.mb 4 with parts := parts } }
        (x.1 ≠ 0 → d.b (mbBusy 4) = true ∧ (d.mb 4).parts = parts ∧ (d.mb 4).at_ = some (s.dev.cad.frame, s.dev.cad.epoch)) ∧
        (x.1 = 0 → d.b (mbValid 4) = true ∧ d.b (mbBusy 4) = false ∧
          (d.mb 4).words = itemOf 0x40 s.dev.cad.frame s.dev.cad.epoch 0 x.2))) ∧
  (∀ (s : State) (t f arg : Nat), s.up → s.dev.isLead = false → s.dev.red.snapPart = some (f, 0x40, arg) → later f s.dev.cad.frame = false →
    ∃ d, exec (.mbxCapture 4 t) s = .next (s.withDev d) ∧ Out.span spSnapPart 0 (f :: (s.dev.fresh.at t).armHead) ∈ d.out ∧
      d.red = { s.dev.red with snapPart := none } ∧ s.dev.regsBut d [F.SPAN_QUEUE_DROP_COUNT]) ∧
  (∀ (s : State) (m : Nat), s.up → m < 5 → (m = 4 → s.dev.isLead = true) → s.dev.served (blockOf (mbxDataAddr m)) = true →
    ∃ d, exec (.mbxDataRead m) s = .next (s.withDev d) ∧ s.dev.regsBut d [mbValid m] ∧ (∀ j, j ≠ m → d.mb j = s.dev.mb j) ∧
      d = { s.dev.fresh with rf := d.rf, mbx := d.mbx, out := d.out } ∧
      (s.dev.b (mbValid m) = true → d.out = [hrpResponse hsOk [((s.dev.mb m).words[(s.dev.mb m).ptr]?).getD 0]] ∧
        (d.mb m) = { s.dev.mb m with ptr := (s.dev.mb m).ptr + 1 } ∧
        (d.b (mbValid m) = true ↔ (s.dev.mb m).ptr + 1 < (s.dev.mb m).words.length)) ∧
      (s.dev.b (mbValid m) = false → d.out = [hrpResponse hsEmpty [0]] ∧ d.mb m = s.dev.mb m ∧ d.rf = s.dev.rf)) ∧
  (∀ (s : State) (h : SpanHdr) (frame : Nat) (words : List Nat), s.up → frame < 2 ^ 32 → below (2 ^ 32) words = true → hdrOk h = true →
    s.dev.actsOn spSnapPart h = true → s.dev.b (mbBusy 4) = true → (s.dev.mb 4).item = 0x40 → (s.dev.mb 4).due = some frame →
    1 ≤ h.origin → words.length = 128 →
    let parts := mset (s.dev.mb 4).parts h.origin words
    let x : Nat × List Nat := Dev.legGroup { s.dev with mbx := mset s.dev.mbx 4 { s.dev.mb 4 with parts := parts } }
    ∃ d, exec (.snapPart h frame words) s = .next (s.withDev d) ∧
      ((s.dev.mb 4).at_ = none ∨ x.1 ≠ 0 → (d.mb 4) = { s.dev.mb 4 with parts := parts } ∧ d.rf = s.dev.rf) ∧
      (∀ f e, (s.dev.mb 4).at_ = some (f, e) → x.1 = 0 → d.b (mbValid 4) = true ∧ d.b (mbBusy 4) = false ∧
        d.g (mbResult 4) = mbCaptured ∧ (d.mb 4).words = itemOf 0x40 f e 0 x.2 ∧ s.dev.regsBut d [mbValid 4, mbBusy 4, mbResult 4])) ∧
  (∀ (s : State) (f e : Nat), s.up → s.dev.b (mbBusy 4) = true → (s.dev.mb 4).at_ = some (f, e) → 64 ≤ (s.dev.mb 4).wait →
    ∃ d, exec .snapshotTimeout s = .next (s.withDev d) ∧ d.b (mbValid 4) = true ∧ d.b (mbBusy 4) = false ∧ d.g (mbResult 4) = mbCaptured ∧
      (d.mb 4).words = itemOf (s.dev.mb 4).item f e s.dev.legGroup.1 s.dev.legGroup.2 ∧ s.dev.regsBut d [mbValid 4, mbBusy 4, mbResult 4])

/-- O10 (R54, R76, R77, R78, chapter Register interface and the consistency model). A write to the port of window 0, 1 or 2, its consumer not
running and its pointer inside the window, stores the word there, adds one to the pointer and changes no other word and no other register;
beyond the end, or while the consumer runs, it adds one to the overflow counter instead. A write to the port of window 3 stores nothing. A
read of the port of window k answers OK and the word at the pointer, which moves on; no word changes; beyond the end it answers 0 and
counts. -/
def Obligations.DataWindowsHoldWhatIsWritten : Prop :=
  (∀ (s : State) (k w : Nat), s.up → k < 3 → w < 2 ^ 32 → s.dev.hostMay (dwAddr k) 0 = true → s.dev.dwUsed k = false →
    s.dev.g (F.DW_PTR_PTR k) < dwSize k →
    ∃ d, exec (.dwDataWrite k w) s = .next (s.withDev d) ∧ d.winWord k (s.dev.g (F.DW_PTR_PTR k)) = w ∧
      d.g (F.DW_PTR_PTR k) = s.dev.g (F.DW_PTR_PTR k) + 1 ∧
      (∀ j, j ≠ k * 2 ^ 20 + s.dev.g (F.DW_PTR_PTR k) → mget d.win j = mget s.dev.win j) ∧ s.dev.regsBut d [F.DW_PTR_PTR k] ∧
      d = { s.dev.fresh with rf := d.rf, win := d.win }) ∧
  (∀ (s : State) (k w : Nat), s.up → k < 4 → w < 2 ^ 32 → s.dev.hostMay (dwAddr k) 0 = true →
    (k < 3 ∧ s.dev.dwUsed k = true ∨ dwSize k ≤ s.dev.g (F.DW_PTR_PTR k)) →
    ∃ d, exec (.dwDataWrite k w) s = .next (s.withDev d) ∧
      d.g (F.DW_OVERFLOW_COUNT k) = (s.dev.g (F.DW_OVERFLOW_COUNT k) + 1) % 2 ^ 32 ∧ s.dev.regsBut d [F.DW_OVERFLOW_COUNT k] ∧
      s.dev.fresh.onlyRegs d) ∧
  (∀ (s : State) (w : Nat), s.up → w < 2 ^ 32 → s.dev.hostMay (dwAddr 3) 0 = true → s.dev.g (F.DW_PTR_PTR 3) < dwSize 3 →
    ∃ d, exec (.dwDataWrite 3 w) s = .next (s.withDev d) ∧ d.g (F.DW_PTR_PTR 3) = s.dev.g (F.DW_PTR_PTR 3) + 1 ∧
      s.dev.regsBut d [F.DW_PTR_PTR 3] ∧ s.dev.fresh.onlyRegs d) ∧
  (∀ (s : State) (k : Nat), s.up → k < 4 → s.dev.served (blockOf (dwAddr k)) = true → s.dev.g (F.DW_PTR_PTR k) < dwSize k →
    ∃ d, exec (.dwResultRead k) s = .next (s.withDev d) ∧ d.out = [hrpResponse hsOk [s.dev.winWord k (s.dev.g (F.DW_PTR_PTR k))]] ∧
      d.g (F.DW_PTR_PTR k) = s.dev.g (F.DW_PTR_PTR k) + 1 ∧ s.dev.regsBut d [F.DW_PTR_PTR k] ∧ s.dev.fresh.onlyRegs d) ∧
  (∀ (s : State) (k : Nat), s.up → k < 4 → s.dev.served (blockOf (dwAddr k)) = true → dwSize k ≤ s.dev.g (F.DW_PTR_PTR k) →
    ∃ d, exec (.dwResultRead k) s = .next (s.withDev d) ∧ d.out = [hrpResponse hsOk [0]] ∧
      d.g (F.DW_OVERFLOW_COUNT k) = (s.dev.g (F.DW_OVERFLOW_COUNT k) + 1) % 2 ^ 32 ∧ s.dev.regsBut d [F.DW_OVERFLOW_COUNT k] ∧
      s.dev.fresh.onlyRegs d)

/-- O11 (R81, R82, R83, R84, R85, R88, chapter Cadence: time base, frames and the frame budget). TOD_ARM at the lead with a whole second in
CAD_TOD_LOAD sets ARM and nothing else; where the head is not the lead or the value no whole second, one rejection is counted; with ARM
set nothing changes. An armed PPS edge at the lead sets global time to the load value, clears ARM, enters ACQUIRE and counts the step; a
value that is no whole second any more is refused and counted. Any other edge at the lead shows its phase error and is accepted or
rejected by the state: accepted, it is counted, changes the integral term by 1,000 times the error and the rate by 8,000 times it more,
clamped, and HOLDOVER and UNQUALIFIED go to ACQUIRE; rejected, it is counted. Another head only shows the phase error; with PPS_EN 0
nothing changes. PPS_LOCKED, PPS_LOCK_LOST, HOLDOVER and HOLDOVER_LIMIT move the lead's state when their counts or times are reached; the
two losses raise their faults. -/
def Obligations.TimeOfDayLoadAndPps : Prop :=
  (∀ s : State, s.up → s.dev.hostMay 0x020018 1 = true →
    (s.dev.b F.CAD_TOD_ARM_ARM = true → exec .todArm s = .next (s.withDev s.dev.fresh)) ∧
    (s.dev.b F.CAD_TOD_ARM_ARM = false → s.dev.isLead = true → s.dev.todValue % secQ = 0 →
      ∃ d, exec .todArm s = .next (s.withDev d) ∧ d.b F.CAD_TOD_ARM_ARM = true ∧ s.dev.regsBut d [F.CAD_TOD_ARM_ARM] ∧ s.dev.fresh.onlyRegs d) ∧
    (s.dev.b F.CAD_TOD_ARM_ARM = false → s.dev.isLead = false ∨ s.dev.todValue % secQ ≠ 0 →
      ∃ d, exec .todArm s = .next (s.withDev d) ∧ d.g F.CAD_TOD_REJECT_COUNT = (s.dev.g F.CAD_TOD_REJECT_COUNT + 1) % 2 ^ 32 ∧
        s.dev.regsBut d [F.CAD_TOD_REJECT_COUNT] ∧ s.dev.fresh.onlyRegs d)) ∧
  (∀ (s : State) (t : Nat), s.up → s.dev.b F.CAD_CONFIG_PPS_EN = true → s.dev.isLead = true → s.dev.b F.CAD_TOD_ARM_ARM = true →
    s.dev.todValue % secQ = 0 →
    ∃ d, exec (.ppsEdge t) s = .next (s.withDev d) ∧ d.cad.now = s.dev.clockAt t ∧
      (d.cad.now : Int) + d.cad.off = (s.dev.todValue : Nat) ∧ d.g F.CAD_PPS_ERROR_ERROR = 0 ∧
      d.g F.CAD_SYNC_STATE_STATE = 1 ∧ d.b F.CAD_TOD_ARM_ARM = false ∧
      d.g F.CAD_STEP_COUNT = (s.dev.g F.CAD_STEP_COUNT + 1) % 2 ^ 32 ∧
      s.dev.regsBut d [F.CAD_SYNC_STATE_STATE, F.CAD_TOD_ARM_ARM, F.CAD_STEP_COUNT, F.CAD_PPS_ERROR_ERROR] ∧
      d = { s.dev.fresh with rf := d.rf, cad := d.cad }) ∧
  (∀ (s : State) (t : Nat), s.up → s.dev.b F.CAD_CONFIG_PPS_EN = true → s.dev.isLead = true → s.dev.b F.CAD_TOD_ARM_ARM = true →
    s.dev.todValue % secQ ≠ 0 →
    ∃ d, exec (.ppsEdge t) s = .next (s.withDev d) ∧ d.b F.CAD_TOD_ARM_ARM = false ∧
      d.g F.CAD_TOD_REJECT_COUNT = (s.dev.g F.CAD_TOD_REJECT_COUNT + 1) % 2 ^ 32 ∧ d.cad.off = s.dev.cad.off) ∧
  (∀ (s : State) (t : Nat), s.up → s.dev.b F.CAD_CONFIG_PPS_EN = true → s.dev.isLead = true → s.dev.b F.CAD_TOD_ARM_ARM = false →
    let st := s.dev.g F.CAD_SYNC_STATE_STATE
    let now := s.dev.clockAt t
    let e := phaseError (s.dev.at t).global
    let run := match s.dev.cad.lastEdge with
      | none => 1
      | some a => if a + 3996000000 ≤ now ∧ now ≤ a + 4004000000 then s.dev.cad.runLen + 1 else 1
    let taken : Prop := (st = 1 ∧ ∀ a, s.dev.cad.accepted = some a → a + 3996000000 ≤ now) ∨
      (st = 2 ∧ e.natAbs ≤ s.dev.g F.CAD_PPS_WINDOW_WINDOW) ∨ ((st = 3 ∨ st = 4) ∧ 3 ≤ run)
    let lim : Int := 6400000000
    let ri := clampInt (s.dev.cad.rInt - 1000 * e) (-lim) lim
    ∃ d, exec (.ppsEdge t) s = .next (s.withDev d) ∧ d.cad.now = now ∧ d.cad.off = s.dev.cad.off ∧ d.cad.lastEdge = some now ∧
      d.cad.runLen = run ∧ d.g F.CAD_PPS_ERROR_ERROR = unsgn 32 e ∧ d = { s.dev.fresh with rf := d.rf, cad := d.cad } ∧
      (taken → d.g F.CAD_PPS_COUNT = (s.dev.g F.CAD_PPS_COUNT + 1) % 2 ^ 32 ∧ d.cad.rInt = ri ∧
        d.cad.rate = clampInt (ri - 8000 * e) (-lim) lim ∧ d.cad.accepted = some now ∧
        d.g F.CAD_SYNC_STATE_STATE = (if st = 2 then 2 else 1) ∧
        d.cad.tight = (if st = 1 ∧ e.natAbs ≤ 400 then s.dev.cad.tight + 1 else 0) ∧
        d.cad.loose = (if st = 2 ∧ 4000 < e.natAbs then s.dev.cad.loose + 1 else 0) ∧
        s.dev.regsBut d [F.CAD_PPS_COUNT, F.CAD_PPS_ERROR_ERROR, F.CAD_RATE_ADJ_RATE, F.CAD_SYNC_STATE_STATE]) ∧
      (¬ taken → d.g F.CAD_PPS_REJECT_COUNT = (s.dev.g F.CAD_PPS_REJECT_COUNT + 1) % 2 ^ 32 ∧ d.cad.rInt = s.dev.cad.rInt ∧
        d.cad.rate = s.dev.cad.rate ∧ s.dev.regsBut d [F.CAD_PPS_REJECT_COUNT, F.CAD_PPS_ERROR_ERROR])) ∧
  (∀ (s : State) (t : Nat), s.up → s.dev.b F.CAD_CONFIG_PPS_EN = true → s.dev.isLead = false →
    ∃ d, exec (.ppsEdge t) s = .next (s.withDev d) ∧ d.g F.CAD_PPS_ERROR_ERROR = unsgn 32 (phaseError (s.dev.at t).global) ∧
      d.cad.off = s.dev.cad.off ∧ d.cad.rate = s.dev.cad.rate ∧ s.dev.regsBut d [F.CAD_PPS_ERROR_ERROR]) ∧
  (∀ (s : State) (t : Nat), s.up → s.dev.b F.CAD_CONFIG_PPS_EN = false → exec (.ppsEdge t) s = .next (s.withDev s.dev.fresh)) ∧
  (∀ s : State, s.up → s.dev.isLead = true → s.dev.g F.CAD_SYNC_STATE_STATE = 1 → 4 ≤ s.dev.cad.tight →
    ∃ d, exec .ppsLocked s = .next (s.withDev d) ∧ d.g F.CAD_SYNC_STATE_STATE = 2 ∧ s.dev.regsBut d [F.CAD_SYNC_STATE_STATE] ∧
      d = { s.dev.fresh with rf := d.rf, cad := { s.dev.cad with tight := 0, loose := 0 } }) ∧
  (∀ s : State, s.up → s.dev.isLead = true → s.dev.g F.CAD_SYNC_STATE_STATE = 2 → 3 ≤ s.dev.cad.loose →
    ∃ d, exec .ppsLockLost s = .next (s.withDev d) ∧ d.g F.CAD_SYNC_STATE_STATE = 1 ∧ d.cad = { s.dev.cad with tight := 0, loose := 0 } ∧
      (let d0 : Dev := { s.dev.fresh with cad := { s.dev.cad with tight := 0, loose := 0 } }
       d = (d0.p F.CAD_SYNC_STATE_STATE 1).raise { src := 0x0107, cls := 1 })) ∧
  (∀ (s : State) (t : Nat), s.up → s.dev.isLead = true → (s.dev.g F.CAD_SYNC_STATE_STATE = 1 ∨ s.dev.g F.CAD_SYNC_STATE_STATE = 2) →
    s.dev.cad.accepted.getD 0 + 10000000000 ≤ s.dev.clockAt t →
    ∃ d, exec (.holdover t) s = .next (s.withDev d) ∧ d.g F.CAD_SYNC_STATE_STATE = 3 ∧ d.cad.holdSince = s.dev.clockAt t ∧
      d.cad.rate = s.dev.cad.rInt ∧ d.cad.rInt = s.dev.cad.rInt ∧ s.dev.regsBut d [F.CAD_SYNC_STATE_STATE, F.CAD_RATE_ADJ_RATE] ∧
      d = { s.dev.fresh with rf := d.rf, cad := d.cad }) ∧
  (∀ (s : State) (t : Nat), s.up → s.dev.isLead = true → s.dev.g F.CAD_SYNC_STATE_STATE = 3 →
    s.dev.cad.holdSince + s.dev.g F.CAD_HOLDOVER_LIMIT_SECONDS * secQ ≤ s.dev.clockAt t →
    ∃ d, exec (.holdoverLimit t) s = .next (s.withDev d) ∧ d.g F.CAD_SYNC_STATE_STATE = 4 ∧ d.cad = (s.dev.at t).cad ∧
      d = ((s.dev.fresh.at t).p F.CAD_SYNC_STATE_STATE 4).raise { src := 0x0108, cls := 1 })

/-- O12 (R96, R97, R106, R109, R217, chapter Cadence: time base, frames and the frame budget). For every head out of reset that may tick:
FRAME_TICK, whatever codes the window delivered, answers a next state whose last tick lies one frame period after the one before, whose
frame number is one higher modulo 2^32, and whose epoch is one higher modulo 2^16 where the frame number wrapped; a head that begins to
tick again first counts the ticks of the sequence that have passed. The first tick of a sequence has frame number 0 and epoch 0 at the
time of T0. TICKS_RESUME of an unlocked time base PLL locks it again, ends the cause of TB_UNLOCK and takes a pending INIT. -/
def Obligations.FrameTickCountsTheFrames : Prop :=
  (∀ (s : State) (codes : List (List Int)), s.up → s.dev.mayTick = true → s.dev.ticking = true → s.dev.cad.started = true →
    ∃ d, exec (.frameTick codes) s = .next (s.withDev d) ∧ d.cad.tickAt = s.dev.cad.tickAt + s.dev.periodQ ∧
      d.cad.frame = (s.dev.cad.frame + 1) % 2 ^ 32 ∧ d.cad.epoch = (s.dev.cad.epoch + (s.dev.cad.frame + 1) / 2 ^ 32) % 2 ^ 16) ∧
  (∀ (s : State) (codes : List (List Int)), s.up → s.dev.mayTick = true → s.dev.cad.started = false →
    ∃ d, exec (.frameTick codes) s = .next (s.withDev d) ∧ d.cad.tickAt = s.dev.cad.tickAt ∧ d.cad.started = true ∧
      d.cad.frame = 0 ∧ d.cad.epoch = 0) ∧
  (∀ (s : State) (codes : List (List Int)), s.up → s.dev.mayTick = true → s.dev.ticking = false → s.dev.cad.started = true →
    1 ≤ s.dev.periodQ →
    let n := if s.dev.cad.tickAt + s.dev.periodQ ≤ s.dev.cad.now then (s.dev.cad.now - s.dev.cad.tickAt) / s.dev.periodQ else 0
    let f := s.dev.cad.frame + n
    ∃ d, exec (.frameTick codes) s = .next (s.withDev d) ∧ d.cad.tickAt = s.dev.cad.tickAt + (n + 1) * s.dev.periodQ ∧
      d.cad.frame = (f + 1) % 2 ^ 32 ∧ d.cad.epoch = (s.dev.cad.epoch + (f + 1) / 2 ^ 32) % 2 ^ 16) ∧
  (∀ s : State, s.up → s.dev.cad.tbLocked = false →
    ∃ d, exec .ticksResume s = .next (s.withDev d) ∧ d.cad = { s.dev.cad with tbLocked := true } ∧ d.hasCause 0x0106 0 = false ∧
      d.ce.initDue = (s.dev.ce.initDue || s.dev.b F.CE_CTRL_INIT) ∧
      s.dev.regsBut d [F.PROT_STATUS_HOLD, F.PROT_STATUS_WARN, F.PROT_STATUS_DERATE])

/-- O13 (R82, R88, R89, R90, R92, R93, R95, R96, R127, R129, R131, chapter Cadence: time base, frames and the frame budget). PROBE_INTERVAL
makes the probe of an UP lane due when its frames have passed, and changes nothing else. TIME_PROBE sends it, once the lane is free and it
ends before the next launch, and remembers t1. A matching TIME_ECHO ends the exchange and records its residual; its round trip joins the
mean where it lies within 4 ns of it, else one rejection is counted; one that fails its CRC on a cell lane counts a line error. After 16
rejections PROBE_AVERAGE_RESTART discards the mean. ECHO_LOST abandons an exchange of four frames, counted on a cell lane. ALIGN_CELL and
ALIGN_HEAD count and raise their faults. A head other than the lead answers SPAN_TIME_PROBE with a TIME_ECHO, and takes the lead's time on
the lane by which time comes to it. -/
def Obligations.DelayProbesMeasureEveryLane : Prop :=
  (∀ (s : State) (ln : Nat), s.up → ln < 72 → probeLane ln = true → s.dev.laneUp ln = true →
    s.dev.g F.CAD_PROBE_INTERVAL_FRAMES ≤ (s.dev.probeOf ln).count →
    ∃ d, exec (.probeInterval ln) s = .next (s.withDev d) ∧ d.probeOf ln = { s.dev.probeOf ln with due := true, count := 0 } ∧
      (∀ j, j ≠ ln → d.probeOf j = s.dev.probeOf j) ∧ d = { s.dev.fresh with cad := { s.dev.cad with probe := d.cad.probe } }) ∧
  (∀ (s : State) (ln t : Nat), s.up → ln < 72 → (s.dev.probeOf ln).due = true → (s.dev.probeOf ln).pending = none → s.dev.laneUp ln = true →
    (s.dev.probeOf ln).busy ≤ s.dev.clockAt t →
    s.dev.clockAt t + probeTime (s.dev.g (F.LANE_CFG_RATE ln)) + 80 ≤ s.dev.nextLaunch (s.dev.clockAt t) →
    ∃ d, exec (.timeProbe ln t) s = .next (s.withDev d) ∧
      d.probeOf ln = { s.dev.probeOf ln with due := false, pending := some ((s.dev.at t).global % 2 ^ 40, 0) } ∧
      (∀ j, j ≠ ln → d.probeOf j = s.dev.probeOf j) ∧
      d.out = [.ordered ln 0x2D (sealOrdered 0x2D (be 5 ((s.dev.at t).global % 2 ^ 40) ++
        be 2 (unsgn 16 ((s.dev.at t).delays ln (s.dev.asym ln)).1)))] ∧ d.rf = s.dev.rf) ∧
  (∀ (s : State) (ln t t1 n : Nat) (line : Line) (content : List Byte), s.up → ln < 72 → s.dev.got ln line = .ordered 0x4B content →
    content.length = 13 → orderedOk 0x4B content = true →
    (s.dev.probeOf ln).pending = some (t1, n) → beAt content 10 2 = t1 % 2 ^ 16 →
    let p := s.dev.probeOf ln
    let turn : Nat := (beAt content 5 3 + 2 ^ 24 - beAt content 0 5 % 2 ^ 24) % 2 ^ 24
    let rtt := sgn 40 (unsgn 40 (((s.dev.at t).global : Int) - t1 - turn))
    let near : Prop := p.rtts.length = 0 ∨ (rtt * p.rtts.length - sumInt p.rtts).natAbs ≤ 16 * p.rtts.length
    ∃ d, exec (.timeEcho ln t line) s = .next (s.withDev d) ∧ (d.probeOf ln).pending = none ∧
      (d.probeOf ln).resid = (sgn 16 (beAt content 8 2) :: p.resid).take 3 ∧
      (near → (d.probeOf ln).rtts = (rtt :: p.rtts).take 16 ∧ (d.probeOf ln).accepted = p.accepted + 1 ∧ (d.probeOf ln).rejects = 0) ∧
      (¬ near → (d.probeOf ln).rtts = p.rtts ∧ (d.probeOf ln).accepted = p.accepted ∧ (d.probeOf ln).rejects = p.rejects + 1) ∧
      (∀ j, j ≠ ln → d.probeOf j = s.dev.probeOf j)) ∧
  (∀ (s : State) (ln t : Nat) (line : Line) (content : List Byte), s.up → ln < 64 → s.dev.got ln line = .ordered 0x4B content →
    (content.length ≠ 13 ∨ orderedOk 0x4B content = false) →
    ∃ d, exec (.timeEcho ln t line) s = .next (s.withDev d) ∧
      d.g (F.HCL_LINE_ERR_COUNT ln) =
        (s.dev.g (F.HCL_LINE_ERR_COUNT ln) + (if s.dev.laneUp ln then line.bads else 0) + 1) % 2 ^ 32 ∧
      s.dev.regsBut d [F.HCL_LINE_ERR_COUNT ln, F.LANE_CODE_ERR_COUNT ln] ∧ (s.dev.fresh.at t).onlyRegs d) ∧
  (∀ (s : State) (ln : Nat), s.up → ln < 72 → 16 ≤ (s.dev.probeOf ln).rejects →
    ∃ d, exec (.probeAverageRestart ln) s = .next (s.withDev d) ∧
      d.probeOf ln = { s.dev.probeOf ln with rtts := [], accepted := 0, rejects := 0 } ∧ (∀ j, j ≠ ln → d.probeOf j = s.dev.probeOf j) ∧
      (ln < 64 → d.b (F.CAD_LANE_RESIDUAL_ALIGNED ln) = false) ∧
      s.dev.regsBut d [F.CAD_LANE_RESIDUAL_ALIGNED ln, F.CAD_LANE_DELAY_DN ln, F.CAD_LANE_DELAY_UP ln]) ∧
  (∀ (s : State) (ln t1 n : Nat), s.up → ln < 72 → (s.dev.probeOf ln).pending = some (t1, n) → 4 ≤ n →
    ∃ d, exec (.echoLost ln) s = .next (s.withDev d) ∧ d.probeOf ln = { s.dev.probeOf ln with pending := none } ∧
      (∀ j, j ≠ ln → d.probeOf j = s.dev.probeOf j) ∧
      (ln < 64 → d.g (F.HCL_ECHO_LOST_COUNT ln) = (s.dev.g (F.HCL_ECHO_LOST_COUNT ln) + 1) % 2 ^ 32 ∧
        s.dev.regsBut d [F.HCL_ECHO_LOST_COUNT ln]) ∧ (64 ≤ ln → d.rf = s.dev.rf)) ∧
  (∀ (s : State) (l : Nat), s.up → l < 64 → 3 ≤ (s.dev.probeOf l).outside →
    ∃ d, exec (.alignCell l) s = .next (s.withDev d) ∧ d.b (F.CAD_LANE_RESIDUAL_ALIGNED l) = false ∧
      d.g F.CAD_ALIGN_FAULT_COUNT = (s.dev.g F.CAD_ALIGN_FAULT_COUNT + 1) % 2 ^ 32 ∧ (d.probeOf l).outside = 0 ∧
      d = (((s.dev.fresh.probeUpd l (fun p => { p with outside := 0 })).pb (F.CAD_LANE_RESIDUAL_ALIGNED l) false).inc
        F.CAD_ALIGN_FAULT_COUNT).raiseSuspect 0x0109 l) ∧
  (∀ s : State, s.up → 3 ≤ s.dev.cad.headOutside →
    ∃ d, exec .alignHead s = .next (s.withDev d) ∧ d.cad.headOutside = 0 ∧
      d.g F.CAD_ALIGN_FAULT_COUNT = (s.dev.g F.CAD_ALIGN_FAULT_COUNT + 1) % 2 ^ 32 ∧
      (let d0 : Dev := { s.dev.fresh with cad := { s.dev.cad with headOutside := 0 } }
       d = (d0.inc F.CAD_ALIGN_FAULT_COUNT).raise { src := 0x010A, cls := 1 })) ∧
  (∀ (s : State) (ln t t3 : Nat) (step : Int) (t0 : Option (Nat × Nat × Nat)) (line : Line) (content : List Byte), s.up →
    (ln = 64 ∨ ln = 67) → s.dev.isLead = false → s.dev.got ln line = .ordered 0x2D content → content.length = 8 →
    orderedOk 0x2D content = true →
    let own := ln = s.dev.timeLane
    let off := if own then s.dev.cad.off + step else s.dev.cad.off
    let t2 : Nat := ((((s.dev.clockAt t : Nat) : Int) + off) % 2 ^ 64).toNat % 2 ^ 40
    let t3v : Nat := ((((s.dev.at t).clockAt t3 : Int) + off) % 2 ^ 40).toNat
    let th := sgn 40 (unsgn 40 ((t2 : Int) - (beAt content 0 5 + beAt content 5 2 : Nat)))
    ∃ d, exec (.spanTimeProbe ln t t3 step t0 line) s = .next (s.withDev d) ∧
      d.out = [.ordered ln 0x4B (sealOrdered 0x4B (be 5 t2 ++ be 3 (t3v % 2 ^ 24) ++ be 2 (unsgn 16 th) ++
        be 2 (beAt content 0 5 % 2 ^ 16)))] ∧
      (own → d.cad.off = off - th ∧ (d.b F.CAD_SYNC_STATE_SPAN_ALIGNED = true ↔ th.natAbs ≤ s.dev.g F.CAD_ALIGN_LIMIT_LIMIT) ∧
        d.cad.headOutside = (if th.natAbs ≤ s.dev.g F.CAD_ALIGN_LIMIT_LIMIT then 0 else s.dev.cad.headOutside + 1) ∧
        (t0 = none → d.cad.tickAt = ((s.dev.cad.tickAt : Int) + th).toNat ∧ d.cad.frame = s.dev.cad.frame) ∧
        (∀ g f e, t0 = some (g, f, e) → s.dev.ticking = false → d.cad.t0Set = true ∧ d.cad.frame = f ∧ d.cad.epoch = e)) ∧
      (¬ own → d.cad = (s.dev.at t).cad)) ∧
  (∀ (s : State) (ln t t3 : Nat) (step : Int) (t0 : Option (Nat × Nat × Nat)) (line : Line) (content : List Byte), s.up → ln < 72 →
    s.dev.isLead = true → s.dev.got ln line = .ordered 0x2D content →
    ∃ d, exec (.spanTimeProbe ln t t3 step t0 line) s = .next (s.withDev d) ∧ d.cad = (s.dev.at t).cad ∧ d.out = [])

/-- O14 (R194, R197, R204, R209, R216, R217, R106, chapter Control engine). In a frame whose pass may run: CE_PASS marks the pass done, counts
the corrected errors, clears HELD, and puts in force the outputs that the instances give in order, a FOLLOW that trips being the only
source of a fault; a head that is not the lead then sends its four SPAN_OUT sinks. With an uncorrectable error, and in CE_OVERRUN, the
pass is marked discarded, counted, HELD set, its F3 raised, and every output and state is kept. NONFINITE_LIMIT raises its F3 with the
instance as DETAIL and starts the run anew. INIT sets the INIT bit alone; CE_INITIALISE clears it, counts one and empties every state.
SPAN_OUT is kept for the lead's next pass, and does nothing to the control engine where the head does not act on it. -/
def Obligations.ControlEnginePassesInitialisesAndHolds : Prop :=
  (∀ (s : State) (corr : Nat), s.up → s.dev.ceRuns = true →
    let d1 := ((s.dev.fresh.addTo F.CE_ECC_CORR_COUNT corr).pb F.CE_STATUS_RUNNING true).spanLate
    ∃ d, exec (.cePass corr false) s = .next (s.withDev d) ∧
      d.cad = { s.dev.cad with work := { s.dev.cad.work with cePass := true }, miss := d.cad.miss, missRaised := d.cad.missRaised } ∧
      d.g F.CE_ECC_CORR_COUNT = (s.dev.g F.CE_ECC_CORR_COUNT + corr) % 2 ^ 32 ∧ d.b F.CE_STATUS_HELD = false ∧
      d.b F.CE_STATUS_RUNNING = true ∧ d.ce.out = (s.dev.cePrimary.foldl Dev.ceStep ([], d1)).1 ∧ d.ce.fresh = false ∧
      ({ s.dev.fresh with ce := d.ce, cad := d.cad, fab := d.fab } : Dev).onlyFaults d ∧
      ((∀ i ∈ s.dev.cePrimary, (s.dev.ceInst i).ty ≠ tFollow) → d.prot = s.dev.prot ∧ (s.dev.isLead = true → d.out = [])) ∧
      (s.dev.isLead = false →
        d.out.getLast? = some (.span spSpanOut 0 (s.dev.cad.frame :: (List.range 4).map (fun k => d.sink (2 + k)))))) ∧
  (∀ (s : State) (corr : Nat), s.up → s.dev.ceRuns = true →
    ∃ d, exec (.cePass corr true) s = .next (s.withDev d) ∧ d.ce = s.dev.ce ∧ s.dev.faulted d 0x0101 3 1 ∧
      d.cad = { s.dev.cad with work := { s.dev.cad.work with ceOver := true }, miss := mupd s.dev.cad.miss (missKey 2 0) (· + 1) } ∧
      d.b F.CE_STATUS_HELD = true ∧ d.g F.CE_ECC_UNCORR_COUNT = (s.dev.g F.CE_ECC_UNCORR_COUNT + 1) % 2 ^ 32 ∧
      d.g F.CE_ECC_CORR_COUNT = (s.dev.g F.CE_ECC_CORR_COUNT + corr) % 2 ^ 32 ∧
      s.dev.regsFault d 3 [F.CE_STATUS_HELD, F.CE_STATUS_RUNNING, F.CE_ECC_UNCORR_COUNT, F.CE_ECC_CORR_COUNT] ∧
      ({ s.dev.fresh with cad := d.cad } : Dev).onlyFaults d) ∧
  (∀ s : State, s.up → s.dev.ceRuns = true →
    ∃ d, exec .ceOverrun s = .next (s.withDev d) ∧ d.ce = s.dev.ce ∧ s.dev.faulted d 0x0101 3 0 ∧
      d.cad = { s.dev.cad with work := { s.dev.cad.work with ceOver := true }, miss := mupd s.dev.cad.miss (missKey 2 0) (· + 1) } ∧
      d.b F.CE_STATUS_HELD = true ∧ d.g F.CAD_CE_OVERRUN_COUNT = (s.dev.g F.CAD_CE_OVERRUN_COUNT + 1) % 2 ^ 32 ∧
      s.dev.regsFault d 3 [F.CE_STATUS_HELD, F.CAD_CE_OVERRUN_COUNT] ∧ ({ s.dev.fresh with cad := d.cad } : Dev).onlyFaults d) ∧
  (∀ (s : State) (i : Nat), s.up → i < 256 → s.dev.g F.CE_NONFINITE_LIMIT_FRAMES ≤ (mget s.dev.ce.inst i).nfRun →
    1 ≤ (mget s.dev.ce.inst i).nfRun →
    ∃ d, exec (.nonfiniteLimit i) s = .next (s.withDev d) ∧ s.dev.faulted d 0x0301 3 i ∧
      d.ce = { s.dev.ce with inst := mset s.dev.ce.inst i { mget s.dev.ce.inst i with nfRun := 0 } } ∧
      s.dev.regsFault d 3 [] ∧ ({ s.dev.fresh with ce := d.ce } : Dev).onlyFaults d) ∧
  (∀ s : State, s.up → s.dev.hostMay 0x0C000C 1 = true →
    ∃ d, exec .init s = .next (s.withDev d) ∧ d.b F.CE_CTRL_INIT = true ∧ s.dev.regsBut d [F.CE_CTRL_INIT] ∧ s.dev.fresh.onlyRegs d) ∧
  (∀ s : State, s.up → s.dev.ce.initDue = true → s.dev.cad.started = true → s.dev.ticking = true →
    ∃ d, exec .ceInitialise s = .next (s.withDev d) ∧ d.b F.CE_CTRL_INIT = false ∧
      d.g F.CE_INIT_COUNT = (s.dev.g F.CE_INIT_COUNT + 1) % 2 ^ 32 ∧ d.ce.fresh = true ∧ d.ce.initDue = false ∧
      (∀ i, (mget d.ce.inst i).st = [] ∧ (mget d.ce.inst i).nfRun = 0) ∧ d.ce.out = s.dev.ce.out ∧
      s.dev.regsBut d [F.CE_CTRL_INIT, F.CE_INIT_COUNT] ∧ d = { s.dev.fresh with rf := d.rf, ce := d.ce }) ∧
  (∀ (s : State) (h : SpanHdr) (frame : Nat) (vals : List Nat), s.up → hdrOk h = true → frame < 2 ^ 32 → below (2 ^ 32) vals = true →
    ∃ d, exec (.spanOut h frame vals) s = .next (s.withDev d) ∧
      (s.dev.actsOn spSpanOut h = true → 1 ≤ h.origin → mget d.ce.spanNew h.origin = ⟨frame, vals, true⟩ ∧
        (∀ p, p ≠ h.origin → mget d.ce.spanNew p = mget s.dev.ce.spanNew p) ∧
        d = { s.dev.fresh.spanHeard spSpanOut h with ce := { s.dev.ce with spanNew := d.ce.spanNew } }) ∧
      (s.dev.actsOn spSpanOut h = false ∨ h.origin = 0 → d.ce = s.dev.ce))

/-- O15 (R106, R107, R121, R122, R235, R238, R242, R410, R417, chapter Balancing and cell insertion across the leg group). GATHER_DEADLINE
closes the gathering and, of the protection state, updates only the estimates and their comparisons; SORT_END sends the head's report (the
lead keeps its own); QUOTA_COMPUTE at the lead takes quotas of the present frame and sends them in a group; CELL_SELECTION marks for RUN
exactly the lanes whose conditions hold; DSF_LAUNCH sends one DSF on each enabled, configured lane that is UP, having stood down first
where RELINQUISH has come or the claim copies differ. LAUNCH_LATE sends IDLE on them instead and counts, QUOTA_LATE counts, both with
their F1 and miss. MISS_LIMIT raises its F3 once for a run of misses, and at the stage of the control engine the head stands down where
its mask says so. TB_UNLOCK stops the ticks. -/
def Obligations.FrameStagesRunOnceAndMissesAreCounted : Prop :=
  (∀ s : State, s.up → s.dev.cad.work.gathered = false → s.dev.ticking = true →
    ∃ d, exec .gatherDeadline s = .next (s.withDev d) ∧ d.cad.work = { s.dev.cad.work with gathered := true } ∧
      (∀ l, l < 64 → s.dev.b (F.HCL_PORT_CTRL_ENABLE l) = true → (s.dev.port! l).usable = false →
        (d.port! l).bad = (s.dev.port! l).bad + 1 ∧ d.g (F.HCL_PORT_STATE_CONSEC_BAD l) = min 15 ((s.dev.port! l).bad + 1)) ∧
      (∀ l, l < 64 → s.dev.b (F.HCL_PORT_CTRL_ENABLE l) = true → s.dev.laneUp l = true → (s.dev.port! l).got = false →
        d.g (F.HCL_LATE_COUNT l) = (s.dev.g (F.HCL_LATE_COUNT l) + 1) % 2 ^ 32) ∧
      d = { s.dev.fresh with rf := d.rf, port := d.port, cad := d.cad, prot := { s.dev.prot with est := d.prot.est, estAvail := d.prot.estAvail, chan := d.prot.chan } }) ∧
  (∀ s : State, s.up → s.dev.ticking = true → s.dev.cad.work.gathered = true → s.dev.cad.work.sorted = false →
    s.dev.spectator = false →
    ∃ d, exec .sortEnd s = .next (s.withDev d) ∧ d.cad.work = { s.dev.cad.work with sorted := true } ∧
      s.dev.regsBut d [F.SPAN_QUEUE_DROP_COUNT] ∧ d.prot = { s.dev.prot with holdSeen := false } ∧ d.red = { s.dev.red with report := false } ∧
      (s.dev.isLead = false → d.out = [.summary s.dev.ownReport] ∧ d.bal = s.dev.bal) ∧
      (s.dev.isLead = true → d.out = [] ∧ d.rf = s.dev.rf ∧ mget d.bal.next 0 = some s.dev.ownReport)) ∧
  (∀ s : State, s.up → s.dev.isLead = true → s.dev.ticking = true → (s.dev.cad.work.cePass = true ∨ s.dev.cad.work.ceOver = true) →
    s.dev.cad.work.quotas = false →
    ∃ d, exec .quotaCompute s = .next (s.withDev d) ∧ d.cad.work.quotas = true ∧ d.bal.quota.frame = s.dev.cad.frame ∧
      (1 < s.dev.conf.heads → d.out.getLast? = some (.quota d.bal.quota)) ∧ d.conf = s.dev.conf ∧ d.shadow = s.dev.shadow) ∧
  (∀ s : State, s.up → s.dev.isLead = false → s.dev.ticking = true → s.dev.spectator = false → s.dev.cad.work.quotas = false →
    s.dev.cad.work.quotaLate = false →
    ∃ d, exec .quotaLate s = .next (s.withDev d) ∧ s.dev.faulted d 0x0102 1 0 ∧
      d.cad = { s.dev.cad with work := { s.dev.cad.work with quotaLate := true }, miss := mupd s.dev.cad.miss (missKey 3 0) (· + 1) } ∧
      d.g F.CAD_QUOTA_LATE_COUNT = (s.dev.g F.CAD_QUOTA_LATE_COUNT + 1) % 2 ^ 32 ∧ d.bal.quota = s.dev.bal.quota ∧
      s.dev.regsFault d 1 [F.CAD_QUOTA_LATE_COUNT] ∧ ({ s.dev.fresh with cad := d.cad } : Dev).onlyFaults d) ∧
  (∀ s : State, s.up → s.dev.ticking = true → s.dev.cad.work.sorted = true →
    (s.dev.cad.work.quotas = true ∨ s.dev.cad.work.quotaLate = true) → s.dev.cad.work.selected = false → s.dev.spectator = false →
    ∃ d, exec .cellSelection s = .next (s.withDev d) ∧ d.cad.work.selected = true ∧
      (∀ l, l < 64 → d.cad.work.runMask.testBit l = (s.dev.configured l && s.dev.runOk l)) ∧ d.bal.quota = s.dev.bal.quota) ∧
  (∀ s : State, s.up → s.dev.ticking = true → s.dev.cad.work.selected = true → s.dev.cad.work.launched = false →
    s.dev.cad.work.launchLate = false → 2 ≤ s.dev.redState → s.dev.spectator = false →
    ∃ d, exec .dsfLaunch s = .next (s.withDev d) ∧ d.cad.work.launched = true ∧ mget d.cad.miss (missKey 4 0) = 0 ∧
      d.out.filterMap Out.dsfLane = s.dev.enabledLanes.filter (fun l => s.dev.configured l && s.dev.laneUp l) ∧
      (s.dev.redState = 2 ∨ s.dev.redState = 3 →
        (s.dev.red.relqNext = true → d.stoodDown relqGroup) ∧
        (s.dev.red.relqNext = false → s.dev.claimDiffers = true → d.stoodDown relqClaimCheck) ∧
        (s.dev.red.relqNext = false → s.dev.claimDiffers = false → d.redState = s.dev.redState))) ∧
  (∀ s : State, s.up → s.dev.ticking = true → s.dev.cad.work.launched = false → s.dev.cad.work.launchLate = false →
    2 ≤ s.dev.redState → s.dev.spectator = false →
    ∃ d, exec .launchLate s = .next (s.withDev d) ∧ s.dev.faulted d 0x0103 1 0 ∧
      d.cad = { s.dev.cad with work := { s.dev.cad.work with launchLate := true }, miss := mupd s.dev.cad.miss (missKey 4 0) (· + 1) } ∧
      d.out.filterMap Out.dsfLane = [] ∧ (∀ l, (Out.idle l) ∈ d.out ↔
        l ∈ s.dev.enabledLanes.filter (fun l => s.dev.configured l && s.dev.laneUp l)) ∧
      d.g F.CAD_LAUNCH_LATE_COUNT = (s.dev.g F.CAD_LAUNCH_LATE_COUNT + 1) % 2 ^ 32 ∧
      s.dev.regsFault d 1 [F.CAD_LAUNCH_LATE_COUNT] ∧ ({ s.dev.fresh with cad := d.cad } : Dev).onlyFaults d) ∧
  (∀ (s : State) (stage pos : Nat), s.up → 1 ≤ stage → stage ≤ 4 → pos < 8 →
    s.dev.g F.CAD_MISS_LIMIT_LIMIT ≤ mget s.dev.cad.miss (missKey stage pos) → 1 ≤ mget s.dev.cad.miss (missKey stage pos) →
    mget s.dev.cad.missRaised (missKey stage pos) = false →
    ∃ d, exec (.missLimit stage pos) s = .next (s.withDev d) ∧
      let detail := stage + 16 * (if stage = 1 then pos else 0)
      mget d.cad.missRaised (missKey stage pos) = true ∧ (s.dev.redState ≠ 1 → d.hasCause 0x0105 detail = true) ∧
      (stage ≠ 2 ∨ s.dev.relqMask 0 = false → s.dev.faulted d 0x0105 3 detail ∧
        d.cad = { s.dev.cad with missRaised := mset s.dev.cad.missRaised (missKey stage pos) true } ∧ s.dev.regsFault d 3 [] ∧
        ({ s.dev.fresh with cad := d.cad } : Dev).onlyFaults d) ∧
      (stage = 2 → s.dev.relqMask 0 = true → (s.dev.redState = 2 ∨ s.dev.redState = 3) → d.stoodDown relqMissLimit)) ∧
  (∀ s : State, s.up → s.dev.cad.tbLocked = true →
    ∃ d, exec .tbUnlock s = .next (s.withDev d) ∧ d.cad = { s.dev.cad with tbLocked := false } ∧ d.ticking = false ∧
      d.b F.CE_STATUS_RUNNING = false ∧ (s.dev.redState ≠ 1 → d.b F.PROT_STATUS_TRIPPED = true ∧ d.hasCause 0x0106 0 = true) ∧
      (s.dev.redState = 2 ∨ s.dev.redState = 3 → d.stoodDown relqTbUnlock))

/-- O16 (R88, R238, R241, R250, R413, R419, chapter Balancing and cell insertion across the leg group). A SUMMARY of the present frame that
the lead acts on is kept for the next tick under its origin, one of another frame is in use at once; one that the head does not act on
changes no balancing state. A QUOTA that another head acts on for its present frame, before its deadline, gives the quotas in force; a
late one leaves them, and either shows the synchronization state of the lead; one that sends the group to DORMANT does so at the end of
ESTABLISH. SUPPRESS_END marks the last frame of a suppression whose zero frames have reached AV_DCF_HOLD and changes nothing else;
SUPPRESS_TIMEOUT marks it when AV_DCF_TMAX has passed without that and raises the F4 with the arm. -/
def Obligations.SummariesAndQuotasTravelAndSuppressionEnds : Prop :=
  (∀ (s : State) (h : SpanHdr) (r : Report), s.up → hdrOk h = true →
    ∃ d, exec (.summary h r) s = .next (s.withDev d) ∧
      (s.dev.actsOn spSummary h = true → s.dev.isLead = true → 1 ≤ h.origin →
        (r.frame = s.dev.cad.frame → mget d.bal.next h.origin = some r ∧ d.bal.reports = s.dev.bal.reports) ∧
        (r.frame ≠ s.dev.cad.frame → mget d.bal.reports h.origin = some r ∧ d.bal.next = s.dev.bal.next) ∧
        d.red.groupRelq = (if r.relinquished then some (s.dev.red.groupRelq.getD s.dev.cad.frame) else s.dev.red.groupRelq) ∧
        d.red.echoSeen = (s.dev.red.echoSeen || r.echo)) ∧
      (s.dev.actsOn spSummary h = false ∨ h.origin = 0 → d.bal = s.dev.bal ∧ d.red = s.dev.red)) ∧
  (∀ (s : State) (h : SpanHdr) (q : QuotaMsg), s.up → hdrOk h = true → s.dev.actsOn spQuota h = true → s.dev.isLead = false →
    let fresh : Prop := s.dev.ticking = true ∧ q.frame = s.dev.cad.frame ∧ s.dev.cad.work.quotaLate = false ∧ s.dev.cad.work.quotas = false
    let sleeps : Prop := q.dormant = true ∧ s.dev.redState = 2 ∧ (s.dev.g F.RED_STATE_PHASE = 2 ∨ s.dev.g F.RED_STATE_PHASE = 5)
    ∃ d, exec (.quota h q) s = .next (s.withDev d) ∧
      (¬ sleeps → d.red.noQuota = 0 ∧ d.g F.CAD_SYNC_STATE_STATE = q.sync % 8 ∧
        (fresh → d.bal.quota = q ∧ d.cad.work = { s.dev.cad.work with quotas := true }) ∧
        (¬ fresh → d.bal.quota = s.dev.bal.quota ∧ d.cad.work = s.dev.cad.work) ∧ (q.relinquish = true → d.red.relqNext = true)) ∧
      (sleeps → d.redState = 1 ∧ d.g F.RED_STATE_PHASE = 7)) ∧
  (∀ (s : State) (h : SpanHdr) (q : QuotaMsg), s.up → hdrOk h = true → (s.dev.actsOn spQuota h = false ∨ s.dev.isLead = true) →
    ∃ d, exec (.quota h q) s = .next (s.withDev d) ∧ d.bal = s.dev.bal ∧ d.red = s.dev.red ∧ d.cad = s.dev.cad) ∧
  (∀ (s : State) (a : Nat), s.up → a < 2 → (mget s.dev.bal.supp a).active = true → (mget s.dev.bal.supp a).last = false →
    1 ≤ (mget s.dev.bal.supp a).zero → s.dev.g F.AV_DCF_HOLD_FRAMES ≤ (mget s.dev.bal.supp a).zero →
    ∃ d, exec (.suppressEnd a) s = .next (s.withDev d) ∧ (mget d.bal.supp a).last = true ∧
      d = { s.dev.fresh with bal := { s.dev.bal with supp := mset s.dev.bal.supp a { mget s.dev.bal.supp a with last := true } } }) ∧
  (∀ (s : State) (a : Nat), s.up → a < 2 → (mget s.dev.bal.supp a).active = true → (mget s.dev.bal.supp a).last = false →
    (mget s.dev.bal.supp a).since + s.dev.g F.AV_DCF_TMAX_MS * msQ ≤ s.dev.cad.now →
    ∃ d, exec (.suppressTimeout a) s = .next (s.withDev d) ∧
      (¬ (1 ≤ (mget s.dev.bal.supp a).zero ∧ s.dev.g F.AV_DCF_HOLD_FRAMES ≤ (mget s.dev.bal.supp a).zero) →
        d.bal = { s.dev.bal with supp := mset s.dev.bal.supp a { mget s.dev.bal.supp a with last := true } } ∧
        s.dev.faulted d 0x0403 4 a ∧ s.dev.regsFault d 4 [] ∧ ({ s.dev.fresh with bal := d.bal } : Dev).onlyFaults d) ∧
      (1 ≤ (mget s.dev.bal.supp a).zero → s.dev.g F.AV_DCF_HOLD_FRAMES ≤ (mget s.dev.bal.supp a).zero → d = s.dev.fresh))

/-- O17 (R117, R129, R136, R137, R138, R139, R151, chapter Hokux Cell Link: frames, ordered sets and the cell contract). On an enabled lane
that is UP, before the gather deadline, the 64 bytes read off the line: a USF whose CRC fails counts one CRC error and changes nothing
else. After a good one in the same frame another counts one DUP. A stale sample, and a sample of another frame or epoch, count one STALE
or BAD_FRAME and leave the lane not usable. Then a changed BOOT, a cell of another type, a higher claim, an older claim, a later frame
echo and an implausible value each count under their own name and leave the lane not usable; an earlier frame echo counts one DSF_LOST and
is no bar. A USF that passes every check shows its VCAP and SAMPLE_FRAME, CLAIM_OK and no bad frames, and the lane is usable. After the
gather deadline only its sample is noted. A shorter run is discarded, a longer one counts a line error. A lane that is disabled or not UP
takes nothing. Every character that breaks the code is counted. -/
def Obligations.UpstreamFramesAreCheckedInOrder : Prop :=
  (∀ (s : State) (l : Nat) (line : Line) (bs : List Byte), s.up → l < 64 → s.dev.got l line = .run bs → bs.length = 64 →
    s.dev.b (F.HCL_PORT_CTRL_ENABLE l) = true → s.dev.laneUp l = true → usfDecode bs = none →
    ∃ d, exec (.usf l line) s = .next (s.withDev d) ∧ d.g (F.HCL_CRC_ERR_COUNT l) = (s.dev.g (F.HCL_CRC_ERR_COUNT l) + 1) % 2 ^ 32 ∧
      d.g (F.HCL_LINE_ERR_COUNT l) = (s.dev.g (F.HCL_LINE_ERR_COUNT l) + line.bads) % 2 ^ 32 ∧
      d.g (F.LANE_CODE_ERR_COUNT l) = (s.dev.g (F.LANE_CODE_ERR_COUNT l) + line.bads) % 2 ^ 32 ∧
      s.dev.regsBut d [F.HCL_CRC_ERR_COUNT l, F.HCL_LINE_ERR_COUNT l, F.LANE_CODE_ERR_COUNT l] ∧ s.dev.fresh.onlyRegs d) ∧
  (∀ (s : State) (l : Nat) (line : Line) (bs : List Byte) (u : Usf), s.up → l < 64 → s.dev.got l line = .run bs → bs.length = 64 →
    s.dev.b (F.HCL_PORT_CTRL_ENABLE l) = true → s.dev.laneUp l = true → usfDecode bs = some u →
    (s.dev.cad.work.gathered = true ∨ (s.dev.port! l).got = true) →
    ∃ d, exec (.usf l line) s = .next (s.withDev d) ∧
      d.port! l = { s.dev.port! l with sample := some (u.sampleFrame, u.sampleEpoch, s.dev.cad.now) } ∧ (∀ k, k ≠ l → d.port! k = s.dev.port! k) ∧
      d.g (F.HCL_DUP_COUNT l) = (s.dev.g (F.HCL_DUP_COUNT l) + if s.dev.cad.work.gathered then 0 else 1) % 2 ^ 32 ∧
      s.dev.regsBut d [F.HCL_DUP_COUNT l, F.HCL_LINE_ERR_COUNT l, F.LANE_CODE_ERR_COUNT l] ∧
      d = { s.dev.fresh with rf := d.rf, port := d.port }) ∧
  (∀ (s : State) (l : Nat) (line : Line) (bs : List Byte) (u : Usf), s.up → l < 64 → s.dev.got l line = .run bs → bs.length = 64 →
    s.dev.b (F.HCL_PORT_CTRL_ENABLE l) = true → s.dev.laneUp l = true → s.dev.cad.work.gathered = false → (s.dev.port! l).got = false →
    usfDecode bs = some u →
    let n := s.dev.cad.frame
    let own := s.dev.g F.RED_CLAIM_CLAIM
    let none0 : Prop := u.claimEcho = 0 ∧ u.frameEcho = 0
    let one (d : Dev) (f : Nat → Fld) : Prop := d.g (f l) = (s.dev.g (f l) + 1) % 2 ^ 32
    ∃ d, exec (.usf l line) s = .next (s.withDev d) ∧ (d.port! l).got = true ∧
      (u.sampleFrame = (n + 2 ^ 32 - 1) % 2 ^ 32 → one d F.HCL_STALE_COUNT ∧ (d.port! l).usable = false) ∧
      (u.sampleFrame ≠ (n + 2 ^ 32 - 1) % 2 ^ 32 → (u.sampleFrame ≠ n ∨ u.sampleEpoch ≠ s.dev.cad.epoch) →
        one d F.HCL_BAD_FRAME_COUNT ∧ (d.port! l).usable = false) ∧
      (u.sampleFrame = n → u.sampleEpoch = s.dev.cad.epoch → n < 2 ^ 32 →
        ((∃ b, (s.dev.port! l).boot = some b ∧ b ≠ u.status % 16) →
          one d F.HCL_REBOOT_COUNT ∧ (d.port! l).usable = false ∧ (d.port! l).boot = some (u.status % 16)) ∧
        (((s.dev.port! l).boot = none ∨ (s.dev.port! l).boot = some (u.status % 16)) →
          (u.status / 16 % 4 ≠ s.dev.g (F.HCL_PORT_CTRL_CELL_TYPE l) → one d F.HCL_TYPE_ERR_COUNT ∧ (d.port! l).usable = false) ∧
          (u.status / 16 % 4 = s.dev.g (F.HCL_PORT_CTRL_CELL_TYPE l) →
            d.b (F.HCL_PORT_STATE_CLAIM_OK l) = decide (u.claimEcho = own) ∧
            (claimHigher u.claimEcho own = true → one d F.HCL_CLAIM_HIGH_COUNT ∧ (d.port! l).usable = false ∧
              (s.dev.redState = 3 ∨ (s.dev.redState = 2 ∧ own ≠ 0) → d.stoodDown relqClaimHigh)) ∧
            (claimHigher u.claimEcho own = false → u.claimEcho ≠ own → one d F.HCL_CLAIM_LAG_COUNT ∧ (d.port! l).usable = false) ∧
            (u.claimEcho = own → claimHigher u.claimEcho own = false →
              (later u.frameEcho n = true → ¬ none0 → one d F.HCL_BAD_FRAME_COUNT ∧ (d.port! l).usable = false) ∧
              (later u.frameEcho n = false ∨ none0 →
                (later n u.frameEcho = true → ¬ none0 → one d F.HCL_DSF_LOST_COUNT) ∧
                (s.dev.implausible l u = true → one d F.HCL_IMPLAUSIBLE_COUNT ∧ (d.port! l).usable = false) ∧
                (s.dev.implausible l u = false →
                  d.g (F.HCL_PORT_VCAP_VCAP l) = u.vcap % 2 ^ 32 ∧ d.g (F.HCL_PORT_LAST_FRAME_FRAME l) = u.sampleFrame ∧
                  d.g (F.HCL_PORT_STATE_CONSEC_BAD l) = 0 ∧ (d.port! l).usable = true ∧ (d.port! l).bad = 0))))))) ∧
  (∀ (s : State) (l : Nat) (line : Line), s.up → l < 64 →
    (s.dev.b (F.HCL_PORT_CTRL_ENABLE l) = false ∨ s.dev.laneUp l = false ∨ ∃ bs, s.dev.got l line = .run bs ∧ bs.length ≠ 64) →
    ∃ d, exec (.usf l line) s = .next (s.withDev d) ∧ s.dev.fresh.onlyRegs d ∧
      d.g (F.LANE_CODE_ERR_COUNT l) = (s.dev.g (F.LANE_CODE_ERR_COUNT l) + line.bads) % 2 ^ 32 ∧
      s.dev.regsBut d [F.HCL_LINE_ERR_COUNT l, F.LANE_CODE_ERR_COUNT l] ∧
      (s.dev.laneUp l = false → d.g (F.HCL_LINE_ERR_COUNT l) = s.dev.g (F.HCL_LINE_ERR_COUNT l)) ∧
      (s.dev.laneUp l = true → s.dev.b (F.HCL_PORT_CTRL_ENABLE l) = false →
        d.g (F.HCL_LINE_ERR_COUNT l) = (s.dev.g (F.HCL_LINE_ERR_COUNT l) + line.bads) % 2 ^ 32) ∧
      (∀ bs, s.dev.laneUp l = true → s.dev.b (F.HCL_PORT_CTRL_ENABLE l) = true → s.dev.got l line = .run bs →
        d.g (F.HCL_LINE_ERR_COUNT l) = (s.dev.g (F.HCL_LINE_ERR_COUNT l) + line.bads + if 64 < bs.length then 1 else 0) % 2 ^ 32))

/-- O18 (R137, R339, R341, R343, chapter Hokux Cell Link: frames, ordered sets and the cell contract). SUSPECT_LIMIT at an enabled lane that
is UP whose bad frames have reached the limit marks the run, raises its F2 and sets the SUSPECT action 0x0204. CELL_LOST sets the lane's
BYPASS bit, counts it and raises its F2. SUSPECT_CLEAR removes exactly the SUSPECT actions with 1,024 consecutive good frames. -/
def Obligations.CellsAreSuspectLostAndCleared : Prop :=
  (∀ (s : State) (l : Nat), s.up → l < 64 → s.dev.laneUp l = true → s.dev.b (F.HCL_PORT_CTRL_ENABLE l) = true →
    (s.dev.port! l).suspectRaised = false → 1 ≤ (s.dev.port! l).bad → s.dev.g F.HCL_SUSPECT_LIMIT_LIMIT ≤ (s.dev.port! l).bad →
    ∃ d, exec (.suspectLimit l) s = .next (s.withDev d) ∧ (d.port! l).suspectRaised = true ∧
      (d.port! l).suspects = (s.dev.port! l).suspects.filter (fun a => a.src != 0x0204) ++ [⟨0x0204, 0, 0⟩] ∧
      (∀ k, k ≠ l → d.port! k = s.dev.port! k) ∧ s.dev.faulted d 0x0204 2 l ∧
      s.dev.regsFault d 2 [F.HCL_PORT_STATE_STATE l] ∧ ({ s.dev.fresh with port := d.port } : Dev).onlyFaults d) ∧
  (∀ (s : State) (l : Nat), s.up → l < 64 → s.dev.b (F.HCL_PORT_CTRL_ENABLE l) = true → (s.dev.port! l).lostRaised = false →
    1 ≤ (s.dev.port! l).bad → s.dev.g F.HCL_LOST_LIMIT_LIMIT ≤ (s.dev.port! l).bad →
    ((s.dev.port! l).ever || s.dev.eng.cellsUp) = true →
    ∃ d, exec (.cellLost l) s = .next (s.withDev d) ∧ (d.port! l).lostRaised = true ∧ d.bypassed l = true ∧
      d.g F.PROT_BYPASS_COUNT = (s.dev.g F.PROT_BYPASS_COUNT + 1) % 2 ^ 32 ∧ s.dev.faulted d 0x0606 2 l ∧
      (∀ k, k < 64 → k ≠ l → d.bypassed k = s.dev.bypassed k)) ∧
  (∀ (s : State) (l : Nat), s.up → l < 64 → (s.dev.port! l).suspects.any (fun a => decide (1024 ≤ a.good)) = true →
    ∃ d, exec (.suspectClear l) s = .next (s.withDev d) ∧
      (d.port! l).suspects = (s.dev.port! l).suspects.filter (fun a => decide (a.good < 1024)) ∧
      s.dev.regsBut d [F.HCL_PORT_STATE_STATE l] ∧ d = { s.dev.fresh with rf := d.rf, port := d.port })

/-- O19 (R163, R169, R170, R173, R180, R181, R184, R185, R186, chapter Hokux Cell Link: conversations with cells). GO with every check passed
turns a FREE slot into a QUEUED one with the request's lane and kind and counts it; a failed check shows its code and counts it. CONV_OPEN
makes the first queued slot active with the next CNUM. CONV_SEG_TIMEOUT marks the waiting segments due again, or ends the conversation
with RETX; CONV_WHOLE_TIMEOUT ends it with TIMEOUT, or with HOST_ABORT where the host has asked for that. CONV_ABORT sets ABORT;
CONV_RELEASE frees a DONE slot. REDISCOVER, DISCOVERY_DEFER and DISC_RETRY start discovery, or defer it while it cannot open; a REDISCOVER
of a lane that is disabled, not UP or being discovered is ignored (log entry 55). -/
def Obligations.ConversationsOpenTimeOutAndEnd : Prop :=
  (∀ s : State, s.up → s.dev.hostMay 0x084110 1 = true →
    let st := s.dev.openCheck (s.dev.g F.HCL_CONV_REQ_LANE) (s.dev.g F.HCL_CONV_REQ_KIND) (s.dev.g F.HCL_CONV_ARG0_ARG0)
      (s.dev.g F.HCL_CONV_ARG1_ARG1)
    ∃ d, exec .go s = .next (s.withDev d) ∧ d.g F.HCL_CONV_OPEN_RESULT_STATUS = st ∧
      (st = 0 → ∃ k, k < 128 ∧ s.dev.slotState k = 0 ∧ d.slotState k = 1 ∧ d.g F.HCL_CONV_OPEN_RESULT_SLOT = k ∧
        d.slotLane k = s.dev.g F.HCL_CONV_REQ_LANE ∧ d.slotKind k = s.dev.g F.HCL_CONV_REQ_KIND ∧
        d.g F.HCL_CONV_OPEN_COUNT = (s.dev.g F.HCL_CONV_OPEN_COUNT + 1) % 2 ^ 32 ∧
        (∀ j, j < 128 → j ≠ k → d.slotState j = s.dev.slotState j ∧ d.slotOf j = s.dev.slotOf j)) ∧
      (st ≠ 0 → let c := if st = 3 then F.HCL_CONV_NOSLOT_COUNT else if st = 4 then F.HCL_CONV_QFULL_COUNT else F.HCL_CONV_REFUSE_COUNT
        d.g c = (s.dev.g c + 1) % 2 ^ 32 ∧ s.dev.regsBut d [F.HCL_CONV_OPEN_RESULT_STATUS, c] ∧ s.dev.fresh.onlyRegs d)) ∧
  (∀ (s : State) (l k : Nat) (rest : List Nat), s.up → l < 64 → k < 128 → s.dev.activeSlot l = none → (s.dev.cl l).queue = k :: rest →
    ∃ d, exec (.convOpen l) s = .next (s.withDev d) ∧ d.activeSlot l = some k ∧ d.slotState k = 2 ∧
      d.g (F.HCL_CONV_LANE_CNUM l) = nextCnum (s.dev.cl l).cnum ∧ (d.slotOf k).cnum = nextCnum (s.dev.cl l).cnum ∧
      s.dev.regsBut d [F.HCL_CONV_LANE_CNUM l, F.HCL_CONV_LANE_ACTIVE_SLOT l, F.HCL_CONV_LANE_ACTIVE l, F.HCL_CONV_STATUS_STATE k]) ∧
  (∀ (s : State) (l k : Nat), s.up → l < 64 → k < 128 → s.dev.activeSlot l = some k →
    let out (u : Sent) : Bool := decide (s.dev.g F.HCL_SEG_TIMEOUT_FRAMES ≤ u.since) && !u.due
    let spent := (s.dev.slotOf k).unacked.any (fun u => out u && decide (s.dev.g F.HCL_RETX_LIMIT_COUNT ≤ u.resends))
    ∃ d, exec (.convSegTimeout l) s = .next (s.withDev d) ∧
      (spent = false →
        (d.slotOf k).unacked = (s.dev.slotOf k).unacked.map (fun u => if out u then { u with due := true } else u) ∧
        (∀ j, j ≠ k → d.slotOf j = s.dev.slotOf j) ∧ d = { s.dev.fresh with slot := d.slot }) ∧
      (spent = true → s.dev.slotLane k = l →
        d.g (F.HCL_CONV_STATUS_RESULT k) = resRetx ∧
        (d.cl l).oweAbort = (s.dev.cl l).oweAbort ++ [abortSeg (s.dev.slotOf k).cnum 0x0A] ∧
        d.b (F.HCL_CONV_LANE_ACTIVE l) = !s.dev.slotActive k)) ∧
  (∀ (s : State) (k : Nat), s.up → k < 128 → s.dev.slotActive k = true → 1 ≤ (s.dev.slotOf k).sndNext →
    (s.dev.slotOf k).timeout ≤ s.dev.g (F.HCL_CONV_AGE_FRAMES k) →
    let l := s.dev.slotLane k
    ∃ d, exec (.convWholeTimeout k) s = .next (s.withDev d) ∧
      (s.dev.b (F.HCL_CONV_STATUS_ABORT k) = false → d.g (F.HCL_CONV_STATUS_RESULT k) = resTimeout ∧
        (d.cl l).oweAbort = (s.dev.cl l).oweAbort ++ [abortSeg (s.dev.slotOf k).cnum 0x0C] ∧
        d.g (F.HCL_CONV_TIMEOUT_COUNT l) = (s.dev.g (F.HCL_CONV_TIMEOUT_COUNT l) + 1) % 2 ^ 32) ∧
      (s.dev.b (F.HCL_CONV_STATUS_ABORT k) = true → d.g (F.HCL_CONV_STATUS_RESULT k) = resHostAbort ∧
        (d.cl l).oweAbort = (s.dev.cl l).oweAbort ++ [abortSeg (s.dev.slotOf k).cnum 0x0D] ∧
        d.g (F.HCL_CONV_TIMEOUT_COUNT l) = s.dev.g (F.HCL_CONV_TIMEOUT_COUNT l))) ∧
  (∀ (s : State) (k : Nat), s.up → k < 128 → s.dev.hostMay (0x085000 + 4 * k) (2 ^ 30) = true → s.dev.slotState k ≠ 0 →
    s.dev.slotState k ≠ 5 →
    ∃ d, exec (.convAbort k) s = .next (s.withDev d) ∧ d.b (F.HCL_CONV_STATUS_ABORT k) = true ∧
      s.dev.regsBut d [F.HCL_CONV_STATUS_ABORT k] ∧ s.dev.fresh.onlyRegs d) ∧
  (∀ (s : State) (k : Nat), s.up → k < 128 → s.dev.hostMay (0x085000 + 4 * k) (2 ^ 31) = true → s.dev.slotState k = 5 →
    ∃ d, exec (.convRelease k) s = .next (s.withDev d) ∧ d.slotState k = 0 ∧ d.slotOf k = default ∧
      d.g F.HCL_CONV_SLOTS_FREE = (s.dev.g F.HCL_CONV_SLOTS_FREE + 1) % 2 ^ 8 ∧
      s.dev.regsBut d [F.HCL_CONV_STATUS_STATE k, F.HCL_CONV_STATUS_ABORT k, F.HCL_CONV_SLOTS_FREE, F.HCL_CONV_SLOTS_DONE,
        F.HCL_CONV_SLOTS_POOL_FREE]) ∧
  (∀ (s : State) (l : Nat), s.up → l < 64 → s.dev.hostMay (0x080084 + 0x100 * l) 1 = true →
    ∃ d, exec (.rediscover l) s = .next (s.withDev d) ∧
      (s.dev.b (F.HCL_PORT_CTRL_ENABLE l) = true → s.dev.laneUp l = true → s.dev.disc l ≠ 2 → s.dev.discStarts d l) ∧
      (s.dev.b (F.HCL_PORT_CTRL_ENABLE l) = false ∨ s.dev.laneUp l = false ∨ s.dev.disc l = 2 → d = s.dev.fresh)) ∧
  (∀ (s : State) (l : Nat), s.up → l < 64 → (s.dev.cl l).deferred = true → s.dev.disc l = 1 → s.dev.freeSlots ≠ [] →
    ∃ d, exec (.discoveryDefer l) s = .next (s.withDev d) ∧ s.dev.discStarts d l) ∧
  (∀ (s : State) (l : Nat), s.up → l < 64 → (s.dev.cl l).deferred = false → s.dev.disc l = 1 → (s.dev.cl l).retry = 0 →
    s.dev.laneUp l = true → ∃ d, exec (.discRetry l) s = .next (s.withDev d) ∧ s.dev.discStarts d l)

/-- O20 (R291, chapter Measurement: fast sense, metrology and capture). With FS_TEST_FAIL_LIMIT consecutive failures shown for channel k,
TEST_FAIL sets bit k of FS_STATUS.TEST_FAIL; with four consecutive passes, one at each level, TEST_FAIL_CLEAR clears it. Every other
channel's bit, every other register and everything else is unchanged. -/
def Obligations.ChannelTestsSetAndClearTheirBit : Prop :=
  (∀ (s : State) (k : Nat), s.up → k < 16 → 1 ≤ s.dev.g (F.FS_TEST_RESULT_CONSEC k) →
    s.dev.g F.FS_TEST_FAIL_LIMIT_COUNT ≤ s.dev.g (F.FS_TEST_RESULT_CONSEC k) →
    ∃ d, exec (.testFail k) s = .next (s.withDev d) ∧ (d.g F.FS_STATUS_TEST_FAIL).testBit k = true ∧
      (∀ j, j < 16 → j ≠ k → (d.g F.FS_STATUS_TEST_FAIL).testBit j = (s.dev.g F.FS_STATUS_TEST_FAIL).testBit j) ∧
      s.dev.regsBut d [F.FS_STATUS_TEST_FAIL] ∧ s.dev.fresh.onlyRegs d) ∧
  (∀ (s : State) (k : Nat), s.up → k < 16 → fourLevels (mget s.dev.fs.passRun k) = true →
    ∃ d, exec (.testFailClear k) s = .next (s.withDev d) ∧ (d.g F.FS_STATUS_TEST_FAIL).testBit k = false ∧
      (∀ j, j < 16 → j ≠ k → (d.g F.FS_STATUS_TEST_FAIL).testBit j = (s.dev.g F.FS_STATUS_TEST_FAIL).testBit j) ∧
      s.dev.regsBut d [F.FS_STATUS_TEST_FAIL] ∧ s.dev.fresh.onlyRegs d)

/-- O21 (R293, R294, R296, R297, R298, R299, R301, chapter Measurement: fast sense, metrology and capture). GO to a converter that is not busy
sets BUSY and GO and latches the METROLOGY members in force; to a busy one it counts one overrun. MET_INTEGRATION_START starts the waiting
conversion at its reference edge, the two of an energy pair together, and does nothing where none has come. MET_CONVERSION_END shows the
clamped code, FULL, OVR, VALID, the frame and one result more, and under CONT begins the next integration at the same edge. NOREF after 25
ms shows NOREF and not VALID. The first LSYNC edge is remembered, one within 45 to 65 Hz is accepted, any other is counted; 25 ms without
one clears LSYNC_OK. -/
def Obligations.MetrologyConvertsOncePerGo : Prop :=
  (∀ (s : State) (c t : Nat), s.up → c < 4 → s.dev.hostMay 0x101024 (2 ^ c) = true →
    (s.dev.metBusy c = false →
      ∃ d, exec (.metGo c t) s = .next (s.withDev d) ∧ d.metBusy c = true ∧ (d.g F.MET_GO_GO).testBit c = true ∧
        (d.metOf c).mem = s.dev.metMem c ∧ (d.metOf c).goAt = s.dev.clockAt t ∧
        (d.metOf c).start = (if s.dev.g (F.MET_CTRL_REFSEL c) = 2 then some (s.dev.clockAt t) else none) ∧
        (∀ j, j < 4 → j ≠ c → d.metBusy j = s.dev.metBusy j ∧ d.metOf j = s.dev.metOf j) ∧
        s.dev.regsBut d [F.MET_STATUS_BUSY, F.MET_GO_GO] ∧ d = { s.dev.fresh.at t with rf := d.rf, met := d.met }) ∧
    (s.dev.metBusy c = true →
      ∃ d, exec (.metGo c t) s = .next (s.withDev d) ∧
        d.g (F.MET_GO_OVERRUN_COUNT c) = (s.dev.g (F.MET_GO_OVERRUN_COUNT c) + 1) % 2 ^ 32 ∧
        s.dev.regsBut d [F.MET_GO_OVERRUN_COUNT c] ∧ (s.dev.fresh.at t).onlyRegs d)) ∧
  (∀ (s : State) (c : Nat), s.up → c < 4 →
    ∃ d, exec (.metIntegrationStart c) s = .next (s.withDev d) ∧ d = { s.dev.fresh with met := { s.dev.met with conv := d.met.conv } } ∧
      ∀ x, x < 4 →
        let waits : Prop := (x = c ∨ (s.dev.b F.MET_STATUS_ENERGY = true ∧ c < 2 ∧ x < 2)) ∧ s.dev.metBusy x = true ∧ (s.dev.metOf x).start = none
        (∀ t, waits → s.dev.metRefEdge (s.dev.metOf x) = some t →
          d.metOf x = { s.dev.metOf x with start := some t, edges := 0, idle := false, off0 := s.dev.cad.off }) ∧
        (¬ waits ∨ s.dev.metRefEdge (s.dev.metOf x) = none → d.metOf x = s.dev.metOf x)) ∧
  (∀ (s : State) (c t e b : Nat) (x : Int) (ovr : Bool), s.up → c < 4 → s.dev.metBusy c = true → (s.dev.metOf c).start = some b →
    metEndOf (s.dev.metOf c) (s.dev.clockAt t) = some e →
    ∃ d, exec (.metConversionEnd c t x ovr) s = .next (s.withDev d) ∧
      d.gs (F.MET_RESULT_CODE c) = clampInt x (-8388608) 8388607 ∧
      d.b (F.MET_RESULT_FULL c) = decide (x < -8388608 ∨ 8388607 < x) ∧ d.b (F.MET_RESULT_OVR c) = ovr ∧
      d.b (F.MET_RESULT_NOREF c) = false ∧ d.b (F.MET_RESULT_VALID c) = (decide (-8388608 ≤ x ∧ x ≤ 8388607) && !ovr) ∧
      d.g (F.MET_RESULT_FRAME_FRAME c) = s.dev.cad.frame % 2 ^ 32 ∧
      d.g (F.MET_RESULT_COUNT c) = (s.dev.g (F.MET_RESULT_COUNT c) + 1) % 2 ^ 32 ∧
      ((s.dev.metOf c).mem.cont = false → d.metBusy c = false) ∧
      ((s.dev.metOf c).mem.cont = true → (s.dev.metOf c).next = none → s.dev.b (F.MET_CTRL_CONT c) = true → s.dev.met.stopping = false →
        d.metBusy c = true ∧ (d.metOf c).start = some e ∧ (d.metOf c).mem = s.dev.metMem c)) ∧
  (∀ (s : State) (c t : Nat), s.up → c < 4 → s.dev.metBusy c = true → (s.dev.metOf c).mem.refsel = 0 → (s.dev.metOf c).idle = false →
    s.dev.b F.MET_STATUS_LSYNC_OK = false →
    max (s.dev.met.lsyncAccepted.getD 0) (s.dev.metOf c).goAt + 100000000 < s.dev.clockAt t →
    ∃ d, exec (.noref c t) s = .next (s.withDev d) ∧ d.b (F.MET_RESULT_NOREF c) = true ∧ d.b (F.MET_RESULT_VALID c) = false ∧
      d.g F.MET_NOREF_COUNT = (s.dev.g F.MET_NOREF_COUNT + 1) % 2 ^ 32 ∧
      ((s.dev.metOf c).mem.cont = false → d.metBusy c = false) ∧
      ((s.dev.metOf c).mem.cont = true → s.dev.b (F.MET_CTRL_CONT c) = true → s.dev.met.stopping = false →
        d.metBusy c = true ∧ (d.metOf c).start = none ∧ (d.metOf c).idle = true)) ∧
  (∀ (s : State) (t : Nat), s.up → s.dev.met.lsyncPrev = none →
    ∃ d, exec (.lsyncEdge t) s = .next (s.withDev d) ∧ d.met = { s.dev.met with lsyncPrev := some (s.dev.clockAt t), lsyncRun := 0 } ∧
      d = { s.dev.fresh.at t with met := d.met }) ∧
  (∀ (s : State) (t p : Nat), s.up → s.dev.met.lsyncPrev = some p →
    let dt := s.dev.clockAt t - p
    ((61520000 ≤ dt ∧ dt ≤ 88880000) →
      ∃ d, exec (.lsyncEdge t) s = .next (s.withDev d) ∧ d.met.lsyncAccepted = some (s.dev.clockAt t) ∧
        d.met.lsyncPrev = some (s.dev.clockAt t) ∧
        d.met.lsyncRun = s.dev.met.lsyncRun + 1 ∧ (1 ≤ s.dev.met.lsyncRun → d.b F.MET_STATUS_LSYNC_OK = true) ∧
        s.dev.regsBut d [F.MET_STATUS_LSYNC_OK, F.MET_LSYNC_PERIOD_US] ∧ d = { s.dev.fresh.at t with rf := d.rf, met := d.met }) ∧
    ((dt < 61520000 ∨ 88880000 < dt) →
      ∃ d, exec (.lsyncEdge t) s = .next (s.withDev d) ∧
        d.g F.MET_LSYNC_REJECT_COUNT = (s.dev.g F.MET_LSYNC_REJECT_COUNT + 1) % 2 ^ 32 ∧
        d.met = { s.dev.met with lsyncPrev := some (s.dev.clockAt t), lsyncRun := 0 } ∧ s.dev.regsBut d [F.MET_LSYNC_REJECT_COUNT])) ∧
  (∀ (s : State) (t : Nat), s.up → s.dev.b F.MET_STATUS_LSYNC_OK = true →
    s.dev.met.lsyncAccepted.getD 0 + 100000000 ≤ s.dev.clockAt t →
    ∃ d, exec (.lsyncLoss t) s = .next (s.withDev d) ∧ d.b F.MET_STATUS_LSYNC_OK = false ∧
      d.met = { s.dev.met with lsyncPrev := none, lsyncRun := 0 } ∧ s.dev.regsBut d [F.MET_STATUS_LSYNC_OK])

/-- O22 (R289, R306, R307, chapter Measurement: fast sense, metrology and capture). ARM written while it reads 0 empties the recorder, sets
ARM and enters ARMED; nothing else changes, and while it reads 1 nothing does. TRIGGER, and a delivered code of the channel CAP_LEVEL
names that meets its level while TRIG_LEVEL is set, take an ARMED recorder to TRIGGERED with their source; a host trigger in any other
state is counted as ignored, and a code of another channel or short of the level leaves the recorder as it is. CAP_DONE of a TRIGGERED
recorder with no sample left enters DONE and clears ARM. -/
def Obligations.RecorderArmsTriggersAndIsDone : Prop :=
  (∀ s : State, s.up → s.dev.hostMay 0x102008 1 = true →
    (s.dev.b F.CAP_CMD_ARM = false →
      ∃ d, exec .capArm s = .next (s.withDev d) ∧ d.b F.CAP_CMD_ARM = true ∧ d.g F.CAP_STATE_STATE = 1 ∧ d.cap.samples = [] ∧
        d.cap.acc = [] ∧ s.dev.regsBut d [F.CAP_CMD_ARM, F.CAP_STATE_STATE] ∧ d = { s.dev.fresh with rf := d.rf, cap := d.cap }) ∧
    (s.dev.b F.CAP_CMD_ARM = true → exec .capArm s = .next (s.withDev s.dev.fresh))) ∧
  (∀ s : State, s.up → s.dev.hostMay 0x102008 2 = true →
    (s.dev.g F.CAP_STATE_STATE = 1 →
      ∃ d, exec .capTrigger s = .next (s.withDev d) ∧ d.g F.CAP_STATE_STATE = 2 ∧ d.g F.CAP_STATE_SOURCE = 0 ∧
        d.cap.samples = s.dev.cap.samples ∧ s.dev.regsBut d [F.CAP_STATE_STATE, F.CAP_STATE_SOURCE, F.CAP_STATE_PRE_VALID,
          F.CAP_TRIG_FRAME_FRAME, F.CAP_TRIG_SLOT_SLOT] ∧ d = { s.dev.fresh with rf := d.rf, cap := d.cap }) ∧
    (s.dev.g F.CAP_STATE_STATE ≠ 1 →
      ∃ d, exec .capTrigger s = .next (s.withDev d) ∧ d.g F.CAP_IGNORED_COUNT = (s.dev.g F.CAP_IGNORED_COUNT + 1) % 2 ^ 32 ∧
        s.dev.regsBut d [F.CAP_IGNORED_COUNT] ∧ s.dev.fresh.onlyRegs d)) ∧
  (∀ (s : State) (k t : Nat) (code : Int), s.up → k < 16 → s.dev.b F.CAP_CTRL_TRIG_LEVEL = true → k = s.dev.g F.CAP_LEVEL_CHANNEL →
    s.dev.b (F.PROT_CH_STATE_SUBST k) = false → s.dev.delivers k (s.dev.clockAt t) →
    let lv := sgn 16 (s.dev.g F.CAP_LEVEL_LEVEL)
    let met : Prop := if s.dev.b F.CAP_LEVEL_ABOVE then lv ≤ code else code ≤ lv
    ∃ d, exec (.capLevelTrigger ⟨k, code, t⟩) s = .next (s.withDev d) ∧
      d = { s.dev.fresh.at t with rf := d.rf, cap := d.cap, fs := { s.dev.fs with heard := d.fs.heard } } ∧
      (met → s.dev.g F.CAP_STATE_STATE = 1 → d.g F.CAP_STATE_STATE = 2 ∧ d.g F.CAP_STATE_SOURCE = 3 ∧ d.cap.samples = s.dev.cap.samples) ∧
      (met → 2 ≤ s.dev.g F.CAP_STATE_STATE → d.g F.CAP_IGNORED_COUNT = (s.dev.g F.CAP_IGNORED_COUNT + 1) % 2 ^ 32 ∧
        s.dev.regsBut d [F.CAP_IGNORED_COUNT] ∧ d.cap = s.dev.cap) ∧
      (¬ met → d.rf = s.dev.rf ∧ d.cap = s.dev.cap)) ∧
  (∀ (s : State) (k t : Nat) (code : Int), s.up → k < 16 → (s.dev.b F.CAP_CTRL_TRIG_LEVEL = false ∨ k ≠ s.dev.g F.CAP_LEVEL_CHANNEL) →
    exec (.capLevelTrigger ⟨k, code, t⟩) s = .next (s.withDev (s.dev.fresh.at t))) ∧
  (∀ s : State, s.up → s.dev.g F.CAP_STATE_STATE = 2 → s.dev.cap.left = 0 →
    ∃ d, exec .capDone s = .next (s.withDev d) ∧ d.g F.CAP_STATE_STATE = 3 ∧ d.b F.CAP_CMD_ARM = false ∧
      s.dev.regsBut d [F.CAP_STATE_STATE, F.CAP_CMD_ARM] ∧ d = { s.dev.fresh with rf := d.rf, cap := d.cap })

/-- O23 (R324, R329, R344, R416, chapter Protection and fault handling). For every head that is not DORMANT and every fault r of class 0 to 4:
its class counter counts one; a class of 3 or more sets both latches and HOLD, and sends SHUTTER on the cell lanes; class 4 sets TRIPPED;
the record joins the back of the queue of its source, or counts as lost where eight wait. A DORMANT head keeps the fault in its list of
deferred faults and changes nothing else. -/
def Obligations.RaisingAFaultCountsActsAndQueues : Prop :=
  (∀ (d : Dev) (r : Raise), d.redState ≠ 1 → r.cls ≤ 4 →
    (d.raise r).g (F.PROT_CLASS_COUNT r.cls) = (d.g (F.PROT_CLASS_COUNT r.cls) + 1) % 2 ^ 32 ∧
    (3 ≤ r.cls → (d.raise r).b F.PROT_STATUS_LATCHED0 = true ∧ (d.raise r).b F.PROT_STATUS_LATCHED1 = true ∧
      (d.raise r).b F.PROT_STATUS_HOLD = true ∧
      (2 ≤ d.redState → Out.shutter d.claimSent (r.reason * 32 + d.pos) ∈ (d.raise r).out)) ∧
    (r.cls = 4 → (d.raise r).b F.PROT_STATUS_TRIPPED = true) ∧
    (r.cls < 3 → (d.raise r).b F.PROT_STATUS_LATCHED0 = d.b F.PROT_STATUS_LATCHED0 ∧
      (d.raise r).b F.PROT_STATUS_LATCHED1 = d.b F.PROT_STATUS_LATCHED1 ∧ (d.raise r).out = d.out) ∧
    ((mget d.prot.fq (queueOf r.src)).length < 8 →
      ∃ e : FqEntry, mget (d.raise r).prot.fq (queueOf r.src) = mget d.prot.fq (queueOf r.src) ++ [e] ∧ e.src = r.src ∧
        e.cls = r.cls ∧ e.frame = d.cad.frame ∧ e.epoch = d.cad.epoch ∧ e.value = r.value) ∧
    (8 ≤ (mget d.prot.fq (queueOf r.src)).length → (d.raise r).prot.fq = d.prot.fq ∧
      (d.raise r).g F.PROT_QUEUE_LOST_COUNT = (d.g F.PROT_QUEUE_LOST_COUNT + 1) % 2 ^ 32)) ∧
  (∀ (d : Dev) (r : Raise), d.redState = 1 →
    d.raise r = { d with red := { d.red with deferred := d.red.deferred ++ [r] } })

/-- O24 (R289, R315, R316, R318, R319, R324, R336, chapter Protection and fault handling). A hard comparator that goes beyond its window sets
HARD, counts one, latches both arms and sends the Shutter; while it stays beyond nothing more happens; inside the window HARD clears. On
the codes that are delivered, a soft detection at its filter count outside blanking counts one and latches; inside blanking it is held
PENDING and counted, and nothing is latched; short of the count it only counts the code, and a code inside the window ends the run. A
substituted channel compares once a frame. At the first code outside blanking, or 4 us on, a pending detection acts when the code is
beyond the window, else it is dropped and counted. -/
def Obligations.ComparatorsDetectConfirmAndDrop : Prop :=
  (∀ (s : State) (k t : Nat) (code : Int), s.up → k < 16 →
    (∀ hi, s.dev.beyondHard k code = some hi → s.dev.b (F.PROT_CH_STATE_HARD k) = false →
      ∃ d, exec (.hardOc k code t) s = .next (s.withDev d) ∧ d.b (F.PROT_CH_STATE_HARD k) = true ∧
        d.g (F.PROT_HARD_COUNT k) = (s.dev.g (F.PROT_HARD_COUNT k) + 1) % 2 ^ 32 ∧ (d.chan k).hard = some ⟨s.dev.clockAt t, hi⟩ ∧
        (s.dev.redState ≠ 1 → d.latched = true ∧ d.hasCause 0x0601 k = true) ∧
        (2 ≤ s.dev.redState → Out.shutter s.dev.claimSent (reasonHard * 32 + s.dev.pos) ∈ d.out)) ∧
    (∀ hi, s.dev.beyondHard k code = some hi → s.dev.b (F.PROT_CH_STATE_HARD k) = true →
      exec (.hardOc k code t) s = .next (s.withDev (s.dev.fresh.at t))) ∧
    (s.dev.beyondHard k code = none →
      ∃ d, exec (.hardOc k code t) s = .next (s.withDev d) ∧ d.b (F.PROT_CH_STATE_HARD k) = false ∧ d.out = [] ∧
        d.hasCause 0x0601 k = false ∧ d.g (F.PROT_HARD_COUNT k) = s.dev.g (F.PROT_HARD_COUNT k) ∧ d.prot.chan = s.dev.prot.chan)) ∧
  (∀ (s : State) (k t : Nat) (code : Int), s.up → k < 16 → s.dev.b (F.PROT_CH_STATE_SUBST k) = false →
    s.dev.delivers k (s.dev.clockAt t) →
    let now := s.dev.clockAt t
    let c := s.dev.chan k
    let full : Prop := c.taken = false ∧ s.dev.g (F.PROT_SOFT_CTRL_FILTER k) ≤ c.beyond + 1
    ∃ d, exec (.softOc k code t) s = .next (s.withDev d) ∧ d.b (F.PROT_CH_STATE_BLANKED k) = s.dev.blanked k now ∧
      (s.dev.beyondSoft k code = none → d.b (F.PROT_CH_STATE_SOFT k) = false ∧ (d.chan k).beyond = 0 ∧ (d.chan k).taken = false ∧
        d.hasCause 0x0602 k = false ∧ d.out = []) ∧
      (∀ hi, s.dev.beyondSoft k code = some hi → d.b (F.PROT_CH_STATE_SOFT k) = true ∧ (d.chan k).beyond = c.beyond + 1 ∧
        (¬ full → (d.chan k).taken = c.taken ∧ d.out = [] ∧ s.dev.regsBut d [F.PROT_CH_STATE_SOFT k, F.PROT_CH_STATE_BLANKED k]) ∧
        (full → s.dev.blanked k now = false → c.pend = none →
          d.g (F.PROT_SOFT_COUNT k) = (s.dev.g (F.PROT_SOFT_COUNT k) + 1) % 2 ^ 32 ∧ (d.chan k).soft = some ⟨now, hi⟩ ∧
          (s.dev.redState ≠ 1 → d.latched = true ∧ d.hasCause 0x0602 k = true)) ∧
        (full → s.dev.blanked k now = true →
          d.b (F.PROT_CH_STATE_PENDING k) = true ∧ d.g (F.PROT_PEND_COUNT k) = (s.dev.g (F.PROT_PEND_COUNT k) + 1) % 2 ^ 32 ∧
          (d.chan k).pend = some (c.pend.getD ⟨now, hi⟩) ∧ d.out = [] ∧
          s.dev.regsBut d [F.PROT_CH_STATE_PENDING k, F.PROT_PEND_COUNT k, F.PROT_CH_STATE_SOFT k, F.PROT_CH_STATE_BLANKED k]))) ∧
  (∀ (s : State) (k t : Nat) (code : Int), s.up → k < 16 → s.dev.b (F.PROT_CH_STATE_SUBST k) = true →
    (s.dev.chan k).estAt = some s.dev.cad.tickAt → exec (.softOc k code t) s = .next (s.withDev (s.dev.fresh.at t))) ∧
  (∀ (s : State) (k t : Nat) (code : Int) (x : Det), s.up → k < 16 → s.dev.b (F.PROT_CH_STATE_SUBST k) = false →
    s.dev.delivers k (s.dev.clockAt t) → (s.dev.chan k).pend = some x →
    let now := s.dev.clockAt t
    ∃ d, exec (.pendingEvaluate k code t) s = .next (s.withDev d) ∧
      (s.dev.blanked k now = true → now < x.t + 16000 → (d.chan k) = s.dev.chan k ∧ d.rf = s.dev.rf ∧ d.out = []) ∧
      (s.dev.blanked k now = false ∨ x.t + 16000 ≤ now →
        d.b (F.PROT_CH_STATE_PENDING k) = false ∧ (d.chan k).pend = none ∧
        (s.dev.beyondSoft k code = none → d.g (F.PROT_PEND_DROP_COUNT k) = (s.dev.g (F.PROT_PEND_DROP_COUNT k) + 1) % 2 ^ 32 ∧
          d.out = [] ∧ s.dev.regsBut d [F.PROT_CH_STATE_PENDING k, F.PROT_PEND_DROP_COUNT k]) ∧
        ((s.dev.beyondSoft k code).isSome = true → (d.chan k).soft = some x ∧
          d.g (F.PROT_SOFT_COUNT k) = (s.dev.g (F.PROT_SOFT_COUNT k) + 1) % 2 ^ 32 ∧ (s.dev.redState ≠ 1 → d.latched = true))))

/-- O25 (R29, R135, R323, R324, R325, R326, R327, R328, R341, R347, chapter Protection and fault handling). The first copy of a good SHUTTER
from the span sets both latches and is sent on unchanged, to the cells and round the ring; the second, which comes by the other bundle, is
discarded, and a failing one does nothing. Host Shutters latch with HOST_HELD. RELEASE sets its bit. RELEASE_APPLY at the named frame
clears LATCHED0, LATCHED1, DCSIDE and HOST_HELD, or where the release is void counts it and clears none. F4_RESET with its key waits for
the cut-off, or without ticks is refused and counted. UNPIN clears the pin of one record, UNPIN_ALL of every one; CLEAR_BYPASS clears the
bit of the selected lane. -/
def Obligations.ShutterReleaseAndHostCommands : Prop :=
  (∀ (s : State) (ln : Nat) (line : Line) (c : List Byte), s.up → ln < 72 → s.dev.got ln line = .ordered 0xE1 c → c.length = 6 →
    orderedOk 0xE1 c = true →
    let x : ShutCopy := ⟨beAt c 0 4, beAt c 4 1, some (decide (67 ≤ ln)), s.dev.cad.frame⟩
    ∃ d, exec (.spanShutter ⟨ln, line⟩) s = .next (s.withDev d) ∧
      (s.dev.prot.copies.any (fun y => y.matches x) = false →
        d.latched = true ∧ d.prot.lastShutter = some s.dev.cad.frame ∧
        (2 ≤ s.dev.redState → Out.shutter (beAt c 0 4) (beAt c 4 1) ∈ d.out) ∧
        (1 < s.dev.conf.heads → Out.spanShutter (beAt c 0 4) (beAt c 4 1) ∈ d.out)) ∧
      (s.dev.prot.copies.any (fun y => y.matches x) = true → d.out = [] ∧ d.b F.PROT_STATUS_LATCHED0 = s.dev.b F.PROT_STATUS_LATCHED0 ∧
        d.b F.PROT_STATUS_LATCHED1 = s.dev.b F.PROT_STATUS_LATCHED1 ∧ d.prot.lastShutter = s.dev.prot.lastShutter)) ∧
  (∀ (s : State) (ln : Nat) (line : Line), s.up → ln < 72 →
    (∀ c, s.dev.got ln line = .ordered 0xE1 c → c.length ≠ 6 ∨ orderedOk 0xE1 c = false) →
    ∃ d, exec (.spanShutter ⟨ln, line⟩) s = .next (s.withDev d) ∧ s.dev.fresh.onlyRegs d ∧ d.out = [] ∧
      s.dev.regsBut d [F.LANE_CODE_ERR_COUNT ln, F.HCL_LINE_ERR_COUNT ln]) ∧
  (∀ s : State, s.up → s.dev.redState ≠ 1 →
    (s.dev.hostMay 0x103444 1 = true →
      ∃ d, exec .hostShutter s = .next (s.withDev d) ∧ d.b F.PROT_STATUS_LATCHED0 = true ∧ d.b F.PROT_STATUS_LATCHED1 = true ∧
        d.b F.PROT_STATUS_HOST_HELD = true ∧ d.g (F.PROT_CLASS_COUNT 3) = (s.dev.g (F.PROT_CLASS_COUNT 3) + 1) % 2 ^ 32) ∧
    (s.dev.hostMay 0x160608 2 = true →
      ∃ d, exec .avHostShutter s = .next (s.withDev d) ∧ d.b F.PROT_STATUS_LATCHED0 = true ∧ d.b F.PROT_STATUS_LATCHED1 = true ∧
        d.b F.PROT_STATUS_HOST_HELD = true ∧ d.g (F.PROT_CLASS_COUNT 3) = (s.dev.g (F.PROT_CLASS_COUNT 3) + 1) % 2 ^ 32)) ∧
  (∀ s : State, s.up → s.dev.hostMay 0x160608 1 = true →
    ∃ d, exec .release s = .next (s.withDev d) ∧ d.b F.AV_PROT_CMD_RELEASE = true ∧ s.dev.regsBut d [F.AV_PROT_CMD_RELEASE] ∧
      s.dev.fresh.onlyRegs d) ∧
  (∀ s : State, s.up → s.dev.prot.relF = some s.dev.cad.frame →
    ∃ d, exec .releaseApply s = .next (s.withDev d) ∧ d.prot.relF = none ∧ d.b F.AV_PROT_STATUS_RELEASE_NAMED = false ∧
      (s.dev.releaseVoid s.dev.cad.frame = false → d.b F.PROT_STATUS_LATCHED0 = false ∧ d.b F.PROT_STATUS_LATCHED1 = false ∧
        d.b F.PROT_STATUS_DCSIDE = false ∧ d.b F.PROT_STATUS_HOST_HELD = false ∧ d.prot.relDone = some s.dev.cad.frame ∧
        (s.dev.prot.relInit = true → d.g F.CE_INIT_COUNT = (s.dev.g F.CE_INIT_COUNT + 1) % 2 ^ 32)) ∧
      (s.dev.releaseVoid s.dev.cad.frame = true →
        d.g F.PROT_RELEASE_VOID_COUNT = (s.dev.g F.PROT_RELEASE_VOID_COUNT + 1) % 2 ^ 32 ∧
        s.dev.regsBut d [F.PROT_RELEASE_VOID_COUNT, F.AV_PROT_STATUS_RELEASE_NAMED])) ∧
  (∀ s : State, s.up → s.dev.hostMay 0x103444 2 = true → s.dev.g F.PROT_RESET_KEY_KEY = 0xF4A5 →
    (s.dev.ticking = true →
      ∃ d, exec .f4Reset s = .next (s.withDev d) ∧ d.b F.PROT_CMD_F4_RESET = true ∧ d.prot.f4Due = true ∧
        s.dev.regsBut d [F.PROT_CMD_F4_RESET]) ∧
    (s.dev.ticking = false →
      ∃ d, exec .f4Reset s = .next (s.withDev d) ∧ d.g F.PROT_RESET_KEY_KEY = 0 ∧
        d.g F.PROT_RESET_REFUSE_COUNT = (s.dev.g F.PROT_RESET_REFUSE_COUNT + 1) % 2 ^ 32 ∧
        s.dev.regsBut d [F.PROT_RESET_KEY_KEY, F.PROT_CMD_F4_RESET, F.PROT_RESET_REFUSE_COUNT])) ∧
  (∀ s : State, s.up → s.dev.hostMay 0x103444 4 = true →
    let i := s.dev.g F.PROT_SEL_INDEX
    ∃ d, exec .unpin s = .next (s.withDev d) ∧ mget d.prot.ring i = (mget s.dev.prot.ring i).map (fun r => { r with pinned := false }) ∧
      (∀ j, j ≠ i → mget d.prot.ring j = mget s.dev.prot.ring j) ∧ d = { s.dev.fresh with prot := { s.dev.prot with ring := d.prot.ring } }) ∧
  (∀ s : State, s.up → s.dev.hostMay 0x103444 8 = true →
    ∃ d, exec .unpinAll s = .next (s.withDev d) ∧
      (∀ i, i < 256 → mget d.prot.ring i = (mget s.dev.prot.ring i).map (fun r => { r with pinned := false })) ∧
      d = { s.dev.fresh with prot := { s.dev.prot with ring := d.prot.ring } }) ∧
  (∀ s : State, s.up → s.dev.hostMay 0x103444 16 = true →
    ((s.dev.port! (s.dev.g F.PROT_SEL_LANE)).status.testBit 9 = false →
      ∃ d, exec .clearBypass s = .next (s.withDev d) ∧ d.bypassed (s.dev.g F.PROT_SEL_LANE) = false ∧
        (∀ l, l < 64 → l ≠ s.dev.g F.PROT_SEL_LANE → d.bypassed l = s.dev.bypassed l) ∧
        s.dev.regsBut d [F.PROT_BYPASS_LO_MASK, F.PROT_BYPASS_HI_MASK] ∧ s.dev.fresh.onlyRegs d) ∧
    ((s.dev.port! (s.dev.g F.PROT_SEL_LANE)).status.testBit 9 = true → exec .clearBypass s = .next (s.withDev s.dev.fresh)))

/-- O26 (R334, R337, R338, R340, R342, R344, R345, R346, chapter Protection and fault handling). The fault engine takes the front entry of the
next queue that holds one: a record of it with the present SEQ stands in the ring, and SEQ counts on; an F3 or F4 whose head finds its
claim copies differing makes it stand down. SENSOR_SUBST of a failed ARM channel sets SUBST and raises its F1 DERATE; SENSOR_TIMEOUT
raises an F4 once PROT_EST_LIMIT frames are substituted; SENSOR_RESTORE clears SUBST. BLOCK_END removes the BLOCK actions with 1,024 good
frames; DX_NO_RES sets the lane's BYPASS bit and counts. -/
def Obligations.FaultEngineRecordsAndSensorsAreSubstituted : Prop :=
  (∀ (s : State) (q : Nat) (e : FqEntry) (rest : List FqEntry), s.up → nextQueue s.dev.prot.fq s.dev.prot.fqNext = some q →
    mget s.dev.prot.fq q = e :: rest →
    ∃ d, exec .faultEngineTake s = .next (s.withDev d) ∧ d.prot.seq = (s.dev.prot.seq + 1) % 2 ^ 32 ∧
      (∃ r, mget d.prot.ring (ringSlot s.dev.prot.ring s.dev.prot.ringIdx) = some r ∧ r.seq = s.dev.prot.seq ∧ r.src = e.src ∧
        r.cls = e.cls ∧ r.frame = e.frame ∧ r.detail = e.detail ∧ r.value = e.value) ∧
      (3 ≤ e.cls → s.dev.claimDiffers = true → (s.dev.redState = 2 ∨ s.dev.redState = 3) → d.stoodDown relqClaimCheck)) ∧
  (∀ (s : State) (k : Nat), s.up → k < 16 → (s.dev.role k = 1 ∨ s.dev.role k = 2) →
    ((s.dev.g F.FS_STATUS_TEST_FAIL).testBit k = true ∨ 16 ≤ (s.dev.chan k).differ) → s.dev.b (F.PROT_CH_STATE_SUBST k) = false →
    ∃ d, exec (.sensorSubst k) s = .next (s.withDev d) ∧ d.b (F.PROT_CH_STATE_SUBST k) = true ∧ (d.chan k).substFrames = 0 ∧
      (s.dev.redState ≠ 1 → d.b F.PROT_STATUS_DERATE = true) ∧ s.dev.faulted d 0x0604 1 k) ∧
  (∀ (s : State) (k : Nat), s.up → k < 16 → s.dev.b (F.PROT_CH_STATE_SUBST k) = true →
    s.dev.g F.PROT_EST_LIMIT_FRAMES ≤ (s.dev.chan k).substFrames → s.dev.hasCause 0x0605 k = false →
    ∃ d, exec (.sensorTimeout k) s = .next (s.withDev d) ∧ s.dev.faulted d 0x0605 4 k ∧ s.dev.regsFault d 4 [] ∧ s.dev.fresh.onlyFaults d) ∧
  (∀ (s : State) (k : Nat), s.up → k < 16 → s.dev.b (F.PROT_CH_STATE_SUBST k) = true →
    (s.dev.g F.FS_STATUS_TEST_FAIL).testBit k = false → 1024 ≤ (s.dev.chan k).agree →
    ∃ d, exec (.sensorRestore k) s = .next (s.withDev d) ∧ d.b (F.PROT_CH_STATE_SUBST k) = false ∧ (d.chan k).differ = 0 ∧
      d.hasCause 0x0604 k = false ∧ d.hasCause 0x0605 k = false ∧ d.out = []) ∧
  (∀ (s : State) (l : Nat), s.up → l < 64 → (s.dev.port! l).blocks.any (fun a => decide (1024 ≤ a.good)) = true →
    ∃ d, exec (.blockEnd l) s = .next (s.withDev d) ∧
      (d.port! l).blocks = (s.dev.port! l).blocks.filter (fun a => decide (a.good < 1024)) ∧
      s.dev.regsBut d [F.HCL_PORT_STATE_STATE l] ∧ d = { s.dev.fresh with rf := d.rf, port := d.port }) ∧
  (∀ (s : State) (l : Nat), s.up → l < 64 → 1 ≤ (s.dev.port! l).dxLow → s.dev.g F.PROT_DX_IMIN_FRAMES ≤ (s.dev.port! l).dxLow →
    ∃ d, exec (.dxNoRes l) s = .next (s.withDev d) ∧ d.bypassed l = true ∧ (d.port! l).dxLow = 0 ∧
      d.g F.PROT_DX_FAIL_COUNT = (s.dev.g F.PROT_DX_FAIL_COUNT + 1) % 2 ^ 32 ∧ s.dev.faulted d 0x060E 2 l)

/-- O27 (R354, R356, R357, chapter Thermal sensing and Louvre derating). A good conversion of an input that is not broken is its reading, and
restarts its run of bad ones; a bad one leaves the reading and counts. With three bad ones SENSOR_BROKEN sets the BROKEN bit, the reading
+200.0 degrees, and counts. With 16 good ones BROKEN_CLEAR clears the bit and shows the last good reading. -/
def Obligations.TemperaturesAreConvertedAndBrokenInputsReadHot : Prop :=
  (∀ (s : State) (k : Nat) (x v : Int), s.up → k < 16 → s.dev.converted k x = some v → s.dev.broken k = false →
    ∃ d, exec (.tempConversion k x) s = .next (s.withDev d) ∧ d.reading k = v ∧ mget d.thm.bad k = 0 ∧
      mget d.thm.good k = mget s.dev.thm.good k + 1 ∧ (∀ j, j < 16 → j ≠ k → d.reading j = s.dev.reading j)) ∧
  (∀ (s : State) (k : Nat) (x : Int), s.up → k < 16 → s.dev.converted k x = none →
    ∃ d, exec (.tempConversion k x) s = .next (s.withDev d) ∧ (∀ j, j < 16 → d.reading j = s.dev.reading j) ∧
      mget d.thm.bad k = mget s.dev.thm.bad k + 1 ∧ mget d.thm.good k = 0) ∧
  (∀ (s : State) (k : Nat), s.up → k < 16 → 3 ≤ mget s.dev.thm.bad k → s.dev.broken k = false →
    ∃ d, exec (.sensorBroken k) s = .next (s.withDev d) ∧ d.broken k = true ∧ d.reading k = 3200 ∧
      d.g F.THM_BROKEN_COUNT = (s.dev.g F.THM_BROKEN_COUNT + 1) % 2 ^ 32 ∧
      (∀ j, j < 16 → j ≠ k → d.broken j = s.dev.broken j ∧ d.reading j = s.dev.reading j)) ∧
  (∀ (s : State) (k : Nat), s.up → k < 16 → 16 ≤ mget s.dev.thm.good k → s.dev.broken k = true →
    ∃ d, exec (.brokenClear k) s = .next (s.withDev d) ∧ d.broken k = false ∧
      d.g (F.THM_TEMP_TEMP k) = mget s.dev.thm.last k % 2 ^ 16 ∧ (∀ j, j < 16 → j ≠ k → d.broken j = s.dev.broken j))

/-- O28 (R370, R371, R372, R374, R376, R377, R378, R380, R387, chapter The safety channel). SAFETY_CYCLE counts corrected errors, clears
HOST_BLOCK, shows CHAIN_OPEN, and with a failing diagnostic ends in BOLTED with SO0 to SO3 off. An enabled input's demand sets its bit and
clears its SI bit, its clearing the reverse, and cycles a door in START. A limited function whose windows have violated makes its demand
and, unless its action is NOENERGIZE, takes the island from PERMIT to STOPPED. The monitors, the watchdog, ACK_STUCK, a failed dark pulse
and a failed test pulse end in BOLTED. START_WINDOW raises its F1 when the window has passed, and begins the next one. SELFTEST_DONE after
power-on enters START, after BOLTED STOPPED or, with no demand, CLOSING. -/
def Obligations.IslandTakesDemandsAndBolts : Prop :=
  (∀ (s : State) (t found ecc : Nat),
    ∃ d, exec (.safetyCycle t found ecc) s = .next (s.withDev d) ∧
      d.g F.SAF_ECC_CORR_COUNT = (s.dev.g F.SAF_ECC_CORR_COUNT + ecc) % 2 ^ 32 ∧ d.b F.SAF_CMD_HOST_BLOCK = false ∧
      d.b F.SAF_DEMAND_CHAIN_OPEN = !s.dev.b F.SAF_IO_PERMIT_IN ∧ d.isl.select = none ∧
      ((∃ c, c ∈ [1, 2, 3, 4, 5, 7, 13] ∧ found.testBit c = true) → d.saf = stBolted ∧ d.g F.SAF_IO_SO = 0)) ∧
  (∀ (s : State) (k : Nat), k < 3 → s.dev.safSuspended = false → s.dev.b (limBit k) = false → mget s.dev.isl.viol k ≠ 0 →
    (if k = 0 then s.dev.conf.saf.slvFilter else if k = 1 then s.dev.conf.saf.slrFilter else s.dev.conf.saf.sldFilter) ≤
      mget s.dev.isl.viol k →
    ∃ d, exec (.limitedFunctionDemand k) s = .next (s.withDev d) ∧ d.b (limBit k) = true ∧
      (s.dev.limAction k = 2 → d.saf = s.dev.saf ∧ d.g F.SAF_DEMAND_COUNT = s.dev.g F.SAF_DEMAND_COUNT) ∧
      (s.dev.limAction k ≠ 2 → d.g F.SAF_DEMAND_COUNT = (s.dev.g F.SAF_DEMAND_COUNT + 1) % 2 ^ 32 ∧
        (s.dev.saf = stPermit → d.saf = stStopped ∧ (d.g F.SAF_IO_SO).testBit 0 = false))) ∧
  (∀ (s : State) (k : Nat), k < 12 → s.dev.conf.saf.enable.testBit k = true →
    ((s.dev.g F.SAF_DEMAND_INPUT).testBit k = false →
      ∃ d, exec (.inputDemand k) s = .next (s.withDev d) ∧ (d.g F.SAF_DEMAND_INPUT).testBit k = true ∧
        (d.g F.SAF_IO_SI).testBit k = false ∧ d.g F.SAF_DEMAND_COUNT = (s.dev.g F.SAF_DEMAND_COUNT + 1) % 2 ^ 32 ∧
        d.isl.newStop = true ∧ d.saf = s.dev.saf ∧ d.g F.SAF_IO_SO = s.dev.g F.SAF_IO_SO) ∧
    (∃ d, exec (.inputClear k) s = .next (s.withDev d) ∧ (d.g F.SAF_DEMAND_INPUT).testBit k = false ∧
      (d.g F.SAF_IO_SI).testBit k = true ∧
      (s.dev.saf = stStart → k < 8 → (s.dev.g F.SAF_DEMAND_INPUT).testBit k = true → (d.g F.SAF_DOORS_CYCLED).testBit k = true) ∧
      s.dev.regsBut d [F.SAF_IO_SI, F.SAF_DEMAND_INPUT, F.SAF_DOORS_CYCLED] ∧ s.dev.fresh.onlyRegs d)) ∧
  (∀ (s : State) (k low touched : Nat), k < 4 → low < 16 → touched < 16 →
    let bad := [0, 1, 2, 3].filter (fun j => s.dev.conf.saf.enable.testBit (8 + j) && (if j = k then !low.testBit j else touched.testBit j))
    ∃ d, exec (.testPulse k low touched) s = .next (s.withDev d) ∧ d.isl.tpBad.testBit k = !bad.isEmpty ∧
      (bad = [] → d.rf = s.dev.rf) ∧
      (bad ≠ [] → d.saf = stBolted ∧ d.g F.SAF_TP_ERR_COUNT = (s.dev.g F.SAF_TP_ERR_COUNT + bad.length) % 2 ^ 32)) ∧
  (let bolts (s : State) (i : Instr) (code : Nat) : Prop :=
      ∃ d, exec i s = .next (s.withDev d) ∧ d.saf = stBolted ∧ d.g F.SAF_BOLTED_COUNT = (s.dev.g F.SAF_BOLTED_COUNT + 1) % 2 ^ 32 ∧
        (s.dev.saf ≠ stBolted → d.g F.SAF_STATE_LOCK_CAUSE = code ∧ d.g F.SAF_IO_SO = 0 ∧ d.b F.SAF_IO_PERMIT_OUT = false);
    (∀ s : State, bolts s (.hardwareMonitorFault true) dgClock) ∧ (∀ s : State, bolts s (.hardwareMonitorFault false) dgSupply) ∧
    (∀ s : State, bolts s .islandWatchdog dgFlow) ∧ (∀ s : State, bolts s .ackStuck dgAckStuck) ∧
    (∀ (s : State) (so : Nat), so < 4 → (s.dev.g F.SAF_IO_SO).testBit so = true → bolts s (.darkPulse so false) dgOutput) ∧
    (∀ (s : State) (so : Nat) (good : Bool), so < 4 → (good = true ∨ (s.dev.g F.SAF_IO_SO).testBit so = false) →
      exec (.darkPulse so good) s = .next (s.withDev s.dev.fresh))) ∧
  (∀ s : State, s.dev.saf = stStart → s.dev.isl.have_ = true →
    [0, 1, 2, 3, 4, 5, 6, 7].filter (fun k => s.dev.conf.saf.enable.testBit k && !(s.dev.g F.SAF_DOORS_CYCLED).testBit k) ≠ [] →
    let ends := s.dev.isl.startAt + s.dev.conf.saf.startWindow * 60 * secQ
    (ends ≤ s.dev.cad.now →
      ∃ d m, exec .startWindow s = .next (s.withDev d) ∧ d.isl = { s.dev.isl with startAt := ends } ∧ d.saf = stStart ∧
        (s.dev.engineRuns = true → s.dev.faulted d 0x0803 1 m) ∧ (s.dev.engineRuns = false → d.rf = s.dev.rf) ∧
        ∀ k, k < 8 → (m.testBit k = true ↔ s.dev.conf.saf.enable.testBit k = true ∧ (s.dev.g F.SAF_DOORS_CYCLED).testBit k = false)) ∧
    (s.dev.cad.now < ends → exec .startWindow s = .next (s.withDev s.dev.fresh))) ∧
  (∀ s : State, s.dev.saf = stSelftest →
    ∃ d, exec .selftestDone s = .next (s.withDev d) ∧
      (s.dev.isl.again = false → d.saf = stStart ∧ (d.g F.SAF_IO_SO).testBit 0 = false ∧ d.isl.startAt = s.dev.cad.now) ∧
      (s.dev.isl.again = true → d.isl.trip = s.dev.tripPresent ∧ (s.dev.stopPresent = true → d.saf = stStopped) ∧
        (s.dev.stopPresent = false → d.saf = stClosing ∨ d.saf = stPermit)))

/-- O29 (R370, R398, R399, R400, R401, R402, R403, chapter The safety channel). A SAFE_ACK pulse of 200 ms to 2 s with no demand and nothing
detected waits for the end of its cycle; SAFETY_CYCLE accepts it where nothing in the cycle prevents it: counted, HOST ended, from STOPPED
to CLOSING or PERMIT, from BOLTED, while ARMED, to SELFTEST. Any other pulse is counted as refused, which in BOLTED clears ARMED. The
arming word sets ARMED, any other value clears it and counts; ARMED falls after 10 s. A confirm word that is the complement of the
selection, while ARMED and with the last window inside it, is taken for the next cycle, any other is counted. HOST_BLOCK sets demand HOST
and counts it, once. -/
def Obligations.AcknowledgeArmingAndSelectionsAreChecked : Prop :=
  (∀ (s : State) (t ms : Nat),
    ∃ d, exec (.safeAck t ms) s = .next (s.withDev d) ∧ d.b F.SAF_IO_SAFE_ACK = false ∧ d.g F.SAF_ACK_COUNT = s.dev.g F.SAF_ACK_COUNT ∧
      d.saf = s.dev.saf ∧
      (s.dev.saf = stSelftest ∨ s.dev.saf = stClosing ∨ s.dev.saf = stPermit →
        s.dev.regsBut d [F.SAF_IO_SAFE_ACK] ∧ (s.dev.fresh.at t).onlyRegs d) ∧
      (s.dev.saf ≠ stSelftest → s.dev.saf ≠ stClosing → s.dev.saf ≠ stPermit →
        (200 ≤ ms → ms ≤ 2000 → (s.dev.at t).mayAck = true →
          d.isl = { s.dev.isl with ack := some ⟨false, false, false⟩ } ∧ s.dev.regsBut d [F.SAF_IO_SAFE_ACK]) ∧
        (ms < 200 ∨ 2000 < ms ∨ (s.dev.at t).mayAck = false →
          d.g F.SAF_ACK_REFUSE_COUNT = (s.dev.g F.SAF_ACK_REFUSE_COUNT + 1) % 2 ^ 32 ∧ d.isl = s.dev.isl ∧
          (s.dev.saf = stBolted → d.b F.SAF_STATE_ARMED = false) ∧
          (s.dev.saf ≠ stBolted → d.b F.SAF_STATE_ARMED = s.dev.b F.SAF_STATE_ARMED) ∧
          s.dev.regsBut d [F.SAF_ACK_REFUSE_COUNT, F.SAF_STATE_ARMED, F.SAF_IO_SAFE_ACK]))) ∧
  (∀ (s : State) (t found ecc : Nat) (p : SafPulse), s.dev.isl.ack = some p →
    (∀ c, c ∈ [1, 2, 3, 4, 5, 7, 13] → found.testBit c = false) → (s.dev.confDone = true ∨ s.dev.b F.SAF_DEMAND_NOTCONFIG = true) →
    ∃ d, exec (.safetyCycle t found ecc) s = .next (s.withDev d) ∧ d.isl.ack = none ∧
      (p.demand = false → (s.dev.at t).mayAck = true →
        d.g F.SAF_ACK_COUNT = (s.dev.g F.SAF_ACK_COUNT + 1) % 2 ^ 32 ∧ d.b F.SAF_DEMAND_HOST = p.host ∧
        (s.dev.saf = stStopped → p.stop = false → p.host = false → d.saf = stClosing ∨ d.saf = stPermit) ∧
        (s.dev.saf = stStopped → (p.stop = true ∨ p.host = true) → d.saf = stStopped) ∧
        (s.dev.saf = stBolted → d.saf = stSelftest ∧ d.g F.SAF_STATE_LOCK_CAUSE = 0 ∧ d.b F.SAF_STATE_ARMED = false)) ∧
      (p.demand = true ∨ (s.dev.at t).mayAck = false →
        d.g F.SAF_ACK_REFUSE_COUNT = (s.dev.g F.SAF_ACK_REFUSE_COUNT + 1) % 2 ^ 32 ∧ d.g F.SAF_ACK_COUNT = s.dev.g F.SAF_ACK_COUNT)) ∧
  (∀ (s : State) (w : Nat), s.up → w < 2 ^ 32 → s.dev.hostTakesWord 0x120010 w →
    (w = armingWord → ∃ d, exec (.safArm w) s = .next (s.withDev d) ∧ d.b F.SAF_STATE_ARMED = true ∧ d.isl.armedAt = s.dev.cad.now ∧
      s.dev.regsBut d [F.SAF_STATE_ARMED]) ∧
    (w ≠ armingWord → ∃ d, exec (.safArm w) s = .next (s.withDev d) ∧ d.b F.SAF_STATE_ARMED = false ∧
      d.g F.SAF_ARM_REFUSE_COUNT = (s.dev.g F.SAF_ARM_REFUSE_COUNT + 1) % 2 ^ 32 ∧
      s.dev.regsBut d [F.SAF_STATE_ARMED, F.SAF_ARM_REFUSE_COUNT] ∧ s.dev.fresh.onlyRegs d)) ∧
  (∀ (s : State) (t : Nat), s.dev.isl.armedAt + 10 * secQ ≤ s.dev.clockAt t →
    ∃ d, exec (.armedExpiry t) s = .next (s.withDev d) ∧ d.b F.SAF_STATE_ARMED = false ∧ s.dev.regsBut d [F.SAF_STATE_ARMED]) ∧
  (∀ (s : State) (w : Nat), s.up → w < 2 ^ 32 → s.dev.hostTakesWord 0x12001C w →
    let set := s.dev.g F.SAF_SELECT_SLV_SET
    let dir := s.dev.g F.SAF_SELECT_SLD_DIR
    let last := s.dev.isl.windowed && (((s.dev.bound 0).isSome && s.dev.slvBad set (s.dev.g F.SAF_SLV_VALUE_VOLTS)) ||
      ((s.dev.bound 2).isSome && s.dev.sldBad dir (s.dev.g F.SAF_SLD_VALUE_WATTS)))
    let ok : Prop := s.dev.armed = true ∧ w = 0xFFFFFFFF - s.dev.selectWord ∧ s.dev.saf ≠ stSelftest ∧ s.dev.saf ≠ stBolted ∧ dir ≠ 3 ∧ last = false
    ∃ d, exec (.selectionConfirm w) s = .next (s.withDev d) ∧ d.b F.SAF_STATE_ARMED = false ∧
      (ok → d.isl = { s.dev.isl with select := some (set, dir) } ∧ s.dev.regsBut d [F.SAF_STATE_ARMED]) ∧
      (¬ ok → d.g F.SAF_SELECT_REFUSE_COUNT = (s.dev.g F.SAF_SELECT_REFUSE_COUNT + 1) % 2 ^ 32 ∧ d.isl = s.dev.isl ∧
        s.dev.regsBut d [F.SAF_STATE_ARMED, F.SAF_SELECT_REFUSE_COUNT])) ∧
  (∀ s : State, s.up → s.dev.hostMay 0x120014 1 = true →
    (s.dev.b F.SAF_CMD_HOST_BLOCK = false →
      ∃ d, exec .hostBlock s = .next (s.withDev d) ∧ d.b F.SAF_CMD_HOST_BLOCK = true ∧ d.b F.SAF_DEMAND_HOST = true ∧
        (s.dev.b F.SAF_DEMAND_HOST = false → d.g F.SAF_DEMAND_COUNT = (s.dev.g F.SAF_DEMAND_COUNT + 1) % 2 ^ 32 ∧ d.isl.newStop = true) ∧
        (s.dev.b F.SAF_DEMAND_HOST = true → s.dev.regsBut d [F.SAF_CMD_HOST_BLOCK])) ∧
    (s.dev.b F.SAF_CMD_HOST_BLOCK = true → exec .hostBlock s = .next (s.withDev s.dev.fresh)))

/-- O30 (R390, R391, R394, R395, chapter The safety channel). When PERMIT_IN falls, SO0 is off and the state is no longer PERMIT; when it
rises the register follows. The lead in CLOSING begins an attempt with PERMIT_OUT high; after 100 us of PERMIT_IN it is CLOSED and in
PERMIT with SO0 on; after 10 ms without closure the attempt ends and a retry is counted. A good, fresh message is kept for its position
and ends its loss; one that fails is counted. MSG_LOSS sets the bit and counts. A disagreement of 2 ms ends in BOLTED with cause CHAIN. -/
def Obligations.PermitChainClosesOpensAndIsChecked : Prop :=
  (∀ (s : State) (t : Nat), s.dev.b F.SAF_IO_PERMIT_IN = true →
    ∃ d, exec (.permitInEdge t false) s = .next (s.withDev d) ∧ d.b F.SAF_IO_PERMIT_IN = false ∧ (d.g F.SAF_IO_SO).testBit 0 = false ∧
      d.saf ≠ stPermit ∧ d.b F.SAF_DEMAND_CHAIN_OPEN = true) ∧
  (∀ (s : State) (t : Nat), s.dev.b F.SAF_IO_PERMIT_IN = false →
    ∃ d, exec (.permitInEdge t true) s = .next (s.withDev d) ∧ d.b F.SAF_IO_PERMIT_IN = true ∧ d.b F.SAF_DEMAND_CHAIN_OPEN = false ∧
      d.isl.highSince = some (s.dev.clockAt t)) ∧
  (∀ (s : State) (t : Nat), exec (.permitInEdge t (s.dev.b F.SAF_IO_PERMIT_IN)) s = .next (s.withDev (s.dev.fresh.at t))) ∧
  (∀ (s : State) (t : Nat), s.dev.isLead = true → s.dev.saf = stClosing → s.dev.isl.attempt = none →
    s.dev.isl.lowUntil ≤ s.dev.clockAt t →
    ∃ d, exec (.closingAttempt t) s = .next (s.withDev d) ∧ d.isl.attempt = some (s.dev.clockAt t) ∧
      d.b F.SAF_IO_PERMIT_OUT = true ∧ d.saf = stClosing) ∧
  (∀ (s : State) (t a h : Nat), s.dev.isLead = true → s.dev.saf = stClosing → s.dev.isl.attempt = some a →
    s.dev.isl.highSince = some h → h + 100 * usQ ≤ s.dev.clockAt t → s.dev.b F.SAF_DEMAND_NOTCONFIG = false → s.dev.isl.lost = 0 →
    ∃ d, exec (.chainClosed t) s = .next (s.withDev d) ∧ d.saf = stPermit ∧ d.b F.SAF_STATE_CLOSED = true ∧
      (s.dev.b F.SAF_IO_PERMIT_IN = true → (d.g F.SAF_IO_SO).testBit 0 = true)) ∧
  (∀ (s : State) (t a : Nat), s.dev.isl.attempt = some a → a + 10 * msQ ≤ s.dev.clockAt t →
    ∃ d, exec (.closingAttemptTimeout t) s = .next (s.withDev d) ∧ d.isl.attempt = none ∧
      d.isl.lowUntil = s.dev.clockAt t + msQ ∧
      d.g F.SAF_CHAIN_RETRY_COUNT = (s.dev.g F.SAF_CHAIN_RETRY_COUNT + 1) % 2 ^ 32 ∧ d.saf = s.dev.saf) ∧
  (∀ (s : State) (t : Nat) (h : SpanHdr) (bs : List Byte), hdrOk h = true → bs.length = 16 → s.dev.actsOn spSafety h = true →
    ((safCrc s.dev.conf.saf.groupId (bs.take 12) ≠ beAt bs 12 4 ∨ s.dev.conf.heads ≤ beAt bs 1 1 % 8) →
      ∃ d, exec (.safety t h bs) s = .next (s.withDev d) ∧ d.g F.SAF_MSG_ERR_COUNT = (s.dev.g F.SAF_MSG_ERR_COUNT + 1) % 2 ^ 32 ∧
        d.isl.msgs = s.dev.isl.msgs) ∧
    (safCrc s.dev.conf.saf.groupId (bs.take 12) = beAt bs 12 4 → beAt bs 1 1 % 8 < s.dev.conf.heads → beAt bs 1 1 % 8 ≠ s.dev.pos →
      (∀ m, mget s.dev.isl.msgs (beAt bs 1 1 % 8) = some m → seqLater (beAt bs 2 2) m.seq = true) →
      ∃ d, exec (.safety t h bs) s = .next (s.withDev d) ∧ mget d.isl.msgs (beAt bs 1 1 % 8) =
          some ⟨beAt bs 2 2, beAt bs 5 1, beAt bs 4 1, beAt bs 8 4, s.dev.clockAt t⟩ ∧
        d.isl.lost.testBit (beAt bs 1 1 % 8) = false)) ∧
  (∀ (s : State) (t p : Nat), p < 8 → p ≠ s.dev.pos → p < s.dev.conf.heads → s.dev.redState ≠ 1 →
    (s.dev.g F.LANE_ENUM_ADMITTED).testBit p = true → s.dev.isl.lost.testBit p = false →
    max s.dev.red.wakeAt ((mget s.dev.isl.msgs p).elim 0 SafMsg.at_) + s.dev.conf.saf.msgTimeout * 40000 ≤ s.dev.clockAt t →
    ∃ d, exec (.msgLoss t p) s = .next (s.withDev d) ∧ d.isl.lost.testBit p = true ∧ d.b F.SAF_DEMAND_MSG_LOSS = true ∧
      d.g F.SAF_MSG_LOSS_COUNT = (s.dev.g F.SAF_MSG_LOSS_COUNT + 1) % 2 ^ 32 ∧ (d.g F.SAF_IO_SO).testBit 0 = false) ∧
  (∀ (s : State) (t a : Nat), s.dev.isl.disagree = some a → (s.dev.at t).permitDisagrees = true → a + 2 * msQ ≤ s.dev.clockAt t →
    s.dev.saf ≠ stBolted →
    ∃ d, exec (.chain t) s = .next (s.withDev d) ∧ d.saf = stBolted ∧ d.g F.SAF_STATE_LOCK_CAUSE = dgChain ∧ d.g F.SAF_IO_SO = 0)

/-- O31 (R374, R375, R390, chapter The safety channel). For every command of the safety family and every state in which SO0 is on only in
state PERMIT with PERMIT_IN high: the next state has the same property. It holds at reset. -/
def Obligations.IslandNeverPermitsWithoutPermit : Prop :=
  (∀ (i : Instr) (s t : State), i.island = true → s.dev.permitSound → exec i s = .next t → t.dev.permitSound) ∧
  State.reset.dev.permitSound

/-- O32 (R410, R417, R418, R420, chapter Redundancy: claims, Hatch and the dormant standby). From ACTIVE or WAKING, relinquishing with a cause
gives RED_CLAIM 0 and its second copy 0, RED_STATE.STATE 4 with the cause, eight RELINQUISH notices of the claim that was sent, one more
RED_RELINQUISH_COUNT and no hold; from any other state it changes nothing. LOCKSTEP, LEAD_LOST after 16 frames, CLAIM_NOT_TAKEN after 64
frames and the host's keyed RELINQUISH do exactly this with their causes. -/
def Obligations.RelinquishingGivesTheClaimUp : Prop :=
  (∀ (d : Dev) (c : Nat), d.redState = 2 ∨ d.redState = 3 →
    (d.relinquish c).g F.RED_CLAIM_CLAIM = 0 ∧ (d.relinquish c).claimB = 0 ∧ (d.relinquish c).redState = 4 ∧
    (d.relinquish c).g F.RED_STATE_CAUSE = c % 256 ∧ (d.relinquish c).red.hold = false ∧ (d.relinquish c).red.report = true ∧
    (d.relinquish c).g F.RED_RELINQUISH_COUNT = (d.g F.RED_RELINQUISH_COUNT + 1) % 2 ^ 32 ∧
    (d.relinquish c).out.count (.hatch 2 (noticeBytes d.claimSent)) = d.out.count (.hatch 2 (noticeBytes d.claimSent)) + 8) ∧
  (∀ (d : Dev) (c : Nat), d.redState ≠ 2 → d.redState ≠ 3 → d.relinquish c = d) ∧
  (let gives (s : State) (d : Dev) (c : Nat) : Prop := d.stoodDown c ∧ s.dev.faulted d 0x0901 3 c ∧
      d.g F.RED_RELINQUISH_COUNT = (s.dev.g F.RED_RELINQUISH_COUNT + 1) % 2 ^ 32 ∧
      d.out.count (.hatch 2 (noticeBytes s.dev.claimSent)) = 8;
    (∀ s : State, s.up → (s.dev.redState = 2 ∨ s.dev.redState = 3) →
      (∃ d, exec .lockstep s = .next (s.withDev d) ∧ gives s d relqLockstep) ∧
      (s.dev.isLead = false → 16 ≤ s.dev.red.noQuota → ∃ d, exec .leadLost s = .next (s.withDev d) ∧ gives s d relqLeadLost) ∧
      (∀ n, s.dev.redState = 3 → s.dev.red.notTaken = some n → 64 ≤ n →
        ∃ d, exec .claimNotTaken s = .next (s.withDev d) ∧ gives s d relqNotTaken) ∧
      (s.dev.hostMay 0x130014 1 = true → s.dev.g F.RED_KEY_KEY = 0x7A4E →
        ∃ d, exec .relinquish s = .next (s.withDev d) ∧ gives s d relqHost ∧ d.g F.RED_KEY_KEY = 0))) ∧
  (∀ s : State, s.up → s.dev.redState ≠ 2 → s.dev.redState ≠ 3 →
    exec .lockstep s = .next (s.withDev s.dev.fresh) ∧ exec .leadLost s = .next (s.withDev s.dev.fresh) ∧
    exec .claimNotTaken s = .next (s.withDev s.dev.fresh))

/-- O33 (R51, R414, R416, R420, R570, chapter Redundancy: claims, Hatch and the dormant standby). HANDOVER with the key at an ACTIVE lead
names frame n + 3, and its bit reads 1; while it does, a further one only clears the key. STANDBY of a RELINQUISHED head with a fresh
checkpoint and no lasting cause makes it DORMANT. TAKE with the key of a RELINQUISHED head with no lasting cause starts a cold wake, WAKE
with the key of a DORMANT head a warm one. Each of the five commands written without its key (STANDBY needs none), in another state or
with a condition failing only clears the key and counts one refusal. -/
def Obligations.RedundancyCommandsNeedKeyAndState : Prop :=
  (∀ s : State, s.up → s.dev.hostMay 0x130014 2 = true →
    (s.dev.g F.RED_KEY_KEY = 0x7A4E → s.dev.redState = 3 → s.dev.isLead = true → s.dev.b F.RED_CMD_HANDOVER = false →
      ∃ d, exec .handover s = .next (s.withDev d) ∧ d.red = { s.dev.red with handover := some (frameAdd s.dev.cad.frame 3) } ∧
        d.b F.RED_CMD_HANDOVER = true ∧ d.g F.RED_KEY_KEY = 0 ∧ s.dev.regsBut d [F.RED_KEY_KEY, F.RED_CMD_HANDOVER]) ∧
    (s.dev.b F.RED_CMD_HANDOVER = true →
      ∃ d, exec .handover s = .next (s.withDev d) ∧ d.g F.RED_KEY_KEY = 0 ∧ s.dev.regsBut d [F.RED_KEY_KEY] ∧ s.dev.fresh.onlyRegs d)) ∧
  (∀ (s : State) (t : Nat), s.up → s.dev.hostMay 0x130014 4 = true → s.dev.redState = 4 → s.dev.red.lastValid = some t →
    s.dev.cad.now ≤ t + 3 * s.dev.g F.RED_CKPT_INTERVAL_UNITS * 10 * usQ →
    (∀ c ∈ s.dev.causesPresent, c = relqClaimHigh ∨ c = relqGroup ∨ c = relqHost) →
    ∃ d, exec .standby s = .next (s.withDev d) ∧ d.redState = 1 ∧ d.ticking = false ∧ d.red.retained = true ∧
      d.red.dormantAt = s.dev.cad.now) ∧
  (∀ s : State, s.up → s.dev.hostMay 0x130014 8 = true → s.dev.g F.RED_KEY_KEY = 0x7A4E → s.dev.redState = 4 →
    (∀ c ∈ s.dev.causesPresent, c = relqGroup ∨ c = relqHost) →
    ∃ d, exec .take s = .next (s.withDev d) ∧ d.redState = 2 ∧ d.g F.RED_STATE_PHASE = 0 ∧ d.b F.RED_STATE_COLD = true ∧
      d.g F.RED_KEY_KEY = 0 ∧ d.out = [.beacon]) ∧
  (∀ s : State, s.up → s.dev.hostMay 0x130014 16 = true → s.dev.g F.RED_KEY_KEY = 0x7A4E → s.dev.redState = 1 →
    ∃ d, exec .wake s = .next (s.withDev d) ∧ d.redState = 2 ∧ d.g F.RED_STATE_PHASE = 0 ∧ d.b F.RED_STATE_COLD = false ∧
      d.g F.RED_KEY_KEY = 0 ∧ d.out = [.beacon]) ∧
  (∀ (s : State) (i : Instr) (m : Nat), s.up → s.dev.hostMay 0x130014 m = true →
    let noKey : Prop := s.dev.g F.RED_KEY_KEY ≠ 0x7A4E
    ((i = .relinquish ∧ m = 1 ∧ (noKey ∨ (s.dev.redState ≠ 2 ∧ s.dev.redState ≠ 3))) ∨
      (i = .handover ∧ m = 2 ∧ s.dev.b F.RED_CMD_HANDOVER = false ∧ (noKey ∨ s.dev.redState ≠ 3 ∨ s.dev.isLead = false)) ∨
      (i = .standby ∧ m = 4 ∧ (s.dev.redState ≠ 4 ∨ s.dev.red.lastValid = none ∨
        (∃ t, s.dev.red.lastValid = some t ∧ t + 3 * s.dev.g F.RED_CKPT_INTERVAL_UNITS * 10 * usQ < s.dev.cad.now) ∨
        (∃ c ∈ s.dev.causesPresent, c ≠ relqClaimHigh ∧ c ≠ relqGroup ∧ c ≠ relqHost))) ∨
      (i = .take ∧ m = 8 ∧ (noKey ∨ s.dev.redState ≠ 4 ∨ ∃ c ∈ s.dev.causesPresent, c ≠ relqGroup ∧ c ≠ relqHost)) ∨
      (i = .wake ∧ m = 16 ∧ (noKey ∨ s.dev.redState ≠ 1))) →
    ∃ d, exec i s = .next (s.withDev d) ∧ d.g F.RED_CMD_REFUSE_COUNT = (s.dev.g F.RED_CMD_REFUSE_COUNT + 1) % 2 ^ 32 ∧
      d.g F.RED_KEY_KEY = 0 ∧ s.dev.regsBut d [F.RED_KEY_KEY, F.RED_CMD_REFUSE_COUNT] ∧ s.dev.fresh.onlyRegs d)

/-- O34 (R417, R421, R422, R423, R424, R426, R427, chapter Redundancy: claims, Hatch and the dormant standby). CHECKPOINT_CAPTURE at a capture
tick of an ACTIVE head puts the blocks of its checkpoint on the line, or while one is being sent counts a skip. CHECKPOINT_SENT sends them
as blocks and counts; where it is for a HANDOVER the head then stands down; SETTINGS_SEND sends the oldest settings message. A received
block that is not whole or whose CRC fails counts one Hatch error; a good middle block of a checkpoint joins its item. A good NOTICE wakes
a DORMANT head warm, is counted as ignored by any other; a failing one counts an error. The last block of a checkpoint of the other unit,
with nothing missing, its CRC and CONFIG_ID right, makes it the newest valid buffer, and one of a higher claim makes an ACTIVE head stand
down. -/
def Obligations.HatchCarriesCheckpointsSettingsAndNotices : Prop :=
  (∀ s : State, s.up → s.dev.redState = 3 → s.dev.ticking = true → s.dev.red.captured = false →
    (s.dev.red.ticks % s.dev.ckptEvery = 0 ∨ s.dev.handoverDue = true) →
    (s.dev.red.sending = [] →
      ∃ d, exec .checkpointCapture s = .next (s.withDev d) ∧ d.red.sending = blocksOf (s.dev.checkpoint s.dev.red.sendSeq) ∧
        d.red.sendSeq = (s.dev.red.sendSeq + 1) % 2 ^ 32 ∧ d.red.captured = true ∧ d.rf = s.dev.rf) ∧
    (s.dev.red.sending ≠ [] →
      ∃ d, exec .checkpointCapture s = .next (s.withDev d) ∧ d.red.sending = s.dev.red.sending ∧
        d.g F.RED_CKPT_SKIP_COUNT = (s.dev.g F.RED_CKPT_SKIP_COUNT + 1) % 2 ^ 32)) ∧
  (∀ s : State, s.up → s.dev.red.sending ≠ [] → s.dev.red.before = 0 →
    ∃ d, exec .checkpointSent s = .next (s.withDev d) ∧ d.red.sending = [] ∧
      d.g F.RED_CKPT_SENT_COUNT = (s.dev.g F.RED_CKPT_SENT_COUNT + 1) % 2 ^ 32 ∧
      (s.dev.red.handing = false → d.out.length = s.dev.red.sending.length ∧ s.dev.regsBut d [F.RED_CKPT_SENT_COUNT]) ∧
      (s.dev.red.handing = true → (s.dev.redState = 2 ∨ s.dev.redState = 3) → d.stoodDown relqHost)) ∧
  (∀ (s : State) (m : List Byte) (r : List (List Byte)), s.up → s.dev.red.settings = m :: r →
    (s.dev.red.sending = [] ∨ 0 < s.dev.red.before) →
    ∃ d, exec .settingsSend s = .next (s.withDev d) ∧ d.red.settings = r ∧
      d.out = (List.range (blocksOf m).length).map (fun i =>
        .hatch 2 (blockBytes 2 (beAt m 4 4 % 256) (blocksOf m).length i (((blocksOf m)[i]?).getD []))) ∧
      d.g F.RED_SETTINGS_SENT_COUNT = (s.dev.g F.RED_SETTINGS_SENT_COUNT + 1) % 2 ^ 32 ∧ s.dev.regsBut d [F.RED_SETTINGS_SENT_COUNT]) ∧
  (∀ (s : State) (bs : List Byte), s.up →
    (bs.length ≠ 264 ∨ crc32 (bs.take 260) ≠ beAt bs 260 4 ∨ (beAt bs 0 1 ≠ 1 ∧ beAt bs 0 1 ≠ 2)) →
    ∃ d, exec (.hatchBlock bs) s = .next (s.withDev d) ∧ d.g F.RED_HATCH_ERR_COUNT = (s.dev.g F.RED_HATCH_ERR_COUNT + 1) % 2 ^ 32 ∧
      s.dev.regsBut d [F.RED_HATCH_ERR_COUNT] ∧ d.red.buf = s.dev.red.buf) ∧
  (∀ (s : State) (bs : List Byte), s.up → bs.length = 264 → crc32 (bs.take 260) = beAt bs 260 4 → beAt bs 0 1 = 1 →
    0 < beAt bs 2 2 → beAt bs 2 2 < 2 ^ 15 →
    ∃ d, exec (.hatchBlock bs) s = .next (s.withDev d) ∧ d.rf = s.dev.rf ∧
      (mget d.red.arriving 1).blocks = (mget s.dev.red.arriving 1).blocks ++ [(bs.drop 4).take 256] ∧ d.red.buf = s.dev.red.buf) ∧
  (∀ (s : State) (bs : List Byte), s.up → bs.length = 264 → crc32 (bs.take 260) = beAt bs 260 4 → beAt bs 0 1 = 1 →
    2 ^ 15 < beAt bs 2 2 →
    let it := mget s.dev.red.arriving 1
    let all := (it.blocks ++ [(bs.drop 4).take 256]).flatten
    let n := beAt all 4 4
    it.good = true → it.seqLow = beAt bs 1 1 → it.blocks.length = beAt bs 2 2 - 2 ^ 15 → 68 ≤ n → n ≤ all.length → all.length < n + 256 →
    crc32 (all.take (n - 4)) = beAt all (n - 4) 4 → (all.drop 44).take 8 = s.dev.configId → beAt all 1 1 / 8 % 2 ≠ s.dev.unit →
    ∃ d, exec (.hatchBlock bs) s = .next (s.withDev d) ∧ mget d.red.buf s.dev.spareBuf = all.take n ∧ d.red.newest = s.dev.spareBuf ∧
      d.bufValid s.dev.spareBuf = true ∧ d.red.lastValid = some s.dev.cad.now ∧
      d.g F.RED_CKPT_RX_COUNT = (s.dev.g F.RED_CKPT_RX_COUNT + 1) % 2 ^ 32 ∧
      (s.dev.redState = 3 → claimHigher (beAt all 12 4) (s.dev.g F.RED_CLAIM_CLAIM) = true → d.stoodDown relqClaimHigh)) ∧
  (∀ (s : State) (bs : List Byte), s.up → bs.length = 6 → beAt bs 0 1 = 0x5A → crc8 (bs.take 5) = beAt bs 5 1 →
    (s.dev.redState = 1 →
      ∃ d, exec (.notice bs) s = .next (s.withDev d) ∧ d.redState = 2 ∧ d.g F.RED_STATE_PHASE = 0 ∧ d.b F.RED_STATE_COLD = false) ∧
    (s.dev.redState ≠ 1 →
      ∃ d, exec (.notice bs) s = .next (s.withDev d) ∧
        d.g F.RED_NOTICE_IGNORED_COUNT = (s.dev.g F.RED_NOTICE_IGNORED_COUNT + 1) % 2 ^ 32 ∧
        s.dev.regsBut d [F.RED_NOTICE_IGNORED_COUNT])) ∧
  (∀ (s : State) (bs : List Byte), s.up → (bs.length ≠ 6 ∨ beAt bs 0 1 ≠ 0x5A ∨ crc8 (bs.take 5) ≠ beAt bs 5 1) →
    ∃ d, exec (.notice bs) s = .next (s.withDev d) ∧ d.g F.RED_HATCH_ERR_COUNT = (s.dev.g F.RED_HATCH_ERR_COUNT + 1) % 2 ^ 32 ∧
      s.dev.regsBut d [F.RED_HATCH_ERR_COUNT])

/-- O35 (R412, R414, R428, R430, R431, R432, R433, chapter Redundancy: claims, Hatch and the dormant standby). WAKE_BEACON starts a warm wake
of a DORMANT head, CHECKPOINT_WATCHDOG counts and wakes it when no valid checkpoint came in time, COLD_WAKE wakes it cold after
START_WAIT. A wake starts in RESTORE with the beacon. RESTORE_DONE leads to OPEN or, with a failing CRC, to RELINQUISHED with cause
WAKE_FAIL; OPEN_DONE to TIME, or in a cold wake to ESTABLISH; TIME_DONE to LOAD; LOAD_DONE to CLAIM with the checkpoint of the newest
valid buffer, or without one to ESTABLISH. WAKE_PHASE_TIMEOUT past a bound relinquishes with WAKE_FAIL. -/
def Obligations.WakesStartAndRunThroughTheirPhases : Prop :=
  (∀ s : State, s.up → s.dev.redState = 1 →
    ∃ d, exec .wakeBeacon s = .next (s.withDev d) ∧ d.redState = 2 ∧ d.g F.RED_STATE_PHASE = 0 ∧ d.b F.RED_STATE_COLD = false ∧
      d.out = [.beacon] ∧ d.red.wakeAt = s.dev.cad.now) ∧
  (∀ (s : State) (t t0 : Nat), s.up → s.dev.redState = 1 → s.dev.red.lastValid = some t0 →
    t0 + s.dev.watchdogLen ≤ s.dev.clockAt t →
    ∃ d, exec (.checkpointWatchdog t) s = .next (s.withDev d) ∧ d.redState = 2 ∧ d.g F.RED_STATE_PHASE = 0 ∧
      d.b F.RED_STATE_COLD = s.dev.newestBuf.isNone ∧ d.g F.RED_WATCHDOG_COUNT = (s.dev.g F.RED_WATCHDOG_COUNT + 1) % 2 ^ 32) ∧
  (∀ (s : State) (t : Nat), s.up → s.dev.redState = 1 → s.dev.red.lastValid = none →
    s.dev.red.dormantAt + s.dev.g F.RED_START_START_WAIT * 10 * msQ ≤ s.dev.clockAt t →
    ∃ d, exec (.coldWake t) s = .next (s.withDev d) ∧ d.redState = 2 ∧ d.g F.RED_STATE_PHASE = 0 ∧ d.b F.RED_STATE_COLD = true) ∧
  (∀ (s : State) (t : Nat), s.up → s.dev.inPhase 0 = true →
    (∃ d, exec (.restoreDone t true) s = .next (s.withDev d) ∧ d.redState = 2 ∧ d.g F.RED_STATE_PHASE = 1) ∧
    (∃ d, exec (.restoreDone t false) s = .next (s.withDev d) ∧ d.redState = 4 ∧ d.g F.RED_STATE_CAUSE = relqWakeFail ∧
      d.red.retained = false)) ∧
  (∀ (s : State) (t : Nat), s.up → s.dev.inPhase 1 = true →
    ∃ d, exec (.openDone t) s = .next (s.withDev d) ∧ d.redState = 2 ∧
      d.g F.RED_STATE_PHASE = (if s.dev.b F.RED_STATE_COLD then 2 else 3) ∧
      s.dev.regsBut d [F.RED_STATE_PHASE, F.RED_STATE_COLD]) ∧
  (∀ (s : State) (t : Nat), s.up → s.dev.inPhase 3 = true →
    ∃ d, exec (.timeDone t) s = .next (s.withDev d) ∧ d.redState = 2 ∧ d.g F.RED_STATE_PHASE = 4 ∧
      (s.dev.isLead = false → s.dev.regsBut d [F.RED_STATE_PHASE])) ∧
  (∀ (s : State) (t b : Nat), s.up → s.dev.inPhase 4 = true → s.dev.newestBuf = some b →
    ((mget s.dev.red.buf b).drop 44).take 8 = s.dev.configId →
    ∃ d, exec (.loadDone t) s = .next (s.withDev d) ∧ d.redState = 2 ∧ d.g F.RED_STATE_PHASE = 5 ∧ d.b F.CE_STATUS_RUNNING = true ∧
      (s.dev.isLead = true → mget d.red.loaded 0 = some (beAt (mget s.dev.red.buf b) 12 4 / 256)) ∧
      (s.dev.isLead = false → Out.span spLoaded 0 [beAt (mget s.dev.red.buf b) 12 4 / 256] ∈ d.out)) ∧
  (∀ (s : State) (t : Nat), s.up → s.dev.inPhase 4 = true →
    (∀ b, s.dev.newestBuf = some b → ((mget s.dev.red.buf b).drop 44).take 8 ≠ s.dev.configId) →
    ∃ d, exec (.loadDone t) s = .next (s.withDev d) ∧ d.redState = 2 ∧ d.g F.RED_STATE_PHASE = 2 ∧ d.b F.RED_STATE_COLD = true) ∧
  (∀ (s : State) (t ph q : Nat), s.up → (ph, q) ∈ [(0, msQ), (1, 500 * usQ), (3, 200 * usQ), (4, 100 * usQ)] → s.dev.inPhase ph = true →
    s.dev.red.phaseAt + q < s.dev.clockAt t →
    ∃ d, exec (.wakePhaseTimeout t) s = .next (s.withDev d) ∧ d.stoodDown relqWakeFail) ∧
  (∀ (s : State) (t c : Nat), s.up → s.dev.inPhase 5 = true → s.dev.red.claimAt = some c → later s.dev.cad.frame (frameAdd c 1) = true →
    ∃ d, exec (.wakePhaseTimeout t) s = .next (s.withDev d) ∧ d.stoodDown relqWakeFail)

/-- O36 (R407, R410, R413, R434, R435, chapter Redundancy: claims, Hatch and the dormant standby). ESTABLISH_END at a lead that heard no other
claim names frame n + 3. The last LOADED report, and 8 ms after the wake began CLAIM_NAME_TIMEOUT, make the lead name it. CLAIM_TICK at
the named frame gives both claim registers the head's own claim of that generation, ACTIVE and the hold, and counts the wake. RESUME at
its frame ends the hold. RESUME_LATE of an energized lead after 1,024 frames raises its F3 once. -/
def Obligations.ClaimsAreNamedTakenAndResumed : Prop :=
  (∀ (s : State) (t : Nat), s.up → s.dev.inPhase 2 = true → s.dev.ticking = true →
    s.dev.red.phaseAt + 1100 * msQ ≤ s.dev.clockAt t →
    (s.dev.isLead = true → s.dev.red.echoSeen = false →
      ∃ d, exec (.establishEnd t) s = .next (s.withDev d) ∧ d.g F.RED_STATE_PHASE = 5 ∧
        d.red.claimAt = some (frameAdd s.dev.cad.frame 3) ∧ s.dev.regsBut d [F.RED_STATE_PHASE]) ∧
    (s.dev.isLead = true → s.dev.red.echoSeen = true →
      ∃ d, exec (.establishEnd t) s = .next (s.withDev d) ∧ d.redState = 1 ∧
        d.g F.RED_COLD_ABORT_COUNT = (s.dev.g F.RED_COLD_ABORT_COUNT + 1) % 2 ^ 32) ∧
    (s.dev.isLead = false →
      ∃ d, exec (.establishEnd t) s = .next (s.withDev d) ∧ d.g F.RED_STATE_PHASE = 5 ∧ s.dev.regsBut d [F.RED_STATE_PHASE])) ∧
  (∀ (s : State) (h : SpanHdr) (gen : Nat), s.up → hdrOk h = true → gen < 2 ^ 24 → s.dev.actsOn spLoaded h = true →
    s.dev.redState = 2 → s.dev.red.claimAt = none →
    ∃ d, exec (.loaded h gen) s = .next (s.withDev d) ∧ mget d.red.loaded h.origin = some gen ∧ d.redState = 2 ∧
      ((∀ p, p ∈ s.dev.admitted → p ≠ h.origin → (mget s.dev.red.loaded p).isSome = true) →
        d.red.claimAt = some (frameAdd s.dev.cad.frame 3) ∧ d.g F.RED_STATE_PHASE = 5) ∧
      ((∃ p, p ∈ s.dev.admitted ∧ p ≠ h.origin ∧ mget s.dev.red.loaded p = none) → d.red.claimAt = none)) ∧
  (∀ (s : State) (h : SpanHdr) (gen : Nat), s.up → hdrOk h = true → gen < 2 ^ 24 → s.dev.actsOn spLoaded h = false →
    ∃ d, exec (.loaded h gen) s = .next (s.withDev d) ∧ d.red = s.dev.red) ∧
  (∀ (s : State) (t p g : Nat), s.up → s.dev.isLead = true → s.dev.inPhase 5 = true → s.dev.red.claimAt = none →
    s.dev.red.wakeAt + 8 * msQ ≤ s.dev.clockAt t → p < 8 → mget s.dev.red.loaded p = some g →
    ∃ d, exec (.claimNameTimeout t) s = .next (s.withDev d) ∧ d.red.claimAt = some (frameAdd s.dev.cad.frame 3) ∧
      d.g F.RED_STATE_PHASE = 5) ∧
  (∀ s : State, s.up → s.dev.redState = 2 → s.dev.ticking = true → s.dev.red.claimAt = some s.dev.cad.frame →
    ∃ d, exec .claimTick s = .next (s.withDev d) ∧ d.redState = 3 ∧ d.g F.RED_CLAIM_CLAIM = s.dev.ownClaim s.dev.red.claimGen ∧
      d.claimB = s.dev.ownClaim s.dev.red.claimGen ∧ d.red.hold = true ∧ d.red.claimAt = none ∧
      (s.dev.b F.RED_STATE_COLD = true → d.g F.RED_COLD_WAKE_COUNT = (s.dev.g F.RED_COLD_WAKE_COUNT + 1) % 2 ^ 32) ∧
      (s.dev.b F.RED_STATE_COLD = false → d.g F.RED_WAKE_COUNT = (s.dev.g F.RED_WAKE_COUNT + 1) % 2 ^ 32)) ∧
  (∀ s : State, s.up → s.dev.redState = 3 → s.dev.red.hold = true → s.dev.red.resumeAt = some s.dev.cad.frame →
    ∃ d, exec .resume s = .next (s.withDev d) ∧ d.red = { s.dev.red with hold := false, resumeAt := none } ∧
      d.g F.RED_STATE_PHASE = 7 ∧ s.dev.regsBut d [F.RED_STATE_PHASE] ∧
      d = { s.dev.fresh with rf := d.rf, red := d.red, ce := { s.dev.ce with freeze := d.ce.freeze } }) ∧
  (∀ s : State, s.up → s.dev.isLead = true → s.dev.redState = 3 → s.dev.red.hold = true → s.dev.red.lateRaised = false →
    s.dev.engState = 2 → 1024 ≤ s.dev.red.holdFrames →
    ∃ d m, exec .resumeLate s = .next (s.withDev d) ∧ d.red = { s.dev.red with lateRaised := true } ∧ s.dev.faulted d 0x0908 3 m ∧
      s.dev.regsFault d 3 [])

/-- O37 (R447, R448, R449, R451, R453, chapter Lane fabric: training, span transport and the uplink). PLL_LOCK starts every waiting OPEN lane
of the group at DETECT; SIGNAL_DETECT takes DETECT to ALIGN, ALIGN_LOCK ALIGN to CHECK. The eighth equal good TRAIN in CHECK gives READY
on a lane that is no span lane, the fourth in READY from a READY peer gives UP. A TRAIN whose CRC fails restarts the count; one that
passes only inverted turns RX_INVERTED over and counts. A TRAIN while UP, and LANE_DOWN, lead to DETECT with LANE_UP 0 and count one; an
attempt at its limit returns to DETECT and counts. Invalid characters and headers are counted; before CHECK, and for what is no TRAIN,
nothing else happens; a lane that is not OPEN or is in test receives nothing. -/
def Obligations.LanesTrainFromDetectToUp : Prop :=
  (∀ (s : State) (ln : Nat), s.up → ln < 72 → s.dev.powerOf ln ≠ 2 → mget s.dev.fab.pll (pllGroup ln) = false →
    ∃ d, exec (.pllLock ln) s = .next (s.withDev d) ∧ mget d.fab.pll (pllGroup ln) = true ∧ d.out = [] ∧
      (∀ f : Fld, (∀ j, j < 72 → f.key ≠ (F.LANE_STATE_TRAIN j).key ∧ f.key ≠ (F.LANE_STATE_RX_INVERTED j).key) → d.g f = s.dev.g f) ∧
      ∀ j, j < 72 → d.tr j = (if pllGroup j = pllGroup ln ∧ s.dev.powerOf j = 0 ∧ s.dev.tr j = trNone then trDetect else s.dev.tr j)) ∧
  (∀ (s : State) (ln : Nat), s.up → ln < 72 →
    ∃ d, exec (.signalDetect ln) s = .next (s.withDev d) ∧ d.b (F.LANE_STATE_SIGNAL ln) = true ∧
      d.tr ln = (if s.dev.tr ln = trDetect then trAlign else s.dev.tr ln) ∧
      s.dev.regsBut d [F.LANE_STATE_SIGNAL ln, F.LANE_STATE_TRAIN ln] ∧ s.dev.fresh.onlyRegs d) ∧
  (∀ (s : State) (ln : Nat), s.up → ln < 72 → s.dev.tr ln = trAlign →
    ∃ d, exec (.alignLock ln) s = .next (s.withDev d) ∧ d.tr ln = trCheck ∧ (d.laneTrain ln).good = 0 ∧
      s.dev.regsBut d [F.LANE_STATE_TRAIN ln]) ∧
  (∀ (s : State) (ln : Nat) (line : Line) (c : List Byte), s.up → ln < 72 → s.dev.powerOf ln = 0 → s.dev.got ln line = .ordered 0x78 c →
    c.length = 6 → orderedOk 0x78 c = true →
    (s.dev.tr ln = trCheck → isSpan ln = false → beAt c 0 1 = expectRole ln →
      (beAt c 3 1 % 16).testBit (s.dev.g (F.LANE_CFG_RATE ln)) = true → 7 ≤ (s.dev.laneTrain ln).good →
      (s.dev.laneTrain ln).said = beAt c 0 1 * 2 ^ 16 + beAt c 1 1 * 2 ^ 8 + beAt c 3 1 % 16 →
      ∃ d, exec (.train ln line false) s = .next (s.withDev d) ∧ d.tr ln = trReady ∧ d.b (F.LANE_STATE_MISMATCH ln) = false ∧
        d.g (F.LANE_STATE_PEER_LANE ln) = beAt c 1 1) ∧
    (s.dev.tr ln = trReady → 3 ≤ (s.dev.laneTrain ln).ready → 4 ≤ beAt c 2 1 →
      ∃ d, exec (.train ln line false) s = .next (s.withDev d) ∧ d.tr ln = trUp ∧ d.laneUp ln = true) ∧
    (s.dev.tr ln = trUp →
      ∃ d, exec (.train ln line false) s = .next (s.withDev d) ∧ d.tr ln = trDetect ∧ d.laneUp ln = false ∧
        d.g (F.LANE_DOWN_COUNT ln) = (s.dev.g (F.LANE_DOWN_COUNT ln) + 1) % 2 ^ 32) ∧
    (s.dev.tr ln = trCheck →
      ∃ d, exec (.train ln line true) s = .next (s.withDev d) ∧ d.b (F.LANE_STATE_RX_INVERTED ln) = !s.dev.b (F.LANE_STATE_RX_INVERTED ln) ∧
        d.g (F.LANE_POLARITY_COUNT ln) = (s.dev.g (F.LANE_POLARITY_COUNT ln) + 1) % 2 ^ 32 ∧ (d.laneTrain ln).good = 0 ∧
        s.dev.regsBut d [F.LANE_STATE_RX_INVERTED ln, F.LANE_POLARITY_COUNT ln, F.LANE_CODE_ERR_COUNT ln, F.HCL_LINE_ERR_COUNT ln])) ∧
  (∀ (s : State) (ln : Nat) (line : Line) (inv : Bool), s.up → ln < 72 → s.dev.powerOf ln = 0 → s.dev.tr ln ≠ trTest →
    (s.dev.tr ln < trCheck ∨ (∀ c, s.dev.got ln line ≠ .ordered 0x78 c) →
      ∃ d, exec (.train ln line inv) s = .next (s.withDev d) ∧ s.dev.fresh.onlyRegs d ∧
        d.g (F.LANE_CODE_ERR_COUNT ln) = (s.dev.g (F.LANE_CODE_ERR_COUNT ln) + line.bads) % 2 ^ 32 ∧
        s.dev.regsBut d [F.LANE_CODE_ERR_COUNT ln, F.HCL_LINE_ERR_COUNT ln]) ∧
    (∀ c, trCheck ≤ s.dev.tr ln → s.dev.got ln line = .ordered 0x78 c → (c.length ≠ 6 ∨ orderedOk 0x78 c = false) →
      ∃ d, exec (.train ln line inv) s = .next (s.withDev d) ∧ (d.laneTrain ln).good = 0 ∧ d.tr ln = s.dev.tr ln ∧
        d.g (F.LANE_CODE_ERR_COUNT ln) = (s.dev.g (F.LANE_CODE_ERR_COUNT ln) + line.bads) % 2 ^ 32 ∧
        s.dev.regsBut d [F.LANE_CODE_ERR_COUNT ln, F.HCL_LINE_ERR_COUNT ln] ∧
        (ln < 64 → d.g (F.HCL_LINE_ERR_COUNT ln) =
          (s.dev.g (F.HCL_LINE_ERR_COUNT ln) + (if s.dev.laneUp ln = true then line.bads else 0) + 1) % 2 ^ 32))) ∧
  (∀ (s : State) (ln : Nat) (line : Line) (inv : Bool), s.up → ln < 72 → (s.dev.powerOf ln ≠ 0 ∨ s.dev.tr ln = trTest) →
    exec (.train ln line inv) s = .next (s.withDev s.dev.fresh)) ∧
  (∀ (s : State) (ln : Nat), s.up → ln < 72 → s.dev.powerOf ln = 0 → trDetect ≤ s.dev.tr ln → s.dev.tr ln < trUp →
    ∃ d, exec (.trainAttemptLimit ln) s = .next (s.withDev d) ∧ d.tr ln = trDetect ∧ d.b (F.LANE_STATE_RX_INVERTED ln) = false ∧
      d.g (F.LANE_TRAIN_FAIL_COUNT ln) = (s.dev.g (F.LANE_TRAIN_FAIL_COUNT ln) + 1) % 2 ^ 32 ∧
      s.dev.regsBut d [F.LANE_STATE_TRAIN ln, F.LANE_STATE_RX_INVERTED ln, F.LANE_TRAIN_FAIL_COUNT ln]) ∧
  (∀ (s : State) (ln errors : Nat), s.up → ln < 72 → s.dev.tr ln = trUp →
    ∃ d, exec (.laneDown ln errors) s = .next (s.withDev d) ∧ d.tr ln = trDetect ∧ d.laneUp ln = false ∧
      d.g (F.LANE_DOWN_COUNT ln) = (s.dev.g (F.LANE_DOWN_COUNT ln) + 1) % 2 ^ 32 ∧
      d.g (F.LANE_CODE_ERR_COUNT ln) = (s.dev.g (F.LANE_CODE_ERR_COUNT ln) + errors) % 2 ^ 32)

/-- O38 (R445, R454, R464, R465, R466, chapter Lane fabric: training, span transport and the uplink). A write of POWER that the rules allow
gives the lane that power state, one they do not only counts a refusal. LANE_EQ takes settings whose sum and swing are legal and leaves
the register unchanged otherwise. MODE 0 is taken, and any MODE on a cell lane that is not enabled or on a span or uplink lane out of
service, and clears the checker; otherwise it is refused and counted. CHECKER_LOCK in test shows the lock and the inversion, CHECKER_LOSS
clears it and adds the counts. INJECT_ONE and INJECT_BURST clear their bit and count one. -/
def Obligations.LaneSettingsPowerAndTests : Prop :=
  (∀ (s : State) (ln w : Nat), s.up → ln < 72 → w < 2 ^ 32 → w % 4 ≠ 3 → s.dev.hostTakesWord (0x040000 + 0x100 * ln) w →
    ((ln < 64 ∨ s.dev.inService = false ∨ w % 4 = 0) → (s.dev.b (F.LANE_CFG_USED ln) = true ∨ w % 4 = 2) →
      ∃ d, exec (.lanePower ln w) s = .next (s.withDev d) ∧ d.g (F.LANE_CTRL_POWER ln) = w % 4 ∧ d.powerOf ln = w % 4) ∧
    ((64 ≤ ln ∧ s.dev.inService = true ∧ w % 4 ≠ 0) ∨ (s.dev.b (F.LANE_CFG_USED ln) = false ∧ w % 4 ≠ 2) →
      ∃ d, exec (.lanePower ln w) s = .next (s.withDev d) ∧
        d.g (F.LANE_POWER_REFUSE_COUNT ln) = (s.dev.g (F.LANE_POWER_REFUSE_COUNT ln) + 1) % 2 ^ 32 ∧
        s.dev.regsBut d [F.LANE_POWER_REFUSE_COUNT ln] ∧ s.dev.fresh.onlyRegs d)) ∧
  (∀ (s : State) (ln w : Nat), s.up → ln < 72 → w < 2 ^ 32 → s.dev.hostTakesWord (0x040008 + 0x100 * ln) w →
    (bits w 11 8 + bits w 20 16 ≤ 32 → bits w 28 24 ≤ 16 →
      ∃ d, exec (.laneEqWrite ln w) s = .next (s.withDev d) ∧ d.g (F.LANE_EQ_CTLE ln) = bits w 3 0 ∧ d.g (F.LANE_EQ_PRE ln) = bits w 11 8 ∧
        d.g (F.LANE_EQ_POST ln) = bits w 20 16 ∧ d.g (F.LANE_EQ_SWING ln) = bits w 28 24 ∧
        s.dev.regsBut d [F.LANE_EQ_CTLE ln, F.LANE_EQ_PRE ln, F.LANE_EQ_POST ln, F.LANE_EQ_SWING ln] ∧ s.dev.fresh.onlyRegs d) ∧
    ((32 < bits w 11 8 + bits w 20 16 ∨ 16 < bits w 28 24) → exec (.laneEqWrite ln w) s = .next (s.withDev s.dev.fresh))) ∧
  (∀ (s : State) (ln mode : Nat), s.up → ln < 72 → mode < 4 → s.dev.hostMay (0x040010 + 0x100 * ln) 0x18 = true →
    (mode = 0 ∨ (ln < 64 ∧ s.dev.b (F.HCL_PORT_CTRL_ENABLE ln) = false) ∨ (64 ≤ ln ∧ s.dev.inService = false) →
      ∃ d, exec (.modeWrite ln mode) s = .next (s.withDev d) ∧ d.g (F.LANE_TEST_MODE ln) = mode ∧ d.b (F.LANE_TEST_CHK_LOCK ln) = false ∧
        (s.dev.g (F.LANE_TEST_MODE ln) = 0 → mode ≠ 0 → s.dev.powerOf ln = 0 → d.tr ln = trTest ∧ d.laneUp ln = false) ∧
        (s.dev.g (F.LANE_TEST_MODE ln) ≠ 0 → mode = 0 → s.dev.powerOf ln = 0 → d.tr ln = trDetect ∧ d.laneUp ln = false)) ∧
    (mode ≠ 0 → ((ln < 64 ∧ s.dev.b (F.HCL_PORT_CTRL_ENABLE ln) = true) ∨ (64 ≤ ln ∧ s.dev.inService = true)) →
      ∃ d, exec (.modeWrite ln mode) s = .next (s.withDev d) ∧
        d.g (F.LANE_TEST_REFUSE_COUNT ln) = (s.dev.g (F.LANE_TEST_REFUSE_COUNT ln) + 1) % 2 ^ 32 ∧
        s.dev.regsBut d [F.LANE_TEST_REFUSE_COUNT ln] ∧ s.dev.fresh.onlyRegs d)) ∧
  (∀ (s : State) (ln : Nat) (inv : Bool), s.up → ln < 72 → 2 ≤ s.dev.g (F.LANE_TEST_MODE ln) → s.dev.tr ln = trTest →
    ∃ d, exec (.checkerLock ln inv) s = .next (s.withDev d) ∧ d.b (F.LANE_TEST_CHK_LOCK ln) = true ∧
      d.b (F.LANE_TEST_CHK_INVERTED ln) = inv ∧ s.dev.regsBut d [F.LANE_TEST_CHK_LOCK ln, F.LANE_TEST_CHK_INVERTED ln] ∧
      s.dev.fresh.onlyRegs d) ∧
  (∀ (s : State) (ln wrong kbits : Nat), s.up → ln < 72 → s.dev.b (F.LANE_TEST_CHK_LOCK ln) = true →
    ∃ d, exec (.checkerLoss ln wrong kbits) s = .next (s.withDev d) ∧ d.b (F.LANE_TEST_CHK_LOCK ln) = false ∧
      d.g (F.LANE_PRBS_ERR_COUNT ln) = (s.dev.g (F.LANE_PRBS_ERR_COUNT ln) + wrong) % 2 ^ 32 ∧
      d.g (F.LANE_PRBS_KBIT_COUNT ln) = (s.dev.g (F.LANE_PRBS_KBIT_COUNT ln) + kbits) % 2 ^ 32 ∧
      d.g (F.LANE_CHK_LOSS_COUNT ln) = (s.dev.g (F.LANE_CHK_LOSS_COUNT ln) + 1) % 2 ^ 32 ∧
      s.dev.regsBut d [F.LANE_TEST_CHK_LOCK ln, F.LANE_PRBS_ERR_COUNT ln, F.LANE_PRBS_KBIT_COUNT ln, F.LANE_CHK_LOSS_COUNT ln]) ∧
  (∀ (s : State) (ln : Nat), s.up → ln < 72 →
    (s.dev.hostMay (0x040010 + 0x100 * ln) (2 ^ 16) = true →
      ∃ d, exec (.injectOne ln) s = .next (s.withDev d) ∧ d.g (F.LANE_INJECT_COUNT ln) = (s.dev.g (F.LANE_INJECT_COUNT ln) + 1) % 2 ^ 32 ∧
        s.dev.regsBut d [F.LANE_INJECT_COUNT ln, F.LANE_TEST_INJECT_ONE ln] ∧ s.dev.fresh.onlyRegs d) ∧
    (s.dev.hostMay (0x040010 + 0x100 * ln) (2 ^ 17) = true →
      ∃ d, exec (.injectBurst ln) s = .next (s.withDev d) ∧ d.g (F.LANE_INJECT_COUNT ln) = (s.dev.g (F.LANE_INJECT_COUNT ln) + 1) % 2 ^ 32 ∧
        s.dev.regsBut d [F.LANE_INJECT_COUNT ln, F.LANE_TEST_INJECT_BURST ln] ∧ s.dev.fresh.onlyRegs d))

/-- O39 (R28, R460, R461, R462, R463, chapter Lane fabric: training, span transport and the uplink). ENUM_SEND at a lead that is not DONE,
with a bundle UP, sends the admitted positions, and otherwise nothing. A head that acts on ENUM takes ADMITTED, RING, DONE and SPECTATOR
and answers its position and unit. The first ENUM_REPLY of a place in the ring with a free position is admitted, any other is counted as a
spectator. STATION in its frame leaves on each UP uplink and waits for the other: eight words, the frame number, the epoch and states, the
global time of the tick and the newest record among them. An uplink SHUTTER with SHUTTER_IN counts and raises its F3; without it, or
failing, it counts one code error, as does anything but IDLE and TRAIN. UL_SHUTTER_CLEAR ends the cause. -/
def Obligations.RingIsEnumeratedAndUplinksReport : Prop :=
  (∀ s : State, s.up →
    (s.dev.isLead = true → s.dev.b F.LANE_ENUM_DONE = false → 1 ≤ s.dev.bundleUp 0 + s.dev.bundleUp 1 →
      ∃ d, exec .enumSend s = .next (s.withDev d) ∧ d.out = [.span spEnum 8 [s.dev.g F.LANE_ENUM_ADMITTED, s.dev.g F.LANE_ENUM_RING]] ∧
        s.dev.regsBut d [F.SPAN_QUEUE_DROP_COUNT] ∧ d = { s.dev.fresh with rf := d.rf, fab := d.fab, out := d.out } ∧
        (s.dev.bundleUp 0 ≠ 0 → s.dev.bundleUp 1 ≠ 0 → d.fab = s.dev.fab ∧ d.rf = s.dev.rf)) ∧
    (s.dev.isLead = false ∨ s.dev.b F.LANE_ENUM_DONE = true ∨ s.dev.bundleUp 0 + s.dev.bundleUp 1 = 0 →
      exec .enumSend s = .next (s.withDev s.dev.fresh))) ∧
  (∀ (s : State) (h : SpanHdr) (adm ring : Nat) (done spec : Bool), s.up → hdrOk h = true → adm < 256 → ring < 16 →
    (s.dev.actsOn spEnum h = true → s.dev.isLead = false →
      ∃ d, exec (.enum h adm ring done spec) s = .next (s.withDev d) ∧ d.g F.LANE_ENUM_ADMITTED = adm ∧ d.g F.LANE_ENUM_RING = ring ∧
        d.b F.LANE_ENUM_DONE = done ∧ d.spectator = spec ∧ d.out.getLast? = some (.span spEnumReply 0 [s.dev.pos, s.dev.unit, s.dev.unit]) ∧
        s.dev.regsBut d [F.LANE_ENUM_ADMITTED, F.LANE_ENUM_RING, F.LANE_ENUM_DONE, F.LANE_ENUM_SPECTATOR, F.SPAN_QUEUE_DROP_COUNT]) ∧
    (s.dev.actsOn spEnum h = false ∨ s.dev.isLead = true →
      ∃ d, exec (.enum h adm ring done spec) s = .next (s.withDev d) ∧
        s.dev.regsBut d [F.SPAN_MSG_ERR_COUNT, F.SPAN_QUEUE_DROP_COUNT] ∧
        d.g F.SPAN_MSG_ERR_COUNT = (s.dev.g F.SPAN_MSG_ERR_COUNT + if h.good then 0 else 1) % 2 ^ 32)) ∧
  (∀ (s : State) (h : SpanHdr) (p : Nat), s.up → hdrOk h = true → p < 8 →
    (s.dev.actsOn spEnumReply h = true → mget s.dev.fab.ring (h.hops + 1) = none →
      (p < s.dev.conf.heads → (s.dev.g F.LANE_ENUM_ADMITTED).testBit p = false → h.hops < 7 →
        ∃ d, exec (.enumReply h p) s = .next (s.withDev d) ∧ mget d.fab.ring (h.hops + 1) = some (some p) ∧
          d.g F.LANE_ENUM_ADMITTED = setBit (s.dev.g F.LANE_ENUM_ADMITTED) p ∧
          d.b F.LANE_ENUM_DONE = (popCount 8 (setBit (s.dev.g F.LANE_ENUM_ADMITTED) p) == s.dev.conf.heads) ∧
          s.dev.regsBut d [F.LANE_ENUM_ADMITTED, F.LANE_ENUM_RING, F.LANE_ENUM_DONE]) ∧
      ((s.dev.conf.heads ≤ p ∨ (s.dev.g F.LANE_ENUM_ADMITTED).testBit p = true ∨ 7 ≤ h.hops) →
        ∃ d, exec (.enumReply h p) s = .next (s.withDev d) ∧ mget d.fab.ring (h.hops + 1) = some none ∧
          d.g F.LANE_SPECTATOR_COUNT = (s.dev.g F.LANE_SPECTATOR_COUNT + 1) % 2 ^ 32 ∧ s.dev.faulted d 0x0A06 0 (h.hops + 1) ∧
          s.dev.regsFault d 0 [F.LANE_SPECTATOR_COUNT, F.LANE_ENUM_RING])) ∧
    (s.dev.actsOn spEnumReply h = false ∨ (mget s.dev.fab.ring (h.hops + 1)).isSome = true →
      ∃ d, exec (.enumReply h p) s = .next (s.withDev d) ∧ d.fab.ring = s.dev.fab.ring ∧
        s.dev.regsBut d [F.SPAN_MSG_ERR_COUNT, F.SPAN_QUEUE_DROP_COUNT])) ∧
  (∀ s : State, s.up →
    (s.dev.cad.started = true → s.dev.ticking = true → 1 ≤ s.dev.g F.UL_CTRL_PERIOD → s.dev.cad.frame % s.dev.g F.UL_CTRL_PERIOD = 0 →
      ∃ d ws, exec .station s = .next (s.withDev d) ∧ ws.length = 8 ∧ ws[0]? = some s.dev.cad.frame ∧
        ws[1]? = some (s.dev.cad.epoch + s.dev.redState * 2 ^ 16 + s.dev.g F.SAF_STATE_STATE * 2 ^ 20) ∧
        ws[2]? = some (s.dev.tickGlobal / 2 ^ 32) ∧ ws[3]? = some (s.dev.tickGlobal % 2 ^ 32) ∧ ws[6]? = some s.dev.newestSeq ∧
        s.dev.regsBut d [F.UL_DROP_COUNT] ∧ d = { s.dev.fresh with rf := d.rf, fab := { s.dev.fab with ulq := d.fab.ulq }, out := d.out } ∧
        (∀ ln, ln = 70 ∨ ln = 71 →
          (s.dev.laneUp ln = true → .uplink ln 0x10 ws ∈ d.out ∧ mget d.fab.ulq ln = []) ∧
          (s.dev.laneUp ln = false → (mget d.fab.ulq ln).getLast? = some (0x10, ws) ∧ ∀ ty w, .uplink ln ty w ∉ d.out))) ∧
    (s.dev.cad.started = false ∨ s.dev.ticking = false ∨ s.dev.g F.UL_CTRL_PERIOD = 0 ∨ s.dev.cad.frame % s.dev.g F.UL_CTRL_PERIOD ≠ 0 →
      exec .station s = .next (s.withDev s.dev.fresh))) ∧
  (∀ (s : State) (ln : Nat) (line : Line), s.up → (ln = 70 ∨ ln = 71) →
    (∀ c, s.dev.got ln line = .ordered 0xE1 c →
      (s.dev.b F.UL_CTRL_SHUTTER_IN = true → c.length = 6 → orderedOk 0xE1 c = true →
        ∃ d, exec (.ulShutter ln line) s = .next (s.withDev d) ∧ d.g F.UL_SHUTTER_COUNT = (s.dev.g F.UL_SHUTTER_COUNT + 1) % 2 ^ 32 ∧
          s.dev.faulted d 0x0A05 3 ln ∧ s.dev.regsFault d 3 [F.UL_SHUTTER_COUNT, F.LANE_CODE_ERR_COUNT ln]) ∧
      ((s.dev.b F.UL_CTRL_SHUTTER_IN = false ∨ c.length ≠ 6 ∨ orderedOk 0xE1 c = false) →
        ∃ d, exec (.ulShutter ln line) s = .next (s.withDev d) ∧
          d.g (F.LANE_CODE_ERR_COUNT ln) = (s.dev.g (F.LANE_CODE_ERR_COUNT ln) + line.bads + 1) % 2 ^ 32 ∧
          s.dev.regsBut d [F.LANE_CODE_ERR_COUNT ln] ∧ s.dev.fresh.onlyRegs d)) ∧
    ((∀ c, s.dev.got ln line ≠ .ordered 0xE1 c) →
      ∃ d, exec (.ulShutter ln line) s = .next (s.withDev d) ∧ s.dev.regsBut d [F.LANE_CODE_ERR_COUNT ln] ∧ s.dev.fresh.onlyRegs d ∧
        ((∃ bs, s.dev.got ln line = .run bs) →
          d.g (F.LANE_CODE_ERR_COUNT ln) = (s.dev.g (F.LANE_CODE_ERR_COUNT ln) + line.bads + 1) % 2 ^ 32) ∧
        (∀ ty c, s.dev.got ln line = .ordered ty c → d.g (F.LANE_CODE_ERR_COUNT ln) =
          (s.dev.g (F.LANE_CODE_ERR_COUNT ln) + line.bads + if ty = osIdle ∨ ty = osTrain then 0 else 1) % 2 ^ 32))) ∧
  (∀ s : State, s.up → s.dev.prot.causes.any (fun c => c.src == 0x0A05) = true →
    ∃ d, exec .ulShutterClear s = .next (s.withDev d) ∧ d.prot.causes = s.dev.prot.causes.filter (fun c => c.src != 0x0A05) ∧
      d.out = [])

/-- O40 (R498, R500, chapter From power-up to first deblock). POR_AON, POR_CORE and RESET_N put every register at its reset value but those of
the safety island and, except for POR_AON, of AON, hold the head, show the source in GLB_RESET_CAUSE (beside earlier ones while the reset
lasts) and count once in GLB_RESET_COUNT, which POR_AON clears. RESET_N keeps the fault ring and the energy accumulators. The supervisor
watchdog and RESET of GLB_CTRL with key 0x5E7A do as RESET_N with their own cause; a halted head does not take the watchdog's, and RESET
without the key only clears it and is counted. POR_SAFE resets the island alone into SELFTEST with SO0 to SO3 off. RESET_RELEASE samples
the balls, draws a challenge from the model's free values, and boot is at stage OTP. -/
def Obligations.ResetSourcesResetAndKeep : Prop :=
  (let resets (s : State) (d : Dev) (src : Nat) (aon ring : Bool) : Prop :=
      d.boot.held = true ∧
      d.g F.GLB_RESET_CAUSE_CAUSE = (if s.dev.boot.held then setBit s.dev.boot.source src else setBit 0 src) % 128 ∧
      d.g F.GLB_RESET_COUNT = (if src = 0 then 0 else if s.dev.boot.held then s.dev.g F.GLB_RESET_COUNT
        else (s.dev.g F.GLB_RESET_COUNT + 1) % 2 ^ 32) ∧
      (∀ f : Fld, f.key ∉ [F.GLB_RESET_COUNT.key, F.GLB_RESET_CAUSE_CAUSE.key] →
        d.g f = if inSafe f.key || (aon && inAon f.key) then s.dev.g f else mget resetValues f.key % 2 ^ f.w) ∧
      d.isl = s.dev.isl ∧ d.sec.flash = s.dev.sec.flash ∧ d.svc.log = s.dev.svc.log ∧ d.out = [] ∧
      d.prot.ring = (if ring then s.dev.prot.ring else []) ∧ d.red.buf = (if aon then s.dev.red.buf else []) ∧
      d.met.accImport = (if ring then s.dev.met.accImport else 0) ∧ d.met.accExport = (if ring then s.dev.met.accExport else 0);
    (∀ (s : State) (t : Nat), ∃ d, exec (.porAon t) s = .next (s.withDev d) ∧ resets s d 0 false false) ∧
    (∀ (s : State) (t : Nat), ∃ d, exec (.porCore t) s = .next (s.withDev d) ∧ resets s d 1 true false) ∧
    (∀ (s : State) (t : Nat), ∃ d, exec (.resetN t) s = .next (s.withDev d) ∧ resets s d 3 true true) ∧
    (∀ (s : State) (t : Nat), s.up → s.dev.g F.GLB_BOOT_STATUS_STAGE ≠ 15 →
      ∃ d, exec (.supWdt t) s = .next (s.withDev d) ∧ resets s d 5 true true) ∧
    (∀ s : State, s.up → s.dev.hostMay 0x00006C 1 = true → s.dev.g F.GLB_BOOT_STATUS_STAGE ≠ 15 → s.dev.g F.GLB_RESET_KEY_KEY = 0x5E7A →
      ∃ d, exec .soft s = .next (s.withDev d) ∧ resets s d 4 true true)) ∧
  (∀ s : State, s.up → s.dev.hostMay 0x00006C 1 = true → s.dev.g F.GLB_RESET_KEY_KEY ≠ 0x5E7A →
    ∃ d, exec .soft s = .next (s.withDev d) ∧ s.dev.fresh.onlyRegs d ∧ d.g F.GLB_RESET_KEY_KEY = 0 ∧
      d.g F.GLB_RESET_REFUSE_COUNT = (s.dev.g F.GLB_RESET_REFUSE_COUNT + 1) % 2 ^ 32 ∧
      s.dev.regsBut d [F.GLB_RESET_KEY_KEY, F.GLB_RESET_REFUSE_COUNT]) ∧
  (∀ (s : State) (t : Nat), s.dev.boot.held = true ∨ s.dev.g F.GLB_BOOT_STATUS_STAGE = 15 →
    ∃ d, exec (.supWdt t) s = .next (s.withDev d) ∧ d = { s.dev.fresh with cad := d.cad }) ∧
  (∀ (s : State) (t : Nat), ∃ d, exec (.porSafe t) s = .next (s.withDev d) ∧ d.saf = stSelftest ∧ d.g F.SAF_IO_SO = 0 ∧
    d.isl.trip = true ∧ d.boot.held = s.dev.boot.held ∧
    d.g F.GLB_RESET_CAUSE_CAUSE = (if s.dev.boot.held then setBit s.dev.boot.source 2 else setBit 0 2) % 128 ∧
    (∀ f : Fld, inSafe f.key = false →
      f.key ∉ (faultFields ++ [F.PROT_CLASS_COUNT 3, F.GLB_RESET_CAUSE_CAUSE]).map Fld.key → d.g f = s.dev.g f)) ∧
  (∀ (s : State) (t pos unit : Nat), pos < 8 → unit < 2 →
    (s.dev.boot.held = true →
      ∃ d, exec (.resetRelease t pos unit) s = .next (s.withDev d) ∧ d.boot.held = false ∧ d.g F.GLB_BOOT_STATUS_STAGE = 1 ∧
        d.g F.GLB_BOOT_STATUS_POSITION = pos ∧ d.g F.GLB_BOOT_STATUS_UNIT = unit ∧ d.g F.RED_STATE_UNIT = unit ∧
        (∀ k, k < 4 → d.g (F.SEC_CHALLENGE_WORD k) = Config.free (s.dev.free + k) % 2 ^ 32) ∧ d.free = s.dev.free + 4 ∧
        s.dev.regsBut d [F.GLB_BOOT_STATUS_STAGE, F.GLB_BOOT_STATUS_POSITION, F.GLB_BOOT_STATUS_UNIT, F.RED_STATE_UNIT,
          F.SEC_CHALLENGE_WORD 0, F.SEC_CHALLENGE_WORD 1, F.SEC_CHALLENGE_WORD 2, F.SEC_CHALLENGE_WORD 3]) ∧
    (s.dev.boot.held = false →
      ∃ d, exec (.resetRelease t pos unit) s = .next (s.withDev d) ∧ d = { s.dev.fresh with cad := d.cad }))

/-- O41 (R485, R500, R502, chapter From power-up to first deblock). OTP shows the lifecycle and goes to REF, or with undecodable lifecycle
bits to HALTED with error 1. REF goes to BIST once the PLLs lock, else shows error 2 and stays. BIST goes to SLOTS, where the F4 of a
bolted island is raised, or to HALTED with error 3. SLOTS applies the first slot of the order that verifies (CONFIG_SOURCE 1 or 2), and
falls back to the second; with HOST_ONLY or no slot that verifies it goes to WAIT_HOST with error 4 and raises F1 BOOT_NO_CONFIG.
CONFIGURATION_COMPLETE at APPLY puts the container's configuration in force, stage CONFIGURED, hands the island its section, and the head
takes its start role. -/
def Obligations.BootStagesAdvanceHaltOrWait : Prop :=
  (∀ (s : State) (corr : Nat) (unc : List Nat), s.up → s.dev.stage = 1 →
    ∃ d, exec (.otpStage corr unc) s = .next (s.withDev d) ∧ d.sec.uncorr = unc ∧
      (∀ l, lifecycle s.otp unc = some l → d.g F.GLB_BOOT_STATUS_STAGE = 2 ∧ d.g F.SEC_LIFECYCLE_STATE = l) ∧
      (lifecycle s.otp unc = none → d.g F.GLB_BOOT_STATUS_STAGE = 15 ∧ d.g F.GLB_BOOT_STATUS_ERROR = 1 ∧
        d.g F.GLB_BOOT_FAIL_COUNT = (s.dev.g F.GLB_BOOT_FAIL_COUNT + 1) % 2 ^ 32) ∧
      d.g F.SEC_OTP_CORR_COUNT = (s.dev.g F.SEC_OTP_CORR_COUNT + corr) % 2 ^ 32 ∧
      d.g F.SEC_KEY_STATE_PROGRAMMED = keyMask (slotProgrammed s.otp) % 256 ∧ d.g F.SEC_OTP_SVN_CFG_MIN = svnMin s.otp 0 % 64 ∧
      (∀ k, k < 4 → d.g (F.SEC_UID_WORD k) = otpWord s.otp k % 2 ^ 32)) ∧
  (∀ (s : State) (t : Nat), s.up → s.dev.stage = 2 →
    (∃ d, exec (.refStage t true) s = .next (s.withDev d) ∧ d.g F.GLB_BOOT_STATUS_STAGE = 3 ∧ d.cad.tbLocked = true ∧
      s.dev.regsBut d [F.GLB_BOOT_STATUS_STAGE]) ∧
    (∃ d, exec (.refStage t false) s = .next (s.withDev d) ∧ d.g F.GLB_BOOT_STATUS_STAGE = 2 ∧ d.g F.GLB_BOOT_STATUS_ERROR = 2 ∧
      s.dev.regsBut d [F.GLB_BOOT_STATUS_ERROR])) ∧
  (∀ s : State, s.up → s.dev.stage = 3 →
    (s.dev.saf ≠ stBolted ∨ s.dev.prot.causes.any (fun c => c.src == 0x0802) = true →
      ∃ d, exec (.bistStage true) s = .next (s.withDev d) ∧ d.g F.GLB_BOOT_STATUS_STAGE = 4 ∧
        s.dev.regsBut d [F.GLB_BOOT_STATUS_STAGE] ∧ s.dev.fresh.onlyRegs d) ∧
    (s.dev.saf = stBolted → s.dev.prot.causes.any (fun c => c.src == 0x0802) = false →
      ∃ d, exec (.bistStage true) s = .next (s.withDev d) ∧ d.g F.GLB_BOOT_STATUS_STAGE = 4 ∧
        s.dev.faulted d 0x0802 4 (s.dev.g F.SAF_STATE_LOCK_CAUSE) ∧ s.dev.regsFault d 4 [F.GLB_BOOT_STATUS_STAGE]) ∧
    (∃ d, exec (.bistStage false) s = .next (s.withDev d) ∧ d.g F.GLB_BOOT_STATUS_STAGE = 15 ∧ d.g F.GLB_BOOT_STATUS_ERROR = 3 ∧
      d.g F.GLB_BOOT_FAIL_COUNT = (s.dev.g F.GLB_BOOT_FAIL_COUNT + 1) % 2 ^ 32 ∧
      s.dev.regsBut d [F.GLB_BOOT_STATUS_STAGE, F.GLB_BOOT_STATUS_ERROR, F.GLB_BOOT_FAIL_COUNT])) ∧
  (∀ (s : State) (t : Nat), s.up → s.dev.stage = 4 →
    let c : Chip := ⟨s.otp, s.dev.fresh.at t⟩
    let order := c.dev.slotOrder ([0, 1].filter (fun k => (step1 (c.dev.slotBytes k) 1).code == 0))
    (s.dev.b F.SEC_BOOT_CTRL_HOST_ONLY = false → ∀ (a : Nat) (r : List Nat), order = a :: r → (c.verify (c.dev.slotBytes a)).code = 0 →
      ∃ d, exec (.slotsStage t) s = .next (s.withDev d) ∧ d.g F.GLB_BOOT_STATUS_STAGE = 6 ∧ d.g F.SEC_CONFIG_SOURCE = a + 1 ∧
        d.boot.container = s.dev.slotBytes a ∧ d.b (F.SEC_SLOT_STATUS_TRIED a) = true ∧ d.g (F.SEC_SLOT_STATUS_STATUS a) = 0 ∧
        d.g F.SEC_REJECT_COUNT = s.dev.g F.SEC_REJECT_COUNT ∧ d.g F.SEC_FALLBACK_COUNT = s.dev.g F.SEC_FALLBACK_COUNT) ∧
    (s.dev.b F.SEC_BOOT_CTRL_HOST_ONLY = false → ∀ a b : Nat, order = [a, b] → (c.verify (c.dev.slotBytes a)).code ≠ 0 →
      (c.verify (c.dev.slotBytes b)).code = 0 →
      ∃ d, exec (.slotsStage t) s = .next (s.withDev d) ∧ d.g F.GLB_BOOT_STATUS_STAGE = 6 ∧ d.g F.SEC_CONFIG_SOURCE = b + 1 ∧
        d.boot.container = s.dev.slotBytes b ∧ d.g F.SEC_FALLBACK_COUNT = (s.dev.g F.SEC_FALLBACK_COUNT + 1) % 2 ^ 32) ∧
    (s.dev.b F.SEC_BOOT_CTRL_HOST_ONLY = true ∨ (∀ k, k ∈ order → (c.verify (c.dev.slotBytes k)).code ≠ 0) →
      ∃ d, exec (.slotsStage t) s = .next (s.withDev d) ∧ d.g F.GLB_BOOT_STATUS_STAGE = 5 ∧ d.g F.GLB_BOOT_STATUS_ERROR = 4 ∧
        d.g F.GLB_BOOT_FAIL_COUNT = (s.dev.g F.GLB_BOOT_FAIL_COUNT + 1) % 2 ^ 32 ∧
        (s.dev.redState ≠ 1 → d.hasCause 0x0B03 0 = true))) ∧
  (∀ (s : State) (t : Nat), s.up → s.dev.stage = 6 →
    ∃ d, exec (.configurationComplete t) s = .next (s.withDev d) ∧ d.g F.GLB_BOOT_STATUS_STAGE = 7 ∧ d.boot.container = [] ∧
      d.conf = confOf s.dev.boot.container ∧ d.b F.SEC_CONFIG_IN_FORCE = true ∧ d.g F.SEC_CONFIG_SEQ_SEQ = d.conf.seq % 2 ^ 32 ∧
      d.g F.SEC_CONFIG_SVN_CFG = d.conf.svn % 64 ∧ d.cad.now = s.dev.clockAt t ∧ d.isl.have_ = true ∧
      ((if d.unit = 0 then d.conf.startRoleA else d.conf.startRoleB) = 1 → d.redState = 2 ∧ d.g F.RED_STATE_PHASE = 2 ∧
        d.b F.RED_STATE_COLD = true) ∧
      ((if d.unit = 0 then d.conf.startRoleA else d.conf.startRoleB) ≠ 1 → d.redState = 1 ∧ d.g F.RED_STATE_PHASE = 7))

/-- O42 (R364, R486, R487, R498, chapter Configuration bitstream, signatures and lifecycle). LOAD starts in NONE and RELINQUISHED, elsewhere
it ends with STATE. When it completes, a container that fails is rejected with its status and CONFIG_REJECT; one that passes resets every
domain but AON, SAFE and HRP, counts the reset, shows cause LOAD, and is at APPLY with CONFIG_SOURCE 3. PROGRAM_SLOT rejects a container
that fails, is refused outside the NV window, and otherwise erases the slot and runs; its end shows a flash error, or the slot holds the
container. A bit of SEC_CMD written while another command runs starts nothing and makes the running command's result BUSY. -/
def Obligations.ContainersAreLoadedAndProgrammed : Prop :=
  (∀ s : State, s.up → s.dev.hostMay 0x140020 1 = true → s.dev.sec.running = none →
    ((s.dev.redState = 0 ∨ s.dev.redState = 4) →
      ∃ d, exec .load s = .next (s.withDev d) ∧ d.sec.running = some 0 ∧ d.sec.key = 0 ∧ d.b F.SEC_CMD_LOAD = true ∧
        s.dev.regsBut d [F.SEC_CMD_LOAD]) ∧
    (s.dev.redState ≠ 0 ∧ s.dev.redState ≠ 4 →
      ∃ d, exec .load s = .next (s.withDev d) ∧ d.sec.running = none ∧ d.g F.SEC_RESULT_CMD = 0 ∧ d.g F.SEC_RESULT_STATUS = srState ∧
        s.dev.regsBut d [F.SEC_CMD_LOAD, F.SEC_RESULT_CMD, F.SEC_RESULT_STATUS, F.SEC_RESULT_DETAIL])) ∧
  (∀ (s : State) (j : Nat), s.up → s.dev.hostMay 0x140020 1 = true → s.dev.sec.running = some j → j ≠ 0 →
    ∃ d, exec .load s = .next (s.withDev d) ∧ d.rf = s.dev.rf ∧ d.sec = { s.dev.sec with key := 0, busyHit := true }) ∧
  (∀ s : State, s.up → s.dev.hostMay 0x140020 1 = true → s.dev.sec.running = some 0 →
    ∃ d, exec .load s = .next (s.withDev d) ∧ d.rf = s.dev.rf ∧ d.sec = { s.dev.sec with key := 0 }) ∧
  (∀ (s : State) (t : Nat), s.up → s.dev.sec.running = some 0 →
    let c : Chip := ⟨s.otp, s.dev.fresh.at t⟩
    let bs := s.dev.windowContainer
    ((c.verify bs).code ≠ 0 →
      ∃ d, exec (.loadComplete t) s = .next (s.withDev d) ∧
        s.dev.rejected d 0 (if s.dev.sec.busyHit then srBusy else (c.verify bs).code % 256) (c.verify bs).code) ∧
    ((c.verify bs).code = 0 →
      ∃ d, exec (.loadComplete t) s = .next (s.withDev d) ∧ d.g F.GLB_BOOT_STATUS_STAGE = 6 ∧ d.g F.SEC_CONFIG_SOURCE = 3 ∧
        d.boot.container = bs ∧ d.boot.held = false ∧ d.sec.running = none ∧ d.g F.GLB_RESET_CAUSE_CAUSE = 2 ^ 6 ∧
        d.g F.SEC_RESULT_CMD = 0 ∧ d.g F.SEC_RESULT_STATUS = (if s.dev.sec.busyHit then srBusy else 0) ∧
        d.g F.GLB_RESET_COUNT = (s.dev.g F.GLB_RESET_COUNT + 1) % 2 ^ 32 ∧ d.isl = s.dev.isl ∧
        d.hrp = { s.dev.hrp with off := d.hrp.off } ∧ d.win = s.dev.win ∧ d.met.accImport = s.dev.met.accImport ∧
        d.met.accExport = s.dev.met.accExport ∧
        d.prot.ring = s.dev.prot.ring ∧ d.red.buf = s.dev.red.buf ∧ d.sec.flash = s.dev.sec.flash ∧ d.svc.log = s.dev.svc.log ∧
        (∀ f : Fld, f.key ∉ [F.GLB_RESET_COUNT, F.GLB_RESET_CAUSE_CAUSE, F.SEC_RESULT_CMD, F.SEC_RESULT_STATUS, F.SEC_RESULT_DETAIL,
            F.GLB_BOOT_STATUS_STAGE, F.SEC_CONFIG_SOURCE, F.SEC_CHALLENGE_WORD 0, F.SEC_CHALLENGE_WORD 1, F.SEC_CHALLENGE_WORD 2,
            F.SEC_CHALLENGE_WORD 3].map Fld.key →
          d.g f = if inSafe f.key || inAon f.key || inHrp f.key then s.dev.g f else mget resetValues f.key % 2 ^ f.w))) ∧
  (∀ s : State, s.up → s.dev.hostMay 0x140020 2 = true → s.dev.sec.running = none →
    let c : Chip := ⟨s.otp, (s.dev.fresh.secStart 1).2.2⟩
    let r := c.verify s.dev.windowContainer
    (r.code ≠ 0 → ∃ d, exec .programSlot s = .next (s.withDev d) ∧ s.dev.rejected d 1 (r.code % 256) r.code ∧ d.sec.key = 0) ∧
    (r.code = 0 → s.dev.b F.THM_STATUS_NV_OK = false →
      ∃ d, exec .programSlot s = .next (s.withDev d) ∧ s.dev.nvRefused d 1 srNvWindow ∧ d.sec.key = 0) ∧
    (r.code = 0 → s.dev.b F.THM_STATUS_NV_OK = true →
      ∃ d, exec .programSlot s = .next (s.withDev d) ∧ d.sec.running = some 1 ∧ d.sec.slot = s.dev.g F.SEC_CMD_ARG_SLOT ∧
        d.sec.flash = mset s.dev.sec.flash (s.dev.g F.SEC_CMD_ARG_SLOT) [] ∧ d.b F.SEC_CMD_PROGRAM_SLOT = true ∧
        s.dev.regsBut d [F.SEC_CMD_PROGRAM_SLOT])) ∧
  (∀ (s : State) (good : Bool), s.up → s.dev.sec.running = some 1 →
    let code (c : Nat) : Nat := if s.dev.sec.busyHit then srBusy else c;
    (s.dev.b F.THM_STATUS_NV_OK = true →
      ∃ d, exec (.programSlotComplete good) s = .next (s.withDev d) ∧ s.dev.secEnded d 1 (code (if good then 0 else srFlash)) [] ∧
        d.b F.SEC_CMD_PROGRAM_SLOT = false ∧
        d.sec.flash = (if good then mset s.dev.sec.flash s.dev.sec.slot s.dev.windowContainer else s.dev.sec.flash)) ∧
    (s.dev.b F.THM_STATUS_NV_OK = false →
      ∃ d, exec (.programSlotComplete good) s = .next (s.withDev d) ∧ s.dev.nvRefused d 1 (code srNvWindow)))

/-- O43 (R364, R484, R488, R489, R490, R495, chapter Configuration bitstream, signatures and lifecycle). Without its key each of the three
ends with BADKEY and programs nothing; PROVISION outside BLANK and DEPLOY outside PROVISIONED end with LIFECYCLE. PROVISION in BLANK, with
both K2 hashes and the NV window, makes the identity rows and owner slots and runs; PROVISION_COMPLETE sets the PROVISIONED bit alone and
ends with OK. DEPLOY in PROVISIONED sets the DEPLOYED bit. Neither changes another word of OTP. ADVANCE_SVN sets the thermometer bits of
an SVN in force that is above its minimum, and programs nothing when both are at or below it. Outside the NV window each ends with
NV_WINDOW and programs nothing; PROVISION without a K2 hash ends with FORMAT, against another hash in a slot with OTP_CONFLICT. -/
def Obligations.LifecycleAndSvnAreProgrammedOnceKeyed : Prop :=
  (∀ s : State, s.up → s.dev.sec.running = none → ∀ r ∈ [(Instr.provision, 5, 0xA11B), (Instr.deploy, 6, 0x9E3D), (Instr.advanceSvn, 4, 0x51F0)],
    s.dev.hostMay 0x140020 (2 ^ r.2.1) = true → s.dev.sec.key ≠ r.2.2 →
    ∃ d, exec r.1 s = .next (s.withDev d) ∧ s.dev.secEnded d r.2.1 srBadKey [] ∧ d.sec.key = 0) ∧
  (∀ s : State, s.up → s.dev.sec.running = none →
    ∀ r ∈ [(Instr.provision, 5, 0xA11B, lifeBits s.otp = 0), (Instr.deploy, 6, 0x9E3D, lifeBits s.otp = 1),
      (Instr.advanceSvn, 4, 0x51F0, svnMin s.otp 0 < s.dev.g F.SEC_CONFIG_SVN_CFG ∨ svnMin s.otp 1 < s.dev.g F.SEC_CONFIG_SVN_FW)],
    s.dev.hostMay 0x140020 (2 ^ r.2.1) = true → s.dev.sec.key = r.2.2.1 →
    (r.2.2.2 → s.dev.b F.THM_STATUS_NV_OK = false →
      ∃ d, exec r.1 s = .next (s.withDev d) ∧ s.dev.nvRefused d r.2.1 srNvWindow ∧ d.sec.key = 0) ∧
    (¬r.2.2.2 → r.2.1 ≠ 4 →
      ∃ d, exec r.1 s = .next (s.withDev d) ∧ s.dev.secEnded d r.2.1 srLifecycle [] ∧ d.sec.key = 0)) ∧
  (∀ s : State, s.up → s.dev.hostMay 0x140020 32 = true → s.dev.sec.running = none → s.dev.sec.key = 0xA11B →
    lifeBits s.otp = 0 → s.dev.b F.THM_STATUS_NV_OK = true →
    let rows := makeRows s.otp s.dev.sec.uncorr s.dev.free;
    let hashes : Prop := allZero (s.dev.winBytes 1 0 48) = false ∧ allZero (s.dev.winBytes 1 24 48) = false;
    (¬hashes → ∃ d, exec .provision s = .next (s.withDev d) ∧ s.dev.secEnded d 5 srFormat [] ∧ d.sec.key = 0) ∧
    (hashes → programOwners rows s.dev.ownerHashes = none →
      ∃ d, exec .provision s = .next (s.withHead rows d) ∧ s.dev.secEnded d 5 srOtpConflict [] ∧ d.sec.key = 0 ∧ d.free = s.dev.free + 1) ∧
    (hashes → ∀ o : SMap Nat, programOwners rows s.dev.ownerHashes = some o →
      ∃ d, exec .provision s = .next (s.withHead o d) ∧ d.sec.running = some 5 ∧ d.sec.key = 0 ∧ d.b F.SEC_CMD_PROVISION = true ∧
        d.g F.SEC_KEY_STATE_PROGRAMMED = keyMask (slotProgrammed o) % 256 ∧ d.free = s.dev.free + 1)) ∧
  (∀ s : State, s.up → s.dev.sec.running = some 5 →
    let code (c : Nat) : Nat := if s.dev.sec.busyHit then srBusy else c;
    (lifeBits s.otp = 0 → s.dev.b F.THM_STATUS_NV_OK = true →
      ∃ (o : SMap Nat) (d : Dev), exec .provisionComplete s = .next (s.withHead o d) ∧ lifeBits o = 1 ∧
        (∀ i, i < 4 ∨ 7 ≤ i → otpWord o i = otpWord s.otp i) ∧ d.sec.running = none ∧ d.b F.SEC_CMD_PROVISION = false ∧
        d.g F.SEC_LIFECYCLE_STATE = (lifecycle o s.dev.sec.uncorr).getD 0 ∧ d.g F.SEC_RESULT_STATUS = code 0) ∧
    (lifeBits s.otp = 0 → s.dev.b F.THM_STATUS_NV_OK = false →
      ∃ d, exec .provisionComplete s = .next (s.withDev d) ∧ s.dev.nvRefused d 5 (code srNvWindow)) ∧
    (lifeBits s.otp ≠ 0 →
      ∃ d, exec .provisionComplete s = .next (s.withDev d) ∧ s.dev.secEnded d 5 (code srLifecycle) [])) ∧
  (∀ s : State, s.up → s.dev.hostMay 0x140020 64 = true → s.dev.sec.running = none → s.dev.sec.key = 0x9E3D → lifeBits s.otp = 1 →
    s.dev.b F.THM_STATUS_NV_OK = true →
    ∃ (o : SMap Nat) (d : Dev), exec .deploy s = .next (s.withHead o d) ∧ lifeBits o = 3 ∧
      (∀ i, i < 4 ∨ 10 ≤ i → otpWord o i = otpWord s.otp i) ∧ d.sec.running = none ∧
      d.g F.SEC_LIFECYCLE_STATE = (lifecycle o s.dev.sec.uncorr).getD 0 ∧ d.g F.SEC_RESULT_STATUS = 0) ∧
  (∀ s : State, s.up → s.dev.hostMay 0x140020 16 = true → s.dev.sec.running = none → s.dev.sec.key = 0x51F0 →
    let a := s.dev.g F.SEC_CONFIG_SVN_CFG
    let b := s.dev.g F.SEC_CONFIG_SVN_FW
    (a ≤ svnMin s.otp 0 → b ≤ svnMin s.otp 1 →
      ∃ d, exec .advanceSvn s = .next (s.withDev d) ∧ d.g F.SEC_RESULT_STATUS = 0 ∧ d.g F.SEC_RESULT_CMD = 4) ∧
    ((svnMin s.otp 0 < a ∨ svnMin s.otp 1 < b) → s.dev.b F.THM_STATUS_NV_OK = true →
      ∃ (o : SMap Nat) (d : Dev), exec .advanceSvn s = .next (s.withHead o d) ∧ d.g F.SEC_RESULT_STATUS = 0 ∧
        otpWord o 0x88 = otpWord s.otp 0x88 ||| (if a ≤ svnMin s.otp 0 then 0 else thermo a) ∧
        otpWord o 0x89 = otpWord s.otp 0x89 ||| (if b ≤ svnMin s.otp 1 then 0 else thermo b) ∧
        (∀ i, i ≠ 0x88 → i ≠ 0x89 → otpWord o i = otpWord s.otp i) ∧ d.g F.SEC_OTP_SVN_CFG_MIN = svnMin o 0 % 64))

/-- O44 (R491, R492, R493, R494, chapter Configuration bitstream, signatures and lifecycle). UNLOCK shows the features and seconds; REVOKE
sets the slot's revocation bit alone; RETIRE leaves all lifecycle bits set. A token that fails is counted and programs nothing. After each
a new challenge from the model's free values stands. LOCK, and the passing of DURATION, clear every unlocked feature. ATTEST in
PROVISIONED or DEPLOYED takes the nonce and runs; ATTEST_COMPLETE keeps the report, counts and ends with OK; in BLANK and RETIRED ATTEST
ends with LIFECYCLE. -/
def Obligations.TokensUnlockRevokeAndRetireOnce : Prop :=
  (∀ s : State, s.up → s.dev.hostMay 0x140020 4 = true → s.dev.sec.running = none →
    let bs := s.dev.winBytes 0 0 tokenLen
    let r := Chip.tokenCheck ⟨s.otp, s.dev⟩ bs
    let ends (d : Dev) : Prop := d.sec.running = none ∧ d.g F.SEC_RESULT_CMD = 2 ∧ d.g F.SEC_RESULT_STATUS = r.code % 256 ∧
      ∀ k, k < 4 → d.g (F.SEC_CHALLENGE_WORD k) = Config.free (s.dev.free + k) % 2 ^ 32;
    (r.code = 0 → beAt bs 5 1 = 1 →
      ∃ d, exec .token s = .next (s.withDev d) ∧ ends d ∧ d.g F.SEC_LIFECYCLE_UNLOCKED = beAt bs 40 4 % 16 ∧
        d.g F.SEC_UNLOCK_REMAIN_SECONDS = beAt bs 44 4 % 2 ^ 17 ∧ d.sec.unlockEnd = s.dev.cad.now + beAt bs 44 4 * secQ) ∧
    (r.code = 0 → beAt bs 5 1 = 2 →
      ∃ (o : SMap Nat) (d : Dev), exec .token s = .next (s.withHead o d) ∧ ends d ∧
        (∀ k, k < 3 → (otpWord o (revAt (revAlg bs) (revSlot bs) + k)).testBit 0 = true) ∧
        (∀ i, i < revAt (revAlg bs) (revSlot bs) ∨ revAt (revAlg bs) (revSlot bs) + 3 ≤ i → otpWord o i = otpWord s.otp i)) ∧
    (r.code = 0 → beAt bs 5 1 = 3 →
      ∃ (o : SMap Nat) (d : Dev), exec .token s = .next (s.withHead o d) ∧ ends d ∧ lifeBits o = 7 ∧
        (∀ i, rsaRow ≤ i → i < slhRow + slhRowWords → otpWord o i = otpWord s.otp i ||| 0xFFFFFFFF)) ∧
    (r.code ≠ 0 →
      ∃ d, exec .token s = .next (s.withDev d) ∧ ends d ∧
        d.g F.SEC_TOKEN_REFUSE_COUNT = (s.dev.g F.SEC_TOKEN_REFUSE_COUNT + 1) % 2 ^ 32 ∧
        d.g F.SEC_LIFECYCLE_UNLOCKED = s.dev.g F.SEC_LIFECYCLE_UNLOCKED ∧
        (s.dev.redState ≠ 1 → d.hasCause 0x0B05 r.code = true))) ∧
  (∀ s : State, s.up → s.dev.hostMay 0x140020 128 = true → s.dev.sec.running = none →
    ∃ d, exec .lock s = .next (s.withDev d) ∧ d.g F.SEC_LIFECYCLE_UNLOCKED = 0 ∧ d.g F.SEC_UNLOCK_REMAIN_SECONDS = 0 ∧
      d.g F.SEC_RESULT_CMD = 7 ∧ d.g F.SEC_RESULT_STATUS = 0) ∧
  (∀ (s : State) (t : Nat), s.up → s.dev.g F.SEC_LIFECYCLE_UNLOCKED ≠ 0 → s.dev.sec.unlockEnd ≤ s.dev.clockAt t →
    ∃ d, exec (.unlockExpiry t) s = .next (s.withDev d) ∧ d.g F.SEC_LIFECYCLE_UNLOCKED = 0 ∧ d.g F.SEC_UNLOCK_REMAIN_SECONDS = 0 ∧
      s.dev.regsBut d [F.SEC_LIFECYCLE_UNLOCKED, F.SEC_UNLOCK_REMAIN_SECONDS, F.PROT_STATUS_WARN, F.PROT_STATUS_DERATE,
        F.PROT_STATUS_HOLD]) ∧
  (∀ s : State, s.up → s.dev.hostMay 0x140020 8 = true → s.dev.sec.running = none →
    let l := (lifecycle s.otp s.dev.sec.uncorr).getD 0
    (l = 0 ∨ l = 7 → ∃ d, exec .attest s = .next (s.withDev d) ∧ d.g F.SEC_RESULT_STATUS = srLifecycle ∧ d.g F.SEC_RESULT_CMD = 3 ∧
      d.sec.running = none ∧ d.sec.report = s.dev.sec.report) ∧
    (l ≠ 0 → l ≠ 7 → s.dev.redState ≠ 1 → rowsReadable s.dev.sec.uncorr = true →
      ∃ d, exec .attest s = .next (s.withDev d) ∧ d.sec.running = some 3 ∧ d.sec.nonceIndex = s.dev.g F.SEC_CMD_ARG_NONCE ∧
        d.sec.nonce = s.dev.winBytes 1 (s.dev.g F.SEC_CMD_ARG_NONCE) 48 ∧ d.b F.SEC_CMD_ATTEST = true ∧
        s.dev.regsBut d [F.SEC_CMD_ATTEST])) ∧
  (∀ s : State, s.up → s.dev.sec.running = some 3 →
    ∃ d, exec .attestComplete s = .next (s.withDev d) ∧ d.sec.running = none ∧
      d.sec.report = some ⟨Chip.reportBytes ⟨s.otp, s.dev.fresh⟩, s.dev.sec.nonceIndex, s.dev.sec.nonce⟩ ∧
      d.g F.SEC_ATTEST_COUNT = (s.dev.g F.SEC_ATTEST_COUNT + 1) % 2 ^ 32 ∧ d.free = s.dev.free + 1 ∧
      d.g F.SEC_RESULT_STATUS = (if s.dev.sec.busyHit then srBusy else 0) ∧
      s.dev.regsBut d [F.SEC_ATTEST_COUNT, F.SEC_CMD_ATTEST, F.SEC_RESULT_CMD, F.SEC_RESULT_STATUS, F.SEC_RESULT_DETAIL])

/-- O45 (R508, R511, R513, R517, chapter From power-up to first deblock). START in DEENERGIZED or ABORTED is counted; when every check passes
the lead is ENERGIZING in PRECHARGE with WAIT_HOST set and the step's timeout fixed, otherwise ABORTED with the first failing check's
result and detail. While ENERGIZING it has no effect, in ENERGIZED it is refused and counted. CONFIRM with WAIT_HOST is taken for the
frame's work, else counted as refused; ABORT while ENERGIZING is taken. DISCHARGED in ENERGIZED or ABORTED with both arms latched or held
leads to DEENERGIZED. The timeout of a step that has not ended ends the sequence with TIMEOUT and the step, in CELLS_UP with CELLS and the
arms that lack cells, and counts; both arms are held again where they were not. A condition of R511 comes first and ends it with its own
result, then the end of the step, which goes on or, after the last, ends ENERGIZED. -/
def Obligations.EnergizationStartsWaitsAbortsAndTimesOut : Prop :=
  (∀ s : State, s.up → s.dev.hostMay 0x160700 1 = true →
    (s.dev.engState ≠ 1 → s.dev.engState ≠ 2 → s.dev.engChecks = none →
      ∃ d, exec .start s = .next (s.withDev d) ∧ d.engState = 1 ∧ d.engStep = engPrecharge ∧ d.b F.AV_ENG_STATUS_WAIT_HOST = true ∧
        d.b F.AV_ENG_CMD_START = true ∧ d.g F.AV_ENG_START_COUNT = (s.dev.g F.AV_ENG_START_COUNT + 1) % 2 ^ 32 ∧
        d.eng.frames = 0 ∧ d.eng.confirm = false ∧ d.eng.abort = false ∧
        d.eng.limit = (s.dev.g F.AV_ENG_TIMEOUT_A_CLOSE * secQ + max 1 s.dev.periodQ - 1) / max 1 s.dev.periodQ) ∧
    (∀ c : Nat × Nat, s.dev.engState ≠ 1 → s.dev.engState ≠ 2 → s.dev.engChecks = some c →
      ∃ d, exec .start s = .next (s.withDev d) ∧ d.engState = 3 ∧ d.engStep = 0 ∧ d.g F.AV_ENG_STATUS_RESULT = c.1 % 256 ∧
        d.g F.AV_ENG_STATUS_DETAIL = c.2 % 256 ∧ d.b F.AV_ENG_CMD_START = false ∧
        d.g F.AV_ENG_START_COUNT = (s.dev.g F.AV_ENG_START_COUNT + 1) % 2 ^ 32 ∧ d.g F.AV_ENG_ABORT_COUNT = s.dev.g F.AV_ENG_ABORT_COUNT) ∧
    (s.dev.engState = 1 → exec .start s = .next (s.withDev s.dev.fresh)) ∧
    (s.dev.engState = 2 → ∃ d, exec .start s = .next (s.withDev d) ∧
      d.g F.AV_ENG_REFUSE_COUNT = (s.dev.g F.AV_ENG_REFUSE_COUNT + 1) % 2 ^ 32 ∧ s.dev.regsBut d [F.AV_ENG_REFUSE_COUNT] ∧
      s.dev.fresh.onlyRegs d)) ∧
  (∀ s : State, s.up → s.dev.hostMay 0x160700 2 = true →
    (s.dev.b F.AV_ENG_STATUS_WAIT_HOST = true → ∃ d, exec .confirm s = .next (s.withDev d) ∧ d.eng = { s.dev.eng with confirm := true } ∧
      d.b F.AV_ENG_CMD_CONFIRM = true ∧ s.dev.regsBut d [F.AV_ENG_CMD_CONFIRM]) ∧
    (s.dev.b F.AV_ENG_STATUS_WAIT_HOST = false → ∃ d, exec .confirm s = .next (s.withDev d) ∧
      d.g F.AV_ENG_REFUSE_COUNT = (s.dev.g F.AV_ENG_REFUSE_COUNT + 1) % 2 ^ 32 ∧ s.dev.regsBut d [F.AV_ENG_REFUSE_COUNT] ∧
      s.dev.fresh.onlyRegs d)) ∧
  (∀ s : State, s.up → s.dev.hostMay 0x160700 4 = true →
    (s.dev.engState = 1 → ∃ d, exec .abort s = .next (s.withDev d) ∧ d.eng = { s.dev.eng with abort := true } ∧
      d.b F.AV_ENG_CMD_ABORT = true ∧ s.dev.regsBut d [F.AV_ENG_CMD_ABORT]) ∧
    (s.dev.engState ≠ 1 → exec .abort s = .next (s.withDev s.dev.fresh))) ∧
  (∀ s : State, s.up → s.dev.hostMay 0x160700 8 = true →
    let may : Bool := (s.dev.engState == 2 || s.dev.engState == 3) &&
      ((s.dev.b F.PROT_STATUS_LATCHED0 && s.dev.b F.PROT_STATUS_LATCHED1) || s.dev.red.hold)
    ∃ d, exec .discharged s = .next (s.withDev d) ∧ d.engState = (if may then 0 else s.dev.engState) ∧
      d.g F.AV_ENG_REFUSE_COUNT = (if may then s.dev.g F.AV_ENG_REFUSE_COUNT else (s.dev.g F.AV_ENG_REFUSE_COUNT + 1) % 2 ^ 32) ∧
      s.dev.regsBut d [F.AV_ENG_STATUS_STATE, F.AV_ENG_REFUSE_COUNT] ∧ s.dev.fresh.onlyRegs d) ∧
  (∀ s : State, s.up → s.dev.isLead = true → s.dev.engState = 1 → 2 ≤ s.dev.engStep → s.dev.eng.limit ≤ s.dev.eng.frames →
    (∀ c : Nat × Nat, s.dev.engCondition = some c →
      ∃ d, exec .engStepTimeout s = .next (s.withDev d) ∧ d.engState = 3 ∧ d.engStep = 0 ∧ d.b F.AV_ENG_STATUS_WAIT_HOST = false ∧
        d.g F.AV_ENG_STATUS_RESULT = c.1 % 256 ∧ d.g F.AV_ENG_STATUS_DETAIL = c.2 % 256 ∧
        d.g F.AV_ENG_ABORT_COUNT = (s.dev.g F.AV_ENG_ABORT_COUNT + 1) % 2 ^ 32 ∧ d.red.hold = true ∧
        (c.1 = 3 → s.dev.faulted d 0x0707 1 0)) ∧
    (s.dev.engCondition = none → s.dev.engEnds s.dev.engStep = true → s.dev.engStep ≤ engResistor →
      ∃ d, exec .engStepTimeout s = .next (s.withDev d) ∧ d.g F.AV_ENG_ABORT_COUNT = s.dev.g F.AV_ENG_ABORT_COUNT ∧
        ((d.engState = 1 ∧ s.dev.engStep < d.engStep) ∨ (d.engState = 2 ∧ d.engStep = 0 ∧ d.g F.AV_ENG_STATUS_RESULT = 1)) ∧
        (s.dev.engStep = engResistor → d.engState = 2)) ∧
    (s.dev.engCondition = none → s.dev.engEnds s.dev.engStep = false →
      ∃ d, exec .engStepTimeout s = .next (s.withDev d) ∧ d.engState = 3 ∧ d.engStep = 0 ∧
        (s.dev.engStep ≠ engCellsUp → d.g F.AV_ENG_STATUS_RESULT = 4 ∧ d.g F.AV_ENG_STATUS_DETAIL = s.dev.engStep) ∧
        (s.dev.engStep = engCellsUp → d.g F.AV_ENG_STATUS_RESULT = 5 ∧ d.g F.AV_ENG_STATUS_DETAIL =
          bit (decide (s.dev.readyOf 0 < s.dev.needed 0)) + 2 * bit (decide (s.dev.readyOf 1 < s.dev.needed 1))) ∧
        d.g F.AV_ENG_ABORT_COUNT = (s.dev.g F.AV_ENG_ABORT_COUNT + 1) % 2 ^ 32 ∧ d.b F.AV_ENG_STATUS_WAIT_HOST = false ∧
        d.red.hold = true ∧ (s.dev.red.hold = false ∨ s.dev.red.resumeAt.isSome = true → d.eng.holdDue = true)))

/-- O46 (R519, R520, R522, R523, R532, chapter Supervisor services and the Rondi monitor). A submission that passes R520's checks gets the
next ticket, is counted, and stands behind the other requests of its queue; one that fails shows the first failing check and is counted.
An ended request at the front of its queue joins the done list of at most 16, and is counted where its result is not OK; a full list holds
it. NEXT loads ticket, code, result and data into SVC_RESULT and window 3 and clears the window's pointer; with an empty list it loads
ticket 0 and clears the window. CANCEL ends a queued request with CANCELLED, marks a running one, and is counted when the ticket has
ended. -/
def Obligations.RequestsAreQueuedEndedCancelledAndRead : Prop :=
  (∀ s : State, s.up → s.dev.hostMay 0x150004 1 = true →
    let code := s.dev.g F.SVC_REQ_CODE
    let q := s.dev.g F.SVC_REQ_QUEUE
    let n := s.dev.g F.SVC_REQ_ARG_WORDS
    let st := s.dev.svcCheck code q n
    (st = svOk → ∃ d, exec .submit s = .next (s.withDev d) ∧ d.g F.SVC_SUBMIT_RESULT_STATUS = 0 ∧
      d.g F.SVC_SUBMIT_RESULT_TICKET = s.dev.svc.nextTicket % 65536 ∧ d.g F.SVC_SUBMIT_COUNT = (s.dev.g F.SVC_SUBMIT_COUNT + 1) % 2 ^ 32 ∧
      d.svc.nextTicket = nextTicket s.dev.svc.nextTicket ∧ d.g (F.svcDepth q) = (s.dev.svcQueue q).length + 1 ∧
      (let r : SvcReq := default
       d.svc.reqs = s.dev.svc.reqs ++
         [{ r with ticket := s.dev.svc.nextTicket, code := code, queue := q, args := (List.range n).map (s.dev.winWord 1) }])) ∧
    (st ≠ svOk → ∃ d, exec .submit s = .next (s.withDev d) ∧ d.g F.SVC_SUBMIT_RESULT_STATUS = st ∧
      d.g F.SVC_REFUSE_COUNT = (s.dev.g F.SVC_REFUSE_COUNT + 1) % 2 ^ 32 ∧
      s.dev.regsBut d [F.SVC_SUBMIT_RESULT_STATUS, F.SVC_REFUSE_COUNT] ∧ s.dev.fresh.onlyRegs d)) ∧
  (∀ (s : State) (q : Nat) (r : SvcReq) (res : Nat), s.up → q < 16 → (s.dev.svcQueue q).head? = some r → r.ended = some res →
    (s.dev.svc.done.length < 16 → ∃ d, exec (.serviceEnd q) s = .next (s.withDev d) ∧
      d.svc.done = s.dev.svc.done ++ [⟨r.ticket, r.code, res, r.data⟩] ∧ d.g F.SVC_RESULT_INFO_DONE = s.dev.svc.done.length + 1 ∧
      (s.dev.svc.autoLog = false → d.svc.reqs = s.dev.svc.reqs.filter (fun x => x.ticket != r.ticket)) ∧
      d.g F.SVC_FAIL_COUNT = (if res = 0 then s.dev.g F.SVC_FAIL_COUNT else (s.dev.g F.SVC_FAIL_COUNT + 1) % 2 ^ 32)) ∧
    (16 ≤ s.dev.svc.done.length → exec (.serviceEnd q) s = .next (s.withDev s.dev.fresh))) ∧
  (∀ (s : State) (q : Nat), s.up → q < 16 → (∀ r : SvcReq, (s.dev.svcQueue q).head? = some r → r.ended = none) →
    exec (.serviceEnd q) s = .next (s.withDev s.dev.fresh)) ∧
  (∀ s : State, s.up → s.dev.hostMay 0x15000C 1 = true →
    (s.dev.svc.done = [] → ∃ d, exec .next s = .next (s.withDev d) ∧ d.g F.SVC_RESULT_TICKET = 0 ∧ d.g F.SVC_RESULT_INFO_WORDS = 0 ∧
      d.g F.DW_PTR3_PTR = 0 ∧ (∀ i, i < 2 ^ 20 → d.winWord 3 i = 0) ∧ d.svc = s.dev.svc) ∧
    (∀ (r : SvcDone) (rest : List SvcDone), s.dev.svc.done = r :: rest → ∃ d, exec .next s = .next (s.withDev d) ∧
      d.g F.SVC_RESULT_TICKET = r.ticket % 65536 ∧ d.g F.SVC_RESULT_CODE = r.code % 256 ∧ d.g F.SVC_RESULT_RESULT = r.result % 256 ∧
      d.g F.SVC_RESULT_INFO_WORDS = r.data.length % 2 ^ 11 ∧ d.g F.SVC_RESULT_INFO_DONE = rest.length % 32 ∧ d.g F.DW_PTR3_PTR = 0 ∧
      (∀ i, i < 2 ^ 20 → d.winWord 3 i = (r.data[i]?).getD 0 % 2 ^ 32) ∧ d.svc = { s.dev.svc with done := rest } ∧
      (∀ w i, w < 3 → i < 2 ^ 20 → d.winWord w i = s.dev.winWord w i))) ∧
  (∀ (s : State) (t : Nat), s.up → t < 2 ^ 16 → s.dev.hostMay 0x150018 (t + 2 ^ 31) = true →
    (s.dev.svc.reqs.find? (fun r => r.ticket == t && r.ended.isNone) = none → ∃ d, exec (.cancel t) s = .next (s.withDev d) ∧
      d.g F.SVC_REFUSE_COUNT = (s.dev.g F.SVC_REFUSE_COUNT + 1) % 2 ^ 32 ∧ d.svc = s.dev.svc) ∧
    (∀ r : SvcReq, s.dev.svc.reqs.find? (fun r => r.ticket == t && r.ended.isNone) = some r →
      ∃ d r', exec (.cancel t) s = .next (s.withDev d) ∧ r' ∈ d.svc.reqs ∧ r'.ticket = t ∧ r'.queue = r.queue ∧ r'.data = r.data ∧
        (r.running = false → r'.ended = some svCancelled) ∧ (r.running = true → r'.cancel = true ∧ r'.ended = none)))

/-- O47 (R523, R524, R525, R526, R527, R528, R529, R530, chapter Supervisor services and the Rondi monitor). ENERGY_START under its conditions
sets ENERGY and ends OK, else STATE. ENERGY_STOP asks for the stop while ENERGY stands, else ends with the joules. MET_CHECK adds a
converter's two codes, or marks a busy one and ends PARTIAL. FW_DISTRIBUTE of a bad length ends BADARG, and otherwise keeps a result byte
for each lane until every lane of the mask is done. LOG_FAULTS copies the oldest record; LOG_CHECKPOINT the next part of a buffer that
holds a valid checkpoint, else ends STATE; LOG_READ the next entry; LOG_ERASE needs its key and erases the next sector. Outside the NV
window the log writes end NV_WINDOW, a flash error ends FLASH. A request told to cancel or stand down ends so at this step. -/
def Obligations.ServicesAdvanceOneBoundaryAStep : Prop :=
  (∀ (s : State) (q t : Nat) (r : SvcReq), s.up → q < 16 → s.dev.serves 1 q r →
    ∃ d, exec (.energyStart q t) s = .next (s.withDev d) ∧ d.frontEnds q (if s.dev.energyOk then svOk else svState) [] ∧
      d.b F.MET_STATUS_ENERGY = (s.dev.energyOk || s.dev.b F.MET_STATUS_ENERGY) ∧
      (s.dev.energyOk = true → d.metBusy 0 = true ∧ d.metBusy 1 = true)) ∧
  (∀ (s : State) (q : Nat) (r : SvcReq), s.up → q < 16 → s.dev.serves 2 q r →
    ∃ d, exec (.energyStop q) s = .next (s.withDev d) ∧
      (s.dev.b F.MET_STATUS_ENERGY = true → d.met.stopping = true ∧ d.frontGoesOn q r.data) ∧
      (s.dev.b F.MET_STATUS_ENERGY = false → d.frontEnds q svOk (joules s.dev.met.accImport ++ joules s.dev.met.accExport))) ∧
  (∀ (s : State) (q : Nat) (zero ref : Int) (r : SvcReq), s.up → q < 16 → s.dev.serves 3 q r →
    (16 ≤ argAt r 0 → ∃ d, exec (.metCheck q zero ref) s = .next (s.withDev d) ∧ d.frontEnds q svBadArg []) ∧
    (∀ c, argAt r 0 < 16 → (List.range 4).find? (fun c => decide (r.next ≤ c) && (argAt r 0).testBit c) = some c →
      let skip := s.dev.metBusy c || (decide (c < 2) && s.dev.b F.MET_STATUS_ENERGY)
      let data := r.data ++ (if skip then [0xFFFFFFFF, 0xFFFFFFFF] else [codeWord zero, codeWord ref])
      ∃ d, exec (.metCheck q zero ref) s = .next (s.withDev d) ∧
        (if (List.range 4).any (fun k => decide (c < k) && (argAt r 0).testBit k) then d.frontGoesOn q data
         else d.frontEnds q (if r.partly || skip then svPartial else svOk) data))) ∧
  (∀ (s : State) (q : Nat) (r : SvcReq), s.up → q < 16 → s.dev.serves 4 q r →
    ((fwLen r = 0 ∨ 262144 < fwLen r) → ∃ d, exec (.fwDistribute q) s = .next (s.withDev d) ∧ d.frontEnds q svBadArg []) ∧
    (0 < fwLen r → fwLen r ≤ 262144 → ∃ d r', exec (.fwDistribute q) s = .next (s.withDev d) ∧ (d.svcQueue q).head? = some r' ∧
      r'.ticket = r.ticket ∧ r'.data = fwWords r'.lanes ∧
      r'.ended = (if 64 ≤ r'.next ∧ r'.open_ = [] then
        some (if (List.range 64).all (fun l => !(fwMask r).testBit l || mget r'.lanes l == 1) then svOk else svPartial) else none))) ∧
  (∀ (s : State) (q : Nat) (good : Bool) (r : SvcReq), s.up → q < 16 → s.dev.serves 5 q r →
    let n := (s.dev.g F.SVC_LOG_STATE_LOG_SEQ + 1) % 2 ^ 24
    (s.dev.unlogged = none → ∃ d, exec (.logFaults q good) s = .next (s.withDev d) ∧ d.frontEnds q svOk [r.next]) ∧
    (∀ (slot : Nat) (x : FaultRec), s.dev.unlogged = some (slot, x) →
      (s.dev.b F.THM_STATUS_NV_OK = true → good = true → ∃ d, exec (.logFaults q good) s = .next (s.withDev d) ∧
        d.g F.SVC_LOG_STATE_LOG_SEQ = n ∧
        mget d.svc.log s.dev.logNext = s.dev.logBytes 1 n ((recordWords s.dev x).flatMap (be 4)) ∧
        mget d.prot.ring slot = some { x with logged := true } ∧
        (if d.unlogged.isNone then d.frontEnds q svOk [r.next + 1] else d.frontGoesOn q [r.next + 1])) ∧
      (s.dev.b F.THM_STATUS_NV_OK = false → ∃ d, exec (.logFaults q good) s = .next (s.withDev d) ∧ d.frontEnds q svNvWindow [r.next] ∧
        d.g F.THM_NV_REFUSE_COUNT = (s.dev.g F.THM_NV_REFUSE_COUNT + 1) % 2 ^ 32 ∧ d.svc.log = s.dev.svc.log) ∧
      (s.dev.b F.THM_STATUS_NV_OK = true → good = false → ∃ d, exec (.logFaults q good) s = .next (s.withDev d) ∧
        d.frontEnds q svFlash [r.next] ∧ s.dev.faulted d 0x0B11 1 5 ∧ d.svc.log = s.dev.svc.log))) ∧
  (∀ (s : State) (q : Nat) (good : Bool) (r : SvcReq), s.up → q < 16 → s.dev.serves 6 q r →
    (2 < argAt r 0 → ∃ d, exec (.logCheckpoint q good) s = .next (s.withDev d) ∧ d.frontEnds q svBadArg []) ∧
    (argAt r 0 ≤ 2 → s.dev.logBuffer (argAt r 0) = none →
      ∃ d, exec (.logCheckpoint q good) s = .next (s.withDev d) ∧ d.frontEnds q svState r.data) ∧
    (∀ bs : List Byte, argAt r 0 ≤ 2 → s.dev.logBuffer (argAt r 0) = some bs →
      let n := (s.dev.g F.SVC_LOG_STATE_LOG_SEQ + 1) % 2 ^ 24
      let data := if r.next = 0 then [n] else r.data
      (s.dev.b F.THM_STATUS_NV_OK = true → good = true →
        ∃ d, exec (.logCheckpoint q good) s = .next (s.withDev d) ∧ d.g F.SVC_LOG_STATE_LOG_SEQ = n ∧
          mget d.svc.log s.dev.logNext = s.dev.logBytes (if r.next = 0 then 3 else 2) n
            (if r.next = 0 then bs.take 48 else slice bs (48 * (r.next - 1)) (min 48 (beAt bs 4 4 - 48 * (r.next - 1)))) ∧
          (if (beAt bs 4 4 + 47) / 48 ≤ r.next then d.frontEnds q svOk data else d.frontGoesOn q data)) ∧
      (s.dev.b F.THM_STATUS_NV_OK = false → ∃ d, exec (.logCheckpoint q good) s = .next (s.withDev d) ∧ d.frontEnds q svNvWindow r.data ∧
        d.g F.THM_NV_REFUSE_COUNT = (s.dev.g F.THM_NV_REFUSE_COUNT + 1) % 2 ^ 32 ∧ d.svc.log = s.dev.svc.log) ∧
      (s.dev.b F.THM_STATUS_NV_OK = true → good = false → ∃ d, exec (.logCheckpoint q good) s = .next (s.withDev d) ∧
        d.frontEnds q svFlash r.data ∧ s.dev.faulted d 0x0B11 1 6 ∧ d.svc.log = s.dev.svc.log))) ∧
  (∀ (s : State) (q : Nat) (r : SvcReq), s.up → q < 16 → s.dev.serves 7 q r →
    let n := argAt r 1
    ((n = 0 ∨ 64 < n ∨ 2 ^ 24 ≤ argAt r 0) → ∃ d, exec (.logRead q) s = .next (s.withDev d) ∧ d.frontEnds q svBadArg []) ∧
    (0 < n → n ≤ 64 → argAt r 0 < 2 ^ 24 →
      let e := s.dev.logFind ((argAt r 0 + r.next) % 2 ^ 24)
      let data := r.data ++ (match e with
        | some (_, b) => (List.range 16).map (fun i => beAt b (4 * i) 4)
        | none => List.replicate 16 0)
      ∃ d, exec (.logRead q) s = .next (s.withDev d) ∧
        (if n ≤ r.next + 1 then d.frontEnds q (if r.partly || e.isNone then svPartial else svOk) data else d.frontGoesOn q data))) ∧
  (∀ (s : State) (q : Nat) (r : SvcReq), s.up → q < 16 → s.dev.serves 8 q r →
    (∀ good, argAt r 0 ≠ 0xE5A5 → ∃ d, exec (.logErase q good) s = .next (s.withDev d) ∧ d.frontEnds q svBadArg []) ∧
    (∀ good, argAt r 0 = 0xE5A5 → s.dev.b F.THM_STATUS_NV_OK = false →
      ∃ d, exec (.logErase q good) s = .next (s.withDev d) ∧ d.frontEnds q svNvWindow [] ∧ d.svc.log = s.dev.svc.log) ∧
    (argAt r 0 = 0xE5A5 → s.dev.b F.THM_STATUS_NV_OK = true →
      ∃ d, exec (.logErase q false) s = .next (s.withDev d) ∧ d.frontEnds q svFlash [] ∧ s.dev.faulted d 0x0B11 1 8 ∧
        d.svc.log = s.dev.svc.log) ∧
    (argAt r 0 = 0xE5A5 → s.dev.b F.THM_STATUS_NV_OK = true →
      ∃ d, exec (.logErase q true) s = .next (s.withDev d) ∧
        (∀ i, mget d.svc.log i = if 1024 * r.next ≤ i ∧ i < 1024 * r.next + 1024 then [] else mget s.dev.svc.log i) ∧
        (wordAt (mget s.dev.conf.services 1) 1 ≤ r.next + 1 → d.frontEnds q svOk []))) ∧
  (∀ (s : State) (q : Nat) (i : Instr) (r : SvcReq), s.up → q < 16 → (s.dev.svcQueue q).head? = some r → r.ended = none →
    (r.cancel = true ∨ r.standdown = true) →
    ((∃ t, i = .energyStart q t ∧ r.code = 1) ∨ (i = .energyStop q ∧ r.code = 2) ∨ (∃ z x, i = .metCheck q z x ∧ r.code = 3) ∨
      (∃ g, i = .logFaults q g ∧ r.code = 5) ∨ (∃ g, i = .logCheckpoint q g ∧ r.code = 6) ∨ (i = .logRead q ∧ r.code = 7) ∨
      (∃ g, i = .logErase q g ∧ r.code = 8)) →
    ∃ d, exec i s = .next (s.withDev d) ∧ d.frontEnds q (if r.cancel then svCancelled else svStanddown) r.data)

/-- O48 (R533, R534, R535, R536, R43, chapter Supervisor services and the Rondi monitor). HELP, INFO, RD, STATE, FAULTS and LANES send their
lines and the prompt, count in MON_CMD_COUNT and change no register but that (RD of a port register does what the port does). RD, STATE,
FAULTS and LANES in RETIRED, and WR, SVC and RESET in RETIRED and in DEPLOYED without RONDI_FULL, answer ERR LIFECYCLE; a WR to the safety
or security block answers ERR ACCESS; a long line, and a number of words or records out of range, ERR LINE; each is counted in
MON_REFUSE_COUNT and changes nothing else. An accepted WR leaves its audit record and makes the write; SVC queues on queue 14; RESET
resets the head with cause SOFT. In HALTED nothing is answered. The text of the answers is the model's own (DESIGN CHOICE, log entry 118). -/
def Obligations.RondiAnswersRefusesAndWrites : Prop :=
  (∀ s : State, s.up → s.dev.halted = false →
    ∃ d, exec .monHelp s = .next (s.withDev d) ∧ d.out = (["HELP", "INFO", "RD addr [n]", "STATE", "FAULTS [n]", "LANES",
        "WR addr value [mask]", "SVC code [args]", "RESET", "rondi> "].map Out.rondi) ∧
      d.g F.MON_CMD_COUNT = (s.dev.g F.MON_CMD_COUNT + 1) % 2 ^ 32 ∧ s.dev.regsBut d [F.MON_CMD_COUNT] ∧ s.dev.fresh.onlyRegs d) ∧
  (∀ s : State, s.up → s.dev.halted = false →
    ∃ d, exec .monInfo s = .next (s.withDev d) ∧ d.out = (([s.dev.g (F.SEC_UID_WORD 0), s.dev.g (F.SEC_UID_WORD 1),
        s.dev.g (F.SEC_UID_WORD 2), s.dev.g (F.SEC_UID_WORD 3), s.dev.g F.SEC_LIFECYCLE_STATE, s.dev.g F.GLB_BOOT_STATUS_STAGE, s.dev.pos,
        s.dev.unit, s.dev.g F.SEC_CONFIG_ID_HI_ID, s.dev.g F.SEC_CONFIG_ID_LO_ID].map hexWord) ++ ["rondi> "]).map Out.rondi ∧
      d.g F.MON_CMD_COUNT = (s.dev.g F.MON_CMD_COUNT + 1) % 2 ^ 32 ∧ s.dev.regsBut d [F.MON_CMD_COUNT] ∧ s.dev.fresh.onlyRegs d) ∧
  (∀ (s : State) (a n : Nat), s.up → s.dev.halted = false → s.dev.monAccepts 1 = true → a < 2 ^ 32 → 1 ≤ n → n ≤ 16 →
    s.dev.monReadStatus a n = hsOk →
    ((∀ i, i < n → portOf (a + 4 * i) = none) →
      ∃ d, exec (.monRd a n) s = .next (s.withDev d) ∧
        d.out = (List.range n).map (fun i => Out.rondi (regLine (a + 4 * i) (s.dev.regRead (a + 4 * i)) hsOk)) ++ [Out.rondi "rondi> "] ∧
        d.g F.MON_CMD_COUNT = (s.dev.g F.MON_CMD_COUNT + 1) % 2 ^ 32 ∧ s.dev.regsBut d [F.MON_CMD_COUNT] ∧ s.dev.fresh.onlyRegs d) ∧
    ((portOf a).isSome = true → n = 1 →
      let r := s.dev.fresh.busRead a
      ∃ d, exec (.monRd a n) s = .next (s.withDev d) ∧
        d.out = r.2.out ++ [Out.rondi (regLine a r.1.1 (if r.1.2 then hsEmpty else hsOk)), Out.rondi "rondi> "] ∧
        d.g F.MON_CMD_COUNT = (r.2.g F.MON_CMD_COUNT + 1) % 2 ^ 32 ∧ r.2.regsBut d [F.MON_CMD_COUNT] ∧ r.2.onlyRegs d)) ∧
  (∀ s : State, s.up → s.dev.halted = false → s.dev.monAccepts 1 = true →
    (∃ d, exec .monState s = .next (s.withDev d) ∧ d.out.length = (if s.dev.isLead then 6 else 5) ∧
      (s.dev.served 0x130000 = true → d.out.head? = some (Out.rondi (regLine F.RED_STATE_STATE.addr (s.dev.regRead F.RED_STATE_STATE.addr) hsOk))) ∧
      d.g F.MON_CMD_COUNT = (s.dev.g F.MON_CMD_COUNT + 1) % 2 ^ 32 ∧ s.dev.regsBut d [F.MON_CMD_COUNT] ∧ s.dev.fresh.onlyRegs d) ∧
    (∃ d, exec .monLanes s = .next (s.withDev d) ∧ d.out.length = 73 ∧ d.g F.MON_CMD_COUNT = (s.dev.g F.MON_CMD_COUNT + 1) % 2 ^ 32 ∧
      s.dev.regsBut d [F.MON_CMD_COUNT] ∧ s.dev.fresh.onlyRegs d) ∧
    (∀ n, 1 ≤ n → n ≤ 32 → ∃ d, exec (.monFaults n) s = .next (s.withDev d) ∧ d.out.length = (newestRecords s.dev n).length + 1 ∧
      d.g F.MON_CMD_COUNT = (s.dev.g F.MON_CMD_COUNT + 1) % 2 ^ 32 ∧ s.dev.regsBut d [F.MON_CMD_COUNT] ∧ s.dev.fresh.onlyRegs d)) ∧
  (∀ (s : State) (i : Instr) (what : String), s.up → s.dev.halted = false → i.wellFormed = true →
    ((what = "LIFECYCLE" ∧ s.dev.monAccepts 1 = false ∧ ((∃ a n, i = .monRd a n) ∨ i = .monState ∨ (∃ n, i = .monFaults n) ∨ i = .monLanes)) ∨
     (what = "LIFECYCLE" ∧ s.dev.monAccepts 2 = false ∧ ((∃ a w m, i = .monWr a w m) ∨ (∃ k xs, i = .monSvc k xs) ∨ i = .monReset)) ∨
     (what = "LINE" ∧ i = .errLine) ∨
     (s.dev.monAccepts 1 = true ∧ what = "LINE" ∧
       ((∃ a n, i = .monRd a n ∧ (n = 0 ∨ 16 < n)) ∨ (∃ n, i = .monFaults n ∧ (n = 0 ∨ 32 < n)))) ∨
     (∃ a n, i = .monRd a n ∧ s.dev.monAccepts 1 = true ∧ 1 ≤ n ∧ n ≤ 16 ∧ s.dev.monReadStatus a n ≠ hsOk ∧
       what = statusName (s.dev.monReadStatus a n)) ∨
     (∃ k xs, i = .monSvc k xs ∧ s.dev.monAccepts 2 = true ∧ s.dev.served 0x150000 = false ∧ what = "DOMAIN_OFF") ∨
     (∃ a w m, i = .monWr a w m ∧ s.dev.monAccepts 2 = true ∧ s.dev.monWriteStatus a w m ≠ hsOk ∧
       what = statusName (s.dev.monWriteStatus a w m))) →
    ∃ d, exec i s = .next (s.withDev d) ∧ d.out = [Out.rondi ("ERR " ++ what), Out.rondi "rondi> "] ∧
      d.g F.MON_REFUSE_COUNT = (s.dev.g F.MON_REFUSE_COUNT + 1) % 2 ^ 32 ∧ s.dev.regsBut d [F.MON_REFUSE_COUNT] ∧
      s.dev.fresh.onlyRegs d) ∧
  (∀ (s : State) (a w m : Nat), a % 4 = 0 → a < busEnd → (blockOf a = 0x120000 ∨ blockOf a = 0x140000) →
    s.dev.monWriteStatus a w m = hsAccess) ∧
  (∀ (s : State) (a w m : Nat), s.up → s.dev.halted = false → s.dev.monAccepts 2 = true → a < 2 ^ 32 → w < 2 ^ 32 → m < 16 →
    s.dev.monWriteStatus a w m = hsOk →
    let e := ((s.dev.fresh.raise { src := 0x0B13, cls := 0, detail := 0 }).line "OK").monDone
    let c := Chip.regWrite a w m ⟨s.otp, e⟩
    exec (.monWr a w m) s = .next (s.withHead c.otp c.dev) ∧ s.dev.faulted e 0x0B13 0 0 ∧
      s.dev.regsFault e 0 [F.MON_CMD_COUNT] ∧ e.out = [Out.rondi "OK", Out.rondi "rondi> "] ∧
      e.g F.MON_CMD_COUNT = (s.dev.g F.MON_CMD_COUNT + 1) % 2 ^ 32 ∧
      (ownBehaviour a = false → m = 15 → e.rangeOk a w = true → e.windowed a = none →
        ∃ d, exec (.monWr a w m) s = .next (s.withDev d) ∧ d = { e with rf := d.rf, shadow := d.shadow } ∧
          ∀ r, regAt a = some r → ∀ f ∈ r.fields, f.cls = .cfg → d.g ⟨a, f.lo, f.w⟩ = w / 2 ^ f.lo % 2 ^ f.w)) ∧
  (∀ (s : State) (k : Nat) (args : List Nat), s.up → s.dev.halted = false → s.dev.monAccepts 2 = true → below (2 ^ 32) args = true →
    s.dev.served 0x150000 = true → s.dev.svcCheck k 14 args.length = svOk →
    ∃ d, exec (.monSvc k args) s = .next (s.withDev d) ∧ (d.svcQueue 14).length = (s.dev.svcQueue 14).length + 1 ∧
      d.svc.nextTicket = nextTicket s.dev.svc.nextTicket ∧ d.g F.SVC_SUBMIT_COUNT = (s.dev.g F.SVC_SUBMIT_COUNT + 1) % 2 ^ 32 ∧
      d.g F.MON_CMD_COUNT = (s.dev.g F.MON_CMD_COUNT + 1) % 2 ^ 32 ∧ d.out.getLast? = some (Out.rondi "rondi> ")) ∧
  (∀ (s : State) (k : Nat) (args : List Nat), s.up → s.dev.halted = false → s.dev.monAccepts 2 = true → below (2 ^ 32) args = true →
    s.dev.served 0x150000 = true → s.dev.svcCheck k 14 args.length ≠ svOk →
    ∃ d, exec (.monSvc k args) s = .next (s.withDev d) ∧
      d.out = [Out.rondi ("ERR " ++ submitName (s.dev.svcCheck k 14 args.length)), Out.rondi "rondi> "] ∧
      d.g F.MON_REFUSE_COUNT = (s.dev.g F.MON_REFUSE_COUNT + 1) % 2 ^ 32 ∧ d.g F.SVC_REFUSE_COUNT = (s.dev.g F.SVC_REFUSE_COUNT + 1) % 2 ^ 32 ∧
      d.g F.SVC_SUBMIT_RESULT_STATUS = s.dev.svcCheck k 14 args.length ∧
      s.dev.regsBut d [F.MON_REFUSE_COUNT, F.SVC_REFUSE_COUNT, F.SVC_SUBMIT_RESULT_STATUS] ∧ s.dev.fresh.onlyRegs d) ∧
  (∀ s : State, s.up → s.dev.halted = false → s.dev.monAccepts 2 = true →
    ∃ d, exec .monReset s = .next (s.withDev d) ∧ d.boot.held = true ∧ d.g F.GLB_RESET_CAUSE_CAUSE = 2 ^ 4 ∧
      d.g F.GLB_RESET_COUNT = (s.dev.g F.GLB_RESET_COUNT + 1) % 2 ^ 32 ∧ d.out.getLast? = some (Out.rondi "rondi> ")) ∧
  (∀ (s : State) (i : Instr), s.up → s.dev.halted = true → i.wellFormed = true →
    (i = .monHelp ∨ i = .monInfo ∨ (∃ a n, i = .monRd a n) ∨ i = .monState ∨ (∃ n, i = .monFaults n) ∨ i = .monLanes ∨
      (∃ a w m, i = .monWr a w m) ∨ (∃ k xs, i = .monSvc k xs) ∨ i = .monReset ∨ i = .errLine) →
    exec i s = .next (s.withDev s.dev.fresh))

/-- O49 (R141, R142, R143, R144, R168, chapter Hokux Cell Link: frames, ordered sets and the cell contract). What passes comes in three
pieces, one after another. A DSF that fails a check counts at its port, one that is cut off is discarded and not counted, what is of no
kind sent to a cell counts; one that passes notes its frame, claim and, where it matters to the cell, waits for its tick, and its segments
go to the endpoint. At the tick of the DSF obeyed the cell shows its frame, releases and bypasses as told, and runs with the DSF's edges,
or with RUN 0, a latch or bypass has every switch off and no edge to come. A DSF of claim 0 makes the gap due; a tick without one counts
as missed, at the fourth the gap is due; a cell that obeys none ticks on, in SIMMER with the repeated edges. All edges of the earliest
time happen together. An off edge turns its switch off; an on edge turns it on, but with the other switch of the leg on, or off for less
than the dead time, both are off and INTERLOCK counts. -/
def Obligations.CellTakesFramesAndTicks : Prop :=
  (∀ (s : State) (t p : Nat) (a b e : Line), p < 2 →
    let line := a.then (b.then e)
    let h := (s.node.at t).hold
    let r := (s.node.port p).rate
    (∀ bytes : List Byte, line.read r = .run bytes →
      let bulk := bulkParts 9 (bytes.drop 96)
      (cutOff r bytes = true → exec (.cellDsf t p a b e) s = .next (s.withNode h)) ∧
      (cutOff r bytes = false → h.dsfCheck p (bytes.take 96) bulk = none →
        exec (.cellDsf t p a b e) s = .next (s.withNode (h.discard p)) ∧
        ((h.discard p).port p).dsErr = ((s.node.port p).dsErr + 1) % 16) ∧
      (∀ (f : Dsf) (tick : Int), cutOff r bytes = false → h.dsfCheck p (bytes.take 96) bulk = some (f, tick) →
        ∃ c : Cell, exec (.cellDsf t p a b e) s = .next (s.withNode
            (bulk.foldl (fun c b => c.bulk p b) (if f.segValid then c.segment p f.segment else c))) ∧
          (c.port p).last = some f.targetFrame ∧ (c.port p).claim = f.claim ∧ (c.port p).quiet = 0 ∧
          c.dsfPort = (if f.claim = 0 then s.node.dsfPort else some p) ∧
          (c.waiting = s.node.waiting ++ [⟨p, tick, f⟩] ∧ c.accepted = true ∨ c.waiting = s.node.waiting ∧ c.accepted = s.node.accepted) ∧
          ((s.node.obeyed.isNone && s.node.floor == 0 && !c.claimTie && f.claim != 0) = true → c.waiting = s.node.waiting ++ [⟨p, tick, f⟩]) ∧
          c.sw = s.node.sw ∧ c.pend = s.node.pend ∧ c.running = s.node.running ∧ c.shutter = s.node.shutter)) ∧
    (∀ (ty : Nat) (content : List Byte), line.read r = .ordered ty content →
      exec (.cellDsf t p a b e) s = .next (s.withNode
        (if ty = osIdle ∨ ty = osTrain ∨ ty = osShutter ∨ ty = osProbe then h else h.discard p))) ∧
    (line.read r = .malformed → exec (.cellDsf t p a b e) s = .next (s.withNode (h.discard p)))) ∧
  (∀ s : State, s.node.nextTick = none → exec .cellTargetTick s = .next (s.withNode s.node)) ∧
  (∀ (s : State) (t : Int) (w : Waiting), s.node.nextTick = some t → s.node.choose (s.node.waiting.filter (fun x => x.tick == t)) = some w →
    w.dsf.claim ≠ 0 →
    let latched := (s.node.shutter && !w.dsf.release) || s.node.bypassed || w.dsf.bypass
    ∃ n, exec .cellTargetTick s = .next (s.withNode n) ∧ n.tick = some t ∧ n.frame = w.dsf.targetFrame ∧ n.epoch = w.dsf.epoch ∧
      n.obeyed = some (w.port, w.dsf.claim) ∧ n.frameEcho = w.dsf.targetFrame ∧ n.missed = 0 ∧ n.simmer = false ∧
      n.sent = false ∧ n.shutter = (s.node.shutter && !w.dsf.release) ∧ n.bypassed = (s.node.bypassed || w.dsf.bypass) ∧
      n.running = (w.dsf.run && !latched) ∧
      (w.dsf.run = true → latched = false → n.sw = s.node.sw ∧
        n.pend = s.node.pend.filter (fun e => decide (e.time < t)) ++ w.dsf.edges.map (fun e => ⟨t + e.offset, e.offset, e.level, e.switch⟩)) ∧
      (w.dsf.run = false ∨ latched = true → n.pend = [] ∧ ∀ k, k < 8 → n.sw.testBit k = false)) ∧
  (∀ (s : State) (t : Int) (w : Waiting), s.node.nextTick = some t → s.node.choose (s.node.waiting.filter (fun x => x.tick == t)) = some w →
    w.dsf.claim = 0 →
    ∃ n, exec .cellTargetTick s = .next (s.withNode n) ∧ n.tick = some t ∧ n.frame = w.dsf.targetFrame ∧ n.epoch = w.dsf.epoch ∧
      n.gapDue = true ∧ n.sent = false ∧ n.sw = s.node.sw ∧ n.pend = s.node.pend ∧ n.running = s.node.running ∧ n.obeyed = s.node.obeyed) ∧
  (∀ (s : State) (t : Int), s.node.nextTick = some t → s.node.choose (s.node.waiting.filter (fun x => x.tick == t)) = none →
    s.node.obeyed = none →
    ∃ n, exec .cellTargetTick s = .next (s.withNode n) ∧ n.tick = some t ∧ n.sent = false ∧ n.obeyed = none ∧
      (s.node.simmer = false → n.sw = s.node.sw ∧ n.pend = s.node.pend) ∧
      (s.node.simmer = true → n.sw = s.node.repStart ∧ n.pend = s.node.rep.map (fun e => { e with time := t + e.offset }))) ∧
  (∀ (s : State) (t : Int), s.node.nextTick = some t → s.node.choose (s.node.waiting.filter (fun x => x.tick == t)) = none →
    s.node.obeyed.isSome = true →
    ∃ n, exec .cellTargetTick s = .next (s.withNode n) ∧ n.tick = some t ∧ n.frame = frameAdd s.node.frame 1 ∧
      n.missed = min (s.node.missed + 1) 4 ∧ n.gapDue = (s.node.gapDue || decide (3 ≤ s.node.missed)) ∧ n.sw = s.node.sw ∧
      n.pend = s.node.pend ∧ n.running = s.node.running) ∧
  (∀ s : State, s.node.pend = [] → exec .cellEdge s = .next (s.withNode s.node)) ∧
  (∀ (s : State) (e : PendEdge) (r : List PendEdge), s.node.pend = e :: r →
    let t := r.foldl (fun m x => min m x.time) e.time
    let due := s.node.pend.filter (fun x => x.time == t)
    ∃ n, exec .cellEdge s = .next (s.withNode n) ∧ n.pend = s.node.pend.filter (fun x => x.time != t) ∧ n.done = s.node.done ++ due ∧
      (∀ j, n.sw.testBit j = true → s.node.sw.testBit j = true ∨ ∃ x ∈ due, x.level = true ∧ x.switch % 8 = j) ∧
      (∀ x ∈ due, x.level = false → (∀ y ∈ due, y.level = false) → n.sw.testBit x.switch = false)) ∧
  (∀ (s : State) (x : PendEdge), s.node.pend = [x] → x.switch < 8 →
    let q := if x.switch % 2 = 0 then x.switch + 1 else x.switch - 1
    let soon : Bool := match s.node.offAt[q]? with
      | some (some u) => decide (x.time < u + s.node.minDead)
      | _ => false
    ∃ n, exec .cellEdge s = .next (s.withNode n) ∧ n.pend = [] ∧ n.done = s.node.done ++ [x] ∧
      (x.level = false → (∀ j, n.sw.testBit j = (s.node.sw.testBit j && decide (j ≠ x.switch))) ∧ n.interlock = s.node.interlock) ∧
      (x.level = true → s.node.sw.testBit q = false → soon = false → n.sw = setBit s.node.sw x.switch ∧ n.interlock = s.node.interlock) ∧
      (x.level = true → (s.node.sw.testBit q = true ∨ soon = true) → n.sw.testBit x.switch = false ∧ n.sw.testBit q = false ∧
        n.interlock = (s.node.interlock + 1) % 4))

/-- O50 (R89, R140, R145, R146, R147, R148, R149, chapter Hokux Cell Link: frames, ordered sets and the cell contract). A good SHUTTER whose
claim is not lower than the one obeyed turns every switch off and latches; a lower one has no effect, a bad one is counted, as is what is
of no kind sent to a cell. A good probe is answered with the times of R89, and corrects the time where it came on the port of R140. A gap
that is due makes the claim obeyed the floor, and blocks, or simmers with the last tick's switches when the last DSF said so. Simmering
ends when the coast time has run. After 1 s without a stream the floor is cleared. With time corrected and a DSF accepted one USF goes out
on each trained port, once a tick. A boot leaves every switch off, the floor 0, no bypass and BOOT one higher, a restart keeping the
latch. -/
def Obligations.CellBlocksProbesAnswersAndBoots : Prop :=
  (let plain (s : State) (t p : Nat) (got : Got) : State :=
      let h := (s.node.at t).hold
      s.withNode (match got with
        | .run _ => h
        | .ordered ty _ => if ty = osIdle ∨ ty = osTrain ∨ ty = osShutter ∨ ty = osProbe then h else h.discard p
        | .malformed => h.discard p);
    (∀ (s : State) (t p : Nat) (line : Line), p < 2 →
      let h := (s.node.at t).hold
      let got := line.read (s.node.port p).rate;
      (∀ content, got = .ordered 0xE1 content →
        (content.length = 6 → orderedOk 0xE1 content = true → (∀ q c, s.node.obeyed = some (q, c) → claimLower (beAt content 0 4) c = false) →
          ∃ n, exec (.cellShutter t p line) s = .next (s.withNode n) ∧ n.shutter = true ∧ n.running = false ∧ n.simmer = false ∧
            n.pend = [] ∧ (∀ k, k < 8 → n.sw.testBit k = false) ∧ n.obeyed = s.node.obeyed ∧ n.bypassed = s.node.bypassed) ∧
        (∀ q c, content.length = 6 → orderedOk 0xE1 content = true → s.node.obeyed = some (q, c) → claimLower (beAt content 0 4) c = true →
          exec (.cellShutter t p line) s = .next (s.withNode h)) ∧
        ((content.length ≠ 6 ∨ orderedOk 0xE1 content = false) →
          exec (.cellShutter t p line) s = .next (s.withNode (h.discard p)))) ∧
      ((∀ content, got ≠ .ordered 0xE1 content) → exec (.cellShutter t p line) s = .next (plain s t p got))) ∧
    (∀ (s : State) (t t3 p : Nat) (line : Line), p < 2 →
      let got := line.read (s.node.port p).rate;
      (∀ content, got = .ordered 0x2D content → content.length = 8 → orderedOk 0x2D content = true →
        let t2 := unsgn 40 (s.node.at t).time
        let th := sgn 40 (unsgn 40 ((t2 : Int) - (beAt content 0 5 + beAt content 5 2 : Nat)))
        ∃ n, exec (.cellProbe t t3 p line) s = .next { s with node := n, dev := { s.dev with out := [Out.cellOrdered p 0x4B
            (sealOrdered 0x4B (be 5 t2 ++ be 3 (unsgn 24 ((t3 : Int) + s.node.off)) ++ be 2 (unsgn 16 th) ++ be 2 (beAt content 0 5 % 2 ^ 16)))] } } ∧
          (n.timePort = some p → n.off = s.node.off - th ∧ n.corrected = true) ∧
          (n.timePort ≠ some p → n.off = s.node.off ∧ n.corrected = s.node.corrected)) ∧
      (∀ content, got = .ordered 0x2D content → (content.length ≠ 8 ∨ orderedOk 0x2D content = false) →
        exec (.cellProbe t t3 p line) s = .next (s.withNode ((s.node.at t).hold.discard p))) ∧
      ((∀ content, got ≠ .ordered 0x2D content) → exec (.cellProbe t t3 p line) s = .next (plain s t p got)))) ∧
  (∀ s : State, s.node.obeyed = none ∨ s.node.tick = none → exec .cellGap s = .next (s.withNode s.node)) ∧
  (∀ (s : State) (q c : Nat) (t : Int), s.node.obeyed = some (q, c) → s.node.tick = some t →
    (s.node.gapDue = false → exec .cellGap s = .next (s.withNode s.node)) ∧
    (s.node.gapDue = true → ∃ n, exec .cellGap s = .next (s.withNode n) ∧ n.obeyed = none ∧ n.floor = c ∧ n.gapAt = t ∧
      n.gapDue = false ∧ n.running = false ∧ n.frameEcho = 0 ∧
      (if s.node.lastSimmer && s.node.lastRun && !s.node.shutter && !s.node.bypassed then n.simmer = true ∧ n.sw = s.node.repStart ∧
          n.pend = s.node.rep.map (fun e => { e with time := t + e.offset })
        else n.simmer = false ∧ n.pend = [] ∧ ∀ k, k < 8 → n.sw.testBit k = false))) ∧
  (∀ s : State, s.node.tick = none ∨ s.node.simmer = false → exec .cellSimmerEnd s = .next (s.withNode s.node)) ∧
  (∀ (s : State) (t : Int), s.node.tick = some t → s.node.simmer = true →
    (s.node.gapAt + ((min s.node.coast 20000 * usQ : Nat) : Int) ≤ t →
      ∃ n, exec .cellSimmerEnd s = .next (s.withNode n) ∧ n.simmer = false ∧ n.pend = [] ∧ ∀ k, k < 8 → n.sw.testBit k = false) ∧
    (t < s.node.gapAt + ((min s.node.coast 20000 * usQ : Nat) : Int) → exec .cellSimmerEnd s = .next (s.withNode s.node))) ∧
  (∀ (s : State) (t : Nat), s.node.obeyed = none → s.node.since + secQ ≤ max s.node.now t →
    ∃ n, exec (.cellFloorClear t) s = .next (s.withNode n) ∧ n = { s.node.at t with floor := 0 }) ∧
  (∀ (s : State) (t : Nat), s.node.obeyed.isSome = true ∨ max s.node.now t < s.node.since + secQ →
    exec (.cellFloorClear t) s = .next (s.withNode (s.node.at t))) ∧
  (∀ (s : State) (v k r f : Nat), v < 2 ^ 32 → k < 2 ^ 16 → r < 2 ^ 16 → f < 64 →
    ((s.node.corrected && s.node.accepted && s.node.tick.isSome && !s.node.sent) = true →
      ∃ n outs, exec (.cellUsfSend v k r f) s = .next { s with node := n, dev := { s.dev with out := outs } } ∧
        outs = ([0, 1].filter (fun p => (s.node.port p).trained)).map (fun p =>
          Out.usf p (s.node.usfOf p v k r f (epTake (s.node.port p).ep).1)) ∧
        n.sent = true ∧ n.sw = s.node.sw ∧ n.pend = s.node.pend ∧ (∀ p, p < 2 → (s.node.port p).trained = true → (n.port p).ep = (epTake (s.node.port p).ep).2)) ∧
    ((s.node.corrected && s.node.accepted && s.node.tick.isSome && !s.node.sent) = false →
      exec (.cellUsfSend v k r f) s = .next (s.withNode s.node))) ∧
  (∀ (s : State) (setup : Option NodeSetup),
    ∃ n, exec (.cellNodeBoot setup) s = .next (s.withNode n) ∧ n.sw = 0 ∧ n.pend = [] ∧ n.running = false ∧ n.floor = 0 ∧ n.bypassed = false ∧
      n.obeyed = none ∧ n.boot = (s.node.boot + 1) % 16 ∧ n.p0.ep.st = 0 ∧ n.p1.ep.st = 0 ∧
      (setup = none → n.shutter = s.node.shutter ∧ n.bank = s.node.bootBank))

/-- O51 (R156, R157, R158, R160, R161, R163, R175, R176, R177, R178, R179, chapter Hokux Cell Link: conversations with cells). An EMPTY
segment changes nothing and a malformed one is counted. An OPEN at an idle endpoint is accepted into RECEIVING, WORKING or SENDING with
its arguments, or an ABORT with the refusal is owed. DATA in order is kept and acknowledged. DATA for no conversation is answered with
ABORT. An ABORT leaves the endpoint IDLE; so does the ACK of its RESULT, or of its last DATA. A segment not acknowledged in SEG_TIMEOUT
ticks is due again, at the limit the conversation ends with ABORT RETX; after 4,096 silent ticks with ABORT IDLE. Work that ends leaves
the endpoint CLOSING with status and value, a REG_WRITE of COAST_LIMIT having set it. -/
def Obligations.CellEndpointsReceiveSendAndEnd : Prop :=
  (∀ (s : State) (p : Nat) (bytes : List Byte), p < 2 → bytes.length = 28 →
    let g := segDecode bytes
    let e := (s.node.port p).ep
    (g.ty = tyEmpty → exec (.cellSegment p bytes) s = .next (s.withNode s.node)) ∧
    (g.ty ≠ tyEmpty → g.malformed false = true →
      exec (.cellSegment p bytes) s = .next (s.withNode { s.node with segErr := (s.node.segErr + 1) % 2 ^ 32 })) ∧
    (g.ty = tyOpen → g.malformed false = false → e.st = 0 →
      let k := beAt g.payload 0 1
      let a0 := beAt g.payload 4 4
      let a1 := beAt g.payload 8 4
      ∃ n, exec (.cellSegment p bytes) s = .next (s.withNode n) ∧ n.abandoned = s.node.abandoned ∧
        (s.node.openRefuse p k a0 a1 = 0 → (n.port p).ep.st = (if upstreamKind k then 3 else if k = 5 then 2 else 1) ∧
          (n.port p).ep.cnum = g.cnum ∧ (n.port p).ep.kind = k ∧ (n.port p).ep.arg0 = a0 ∧ (n.port p).ep.arg1 = a1 ∧
          (n.port p).ep.param = (g.payload.drop 12).take 12 ∧ (n.port p).ep.sndNext = 0) ∧
        (s.node.openRefuse p k a0 a1 ≠ 0 → (n.port p).ep.st = 0 ∧
          abortSeg g.cnum (s.node.openRefuse p k a0 a1) ∈ (n.port p).ep.oweAbort)) ∧
    (g.ty = tyData → g.malformed false = false → (e.st = 0 ∨ e.cnum ≠ g.cnum) →
      ∃ n, exec (.cellSegment p bytes) s = .next (s.withNode n) ∧ abortSeg g.cnum 1 ∈ (n.port p).ep.oweAbort ∧ (n.port p).ep.st = e.st) ∧
    (g.ty = tyAbort → g.malformed false = false → e.st ≠ 0 → e.cnum = g.cnum →
      ∃ n, exec (.cellSegment p bytes) s = .next (s.withNode n) ∧ (n.port p).ep.st = 0) ∧
    (g.ty = tyAck → g.malformed false = false → e.st ≠ 0 → e.cnum = g.cnum → ackBad g e.sndNext e.ackSeen = false →
      afterAck g e.unacked = [] → ((e.st = 3 ∧ dataSegs e.len < e.sndNext) ∨ (e.st = 4 ∧ 2 ≤ e.sndNext)) →
      ∃ n, exec (.cellSegment p bytes) s = .next (s.withNode n) ∧ (n.port p).ep.st = 0 ∧
        (e.st = 4 → e.reboot = true → n.boot = (s.node.boot + 1) % 16)) ∧
    (g.ty = tyData → g.malformed false = false → e.st = 1 → e.cnum = g.cnum → (e.kind = 2 ∨ e.kind = 3) → g.seq ≠ 0 →
      g.seq ≤ dataSegs e.len → g.last = (g.seq == dataSegs e.len) → g.seq = e.rx.next → e.rx.held = [] →
      ∃ n, exec (.cellSegment p bytes) s = .next (s.withNode n) ∧ (n.port p).ep.rx = ⟨g.seq + 1, []⟩ ∧ (n.port p).ep.oweAck = true ∧
        (n.port p).ep.idle = 0 ∧ (g.last = false → (n.port p).ep.st = 1 ∧ (n.port p).ep.data = e.data ++ g.payload) ∧
        (g.last = true → (n.port p).ep.data = (e.data ++ g.payload).take e.len ∧
          (n.port p).ep.st = (if (match s.node.obeyed with | some (q, _) => decide (q ≠ p) | none => false) then 4 else 2)))) ∧
  (∀ (s : State) (p : Nat), p < 2 → (s.node.port p).ep.st ≠ 0 →
    let e := (s.node.port p).ep
    let out (u : Sent) : Bool := decide (e.segTimeout ≤ u.since) && !u.due
    (e.unacked.any (fun u => out u && decide (e.retxLimit ≤ u.resends)) = true →
      ∃ n, exec (.cellRetxTimeout p) s = .next (s.withNode n) ∧ (n.port p).ep.st = 0 ∧ abortSeg e.cnum 0x0A ∈ (n.port p).ep.oweAbort) ∧
    (e.unacked.any (fun u => out u && decide (e.retxLimit ≤ u.resends)) = false →
      ∃ n, exec (.cellRetxTimeout p) s = .next (s.withNode n) ∧ (n.port p).ep.st = e.st ∧
        (n.port p).ep.unacked = e.unacked.map (fun u => if out u then { u with due := true } else u))) ∧
  (∀ (s : State) (p : Nat), p < 2 → ((s.node.port p).ep.st = 1 ∨ (s.node.port p).ep.st = 3) → 4096 ≤ (s.node.port p).ep.idle →
    ∃ n, exec (.cellIdleTimeout p) s = .next (s.withNode n) ∧ (n.port p).ep.st = 0 ∧
      abortSeg (s.node.port p).ep.cnum 0x08 ∈ (n.port p).ep.oweAbort) ∧
  (∀ (s : State) (p status : Nat) (value : List Byte) (stored : Bool) (version : Nat), p < 2 → status < 256 → version < 2 ^ 32 →
    (s.node.port p).ep.st = 2 → statusOk status = true →
    ∃ n, exec (.cellWorkDone p status value stored version) s = .next (s.withNode n) ∧ (n.port p).ep.st = 4 ∧
      (n.port p).ep.status = (s.node.work p status value stored version).1 ∧
      (∀ v, (s.node.port p).ep.kind = 2 → regPairs (s.node.port p).ep = [(0x0010, v)] → (n.port p).ep.status = 0 ∧ n.coast = min v 20000) ∧
      ((s.node.port p).ep.kind = 3 → crc32 (s.node.port p).ep.data ≠ beAt (s.node.port p).ep.param 0 4 → (n.port p).ep.status = 6 ∧
        n.ident = s.node.ident) ∧
      ((s.node.port p).ep.kind = 5 → (n.port p).ep.status = status ∧ (n.port p).ep.value = padTo 16 value))

/-- O52 (R499). For every head out of reset that is not HALTED (there R500 keeps the head halted): SOFT, and any write of GLB_CTRL that the
bus performs (one with BMASK 0 is none), with RESET 1, leaves the head in reset if and only if GLB_RESET_KEY held 0x0000_5E7A, and leaves
the key 0 in every case. A write with RESET 1 and without the key changes GLB_RESET_REFUSE_COUNT by one and nothing else but the key. -/
def Obligations.SoftResetNeedsItsKey : Prop :=
  (∀ s : State, s.up → s.dev.g F.GLB_BOOT_STATUS_STAGE ≠ 15 → s.dev.hostMay 0x00006C 1 = true →
    ∃ d, exec .soft s = .next (s.withDev d) ∧ (d.boot.held = true ↔ s.dev.g F.GLB_RESET_KEY_KEY = 0x00005E7A) ∧
      d.g F.GLB_RESET_KEY_KEY = 0 ∧
      (s.dev.g F.GLB_RESET_KEY_KEY ≠ 0x00005E7A → d.g F.GLB_RESET_REFUSE_COUNT = (s.dev.g F.GLB_RESET_REFUSE_COUNT + 1) % 2 ^ 32 ∧
        s.dev.regsBut d [F.GLB_RESET_KEY_KEY, F.GLB_RESET_REFUSE_COUNT] ∧ s.dev.fresh.onlyRegs d)) ∧
  (∀ (c : Chip) (w bm : Nat), bm % 16 = 0 → c.regWrite 0x00006C w bm = c) ∧
  (∀ (c : Chip) (w bm : Nat), c.dev.boot.held = false → c.dev.g F.GLB_BOOT_STATUS_STAGE ≠ 15 → bm % 16 ≠ 0 →
    let reset : Bool := (mergeWord (c.dev.regStored 0x00006C) w bm).testBit 0
    let c' := c.regWrite 0x00006C w bm
    c'.otp = c.otp ∧ c'.dev.g F.GLB_RESET_KEY_KEY = 0 ∧
    (c'.dev.boot.held = true ↔ reset = true ∧ c.dev.g F.GLB_RESET_KEY_KEY = 0x00005E7A) ∧
    (reset = true → c.dev.g F.GLB_RESET_KEY_KEY ≠ 0x00005E7A →
      c'.dev.g F.GLB_RESET_REFUSE_COUNT = (c.dev.g F.GLB_RESET_REFUSE_COUNT + 1) % 2 ^ 32 ∧
      c.dev.regsBut c'.dev [F.GLB_RESET_KEY_KEY, F.GLB_RESET_REFUSE_COUNT] ∧ c.dev.onlyRegs c'.dev))

/-- O53 (R41). The CRC of no bytes is 0xFF; one more byte is exclusive-ored in and shifted out bit by bit, most significant first, with
polynomial 0x2F; the CRC of the ASCII bytes 1 to 9 is 0x20. A header is good when its low byte is the CRC of the nine bytes before it, a
continuation segment when its low byte is that of its word, and the response carries that of its status and words. -/
def Obligations.PortCrcIsThePolynomial : Prop :=
  crc8 [] = 0xFF ∧ crc8 [0x31#8, 0x32#8, 0x33#8, 0x34#8, 0x35#8, 0x36#8, 0x37#8, 0x38#8, 0x39#8] = 0x20 ∧
  (∀ (bs : List Byte) (b : Byte),
    crc8 (bs ++ [b]) = (List.range 8).foldl (fun r _ => if 128 ≤ r then (2 * r - 256) ^^^ 0x2F else 2 * r) (crc8 bs ^^^ b.toNat) ∧
    crc8 (bs ++ [b]) < 256) ∧
  (∀ hdr, headerGood hdr = true ↔ crc8 (be 9 (hdr / 256)) = hdr % 256) ∧
  (∀ g, segGood g = true ↔ crc8 (be 4 (g / 256)) = g % 256) ∧
  (∀ st ws, hrpResponse st ws = .response st ws (crc8 (be 1 st ++ ws.flatMap (be 4))))

/-- O54 (section What each step holds). For every command c and state s, step of s with c at the front of its queue is exec c on s with the
queue's rest. On an empty queue the state stays as it is (DESIGN CHOICE, log entry 2). The rows of the table have no bits, so
decodeTableWord answers none and withFetchWord leaves every state unchanged (DESIGN CHOICE, log entry 3). -/
def Obligations.StepTakesTheFrontCommand : Prop :=
  (∀ (c : Instr) (rest : List Instr) (s : State), step { s with pending := c :: rest } = exec c { s with pending := rest }) ∧
  (∀ s : State, s.pending = [] → step s = .next s) ∧
  (∀ nbits w : Nat, decodeTableWord nbits w = none) ∧ (∀ (s : State) (nbits w : Nat), s.withFetchWord nbits w = s)

/-- O55 (R14, R374, R415, R496, R498, R500, R517). At reset the queue is empty, the head is held in reset, nothing is sent and no request
waits; the fields that the register tables give a non-zero reset value hold it, the status registers of cadence, redundancy, energization
and safety show their first states; the register file is in canonical form; and the lifecycle, the cell and the permit are sound. (A blank
OTP and a cell never powered up are the model's choice, DESIGN CHOICE, log entries 6 and 7.) -/
def Obligations.ResetLeavesTheTablesValues : Prop :=
  State.reset.pending = [] ∧ State.reset.dev.boot.held = true ∧ State.reset.dev.out = [] ∧ State.reset.dev.hrp.reqs = [] ∧
  (∀ r ∈ [(F.CAD_PPS_WINDOW_WINDOW, 0x9C40), (F.CAD_HOLDOVER_LIMIT_SECONDS, 60), (F.CAD_MISS_LIMIT_LIMIT, 3), (F.CAD_PROBE_INTERVAL_FRAMES, 64),
      (F.CAD_SYNC_STATE_STATE, 0), (F.LANE_STATE_POWER_STATE 71, 2), (F.HCL_PORT_STATE_STATE 63, 6), (F.HCL_SUSPECT_LIMIT_LIMIT, 3),
      (F.HCL_LOST_LIMIT_LIMIT, 64), (F.HCL_SEG_TIMEOUT_FRAMES, 3), (F.HCL_CONV_SLOTS_FREE, 128), (F.HCL_CONV_SLOTS_POOL_FREE, 1024),
      (F.CE_NONFINITE_LIMIT_FRAMES, 8), (F.MET_WINDOW_UNITS 3, 200), (F.CAP_CTRL_PRE, 2048), (F.PROT_EST_MIN_CELLS_CELLS, 4),
      (F.THM_TJ_WARN_TEMP, 0x0730), (F.RED_STATE_STATE, 0), (F.SAF_STATE_STATE, 0), (F.SAF_IO_SO, 0), (F.AV_ENG_STATUS_STATE, 0),
      (F.AV_ENG_TIMEOUT_A_CLOSE, 30), (F.AV_ENG_TIMEOUT_B_CHARGE, 120), (F.GLB_BOOT_STATUS_STAGE, 0), (F.GLB_RESET_COUNT, 0),
      (F.SEC_LIFECYCLE_STATE, 0)], State.reset.dev.g r.1 = r.2) ∧
  mwf State.reset.dev.rf = true ∧ lifeSound State.reset.otp ∧ Cell.sound State.reset.node ∧ State.reset.dev.permitSound

/-- O56 (section What each step holds). For every command and every state: with operands in range exec answers a next state that keeps the
queue; with an operand out of range it answers the refusal illFormed (the ranges are the spec's; that a command outside them is refused is
the model's choice, DESIGN CHOICE, log entry 4). No command faults. -/
def Obligations.EveryWellFormedCommandAnswersNext : Prop :=
  ∀ (i : Instr) (s : State), (i.wellFormed = true → ∃ t, exec i s = .next t ∧ t.pending = s.pending) ∧
    (i.wellFormed = false → exec i s = .refused .illFormed)

/-- O57 (R33, R482, R498, R545, chapter From power-up to first deblock). While the head is held in reset a command that is neither a reset
source, nor the release, nor one of the safety family, nor one of the cell has no effect but that nothing is sent. A command of the cell
node leaves OTP and all of the head but what is sent; any other leaves the cell node; and only the security commands that program it and
writes of registers change OTP. -/
def Obligations.CommandsReachOnlyTheirOwnPart : Prop :=
  (∀ (i : Instr) (s : State), i.wellFormed = true → s.dev.boot.held = true → i.inReset = false → i.atCell = false →
    exec i s = .next (s.withDev s.dev.fresh)) ∧
  (∀ (i : Instr) (s t : State), exec i s = .next t →
    (i.atCell = true → t.otp = s.otp ∧ t.dev = { s.dev with out := t.dev.out }) ∧
    (i.atCell = false → t.node = s.node) ∧
    (i.otpWriter = false → t.otp = s.otp))

/-- O58 (R482, R484, R488, chapter Configuration bitstream, signatures and lifecycle). For every state and every step that answers a next
state: a bit of OTP that is set stays set, so that each lifecycle bit, once set, stays set; and where the lifecycle bits hold one of the
four states of R488 they hold one of them after the step too. -/
def Obligations.OtpBitsStayAndLifecycleGoesForward : Prop :=
  ∀ s t : State, step s = .next t →
    (∀ i b, (otpWord s.otp i).testBit b = true → (otpWord t.otp i).testBit b = true) ∧
    (∀ b, (lifeBits s.otp).testBit b = true → (lifeBits t.otp).testBit b = true) ∧
    (lifeSound s.otp → lifeSound t.otp)

/-- O59 (R143, R144, R145, R146, chapter Hokux Cell Link: frames, ordered sets and the cell contract). For every state whose cell node is
sound and every step that answers a next state, the cell node is sound after it: no leg has both its switches on, now or at the ticks that
SIMMER repeats; and with the Shutter latch or the bypass set no switch is on, no edge is to come, and the cell neither runs nor simmers. -/
def Obligations.CellNeverShortsALegNorRunsLatched : Prop :=
  ∀ s t : State, Cell.sound s.node → step s = .next t → Cell.sound t.node

/-- O60 (R119, R120, R124, R126, R156, chapter Hokux Cell Link: frames, ordered sets and the cell contract). For all fields that fit their
places: a DSF is 96 bytes and decodes to itself, with every edge entry; a USF is 64 bytes and decodes to itself; a segment of 28 bytes and
a bulk segment of 32 bytes decode to the segment. -/
def Obligations.FramesDecodeAsTheyAreEncoded : Prop :=
  (∀ f : Dsf, f.fits → f.encode.length = 96 ∧ dsfDecode f.encode = some f) ∧
  (∀ u : Usf, u.fits → u.encode.length = 64 ∧ usfDecode u.encode = some u) ∧
  (∀ g : Seg, g.fits → g.encode.length = 28 ∧ segDecode g.encode = g ∧ (bulkEncode g).length = 32 ∧ bulkDecode (bulkEncode g) = some g)
end

