-- ==== Sys2Proof/Laws/Map.lean ====
section
/-! SUPPORT. Laws of the sparse contents: what is read after a write, and that every operation keeps the canonical form. -/
set_option Elab.async false
namespace Sys2Proof.Machine
variable {α : Type}

@[simp] theorem mget_nil [Inhabited α] (k : Nat) : mget ([] : SMap α) k = default := rfl

theorem mget_mins_same [Inhabited α] (m : SMap α) (k : Nat) (v : α) : mget (mins m k v) k = v := by
  induction m with
  | nil => simp [mins, mget]
  | cons e r ih =>
    obtain ⟨i, w⟩ := e
    simp only [mins]
    split
    · simp [mget]
    · split
      · simp [mget]
      · rename_i h; simp [mget, h, ih]

theorem mget_mins_ne [Inhabited α] (m : SMap α) {j k : Nat} (v : α) (h : j ≠ k) : mget (mins m k v) j = mget m j := by
  induction m with
  | nil => simp [mins, mget, Ne.symm h]
  | cons e r ih =>
    obtain ⟨i, w⟩ := e
    simp only [mins]
    split
    · simp [mget, Ne.symm h]
    · split
      · rename_i hi; subst hi; simp [mget, Ne.symm h]
      · simp [mget, ih]

theorem mget_mdel_same [Inhabited α] (m : SMap α) (k : Nat) : mget (mdel m k) k = default := by
  induction m with
  | nil => rfl
  | cons e r ih =>
    obtain ⟨i, w⟩ := e
    simp only [mdel]
    split
    · exact ih
    · rename_i h; simp [mget, h, ih]

theorem mget_mdel_ne [Inhabited α] (m : SMap α) {j k : Nat} (h : j ≠ k) : mget (mdel m k) j = mget m j := by
  induction m with
  | nil => rfl
  | cons e r ih =>
    obtain ⟨i, w⟩ := e
    simp only [mdel]
    split
    · rename_i hi; subst hi; simp [mget, Ne.symm h, ih]
    · simp [mget, ih]

/-- What was written reads back. -/
@[simp] theorem mget_mset_same [Inhabited α] [DecidableEq α] (m : SMap α) (k : Nat) (v : α) : mget (mset m k v) k = v := by
  unfold mset
  split
  · rename_i h; rw [mget_mdel_same, h]
  · exact mget_mins_same m k v

/-- A write leaves every other entry alone. -/
theorem mget_mset_ne [Inhabited α] [DecidableEq α] (m : SMap α) {j k : Nat} (v : α) (h : j ≠ k) :
    mget (mset m k v) j = mget m j := by
  unfold mset
  split
  · exact mget_mdel_ne m h
  · exact mget_mins_ne m v h

theorem mget_mset [Inhabited α] [DecidableEq α] (m : SMap α) (j k : Nat) (v : α) :
    mget (mset m k v) j = if j = k then v else mget m j := by
  split
  · rename_i h; rw [h, mget_mset_same]
  · rename_i h; exact mget_mset_ne m v h

@[simp] theorem mget_mupd_same [Inhabited α] [DecidableEq α] (m : SMap α) (k : Nat) (f : α → α) :
    mget (mupd m k f) k = f (mget m k) := by simp [mupd]

theorem mget_mupd_ne [Inhabited α] [DecidableEq α] (m : SMap α) {j k : Nat} (f : α → α) (h : j ≠ k) :
    mget (mupd m k f) j = mget m j := mget_mset_ne m _ h

/-! ## The canonical form -/

theorem mwfFrom_mono [Inhabited α] [DecidableEq α] {m : SMap α} {a b : Nat} (hab : a ≤ b) (h : mwfFrom b m = true) :
    mwfFrom a m = true := by
  cases m with
  | nil => rfl
  | cons e r =>
    simp only [mwfFrom, Bool.and_eq_true, decide_eq_true_eq] at h ⊢
    exact ⟨⟨by omega, h.1.2⟩, h.2⟩

theorem mwfFrom_mins [Inhabited α] [DecidableEq α] (m : SMap α) (a k : Nat) (v : α) (hv : v ≠ default) (hk : a ≤ k)
    (h : mwfFrom a m = true) : mwfFrom a (mins m k v) = true := by
  induction m generalizing a with
  | nil => simp [mins, mwfFrom, hv, hk]
  | cons e r ih =>
    obtain ⟨i, w⟩ := e
    simp only [mwfFrom, Bool.and_eq_true, decide_eq_true_eq] at h
    simp only [mins]
    split
    · simp only [mwfFrom, Bool.and_eq_true, decide_eq_true_eq]
      exact ⟨⟨hk, hv⟩, ⟨by omega, h.1.2⟩, h.2⟩
    · split
      · rename_i hi; subst hi
        simp only [mwfFrom, Bool.and_eq_true, decide_eq_true_eq]
        exact ⟨⟨hk, hv⟩, h.2⟩
      · simp only [mwfFrom, Bool.and_eq_true, decide_eq_true_eq]
        exact ⟨h.1, ih (i + 1) (by omega) h.2⟩

theorem mwfFrom_mdel [Inhabited α] [DecidableEq α] (m : SMap α) (a k : Nat) (h : mwfFrom a m = true) :
    mwfFrom a (mdel m k) = true := by
  induction m generalizing a with
  | nil => rfl
  | cons e r ih =>
    obtain ⟨i, w⟩ := e
    simp only [mwfFrom, Bool.and_eq_true, decide_eq_true_eq] at h
    simp only [mdel]
    split
    · exact mwfFrom_mono (by omega) (ih (i + 1) h.2)
    · simp only [mwfFrom, Bool.and_eq_true, decide_eq_true_eq]
      exact ⟨h.1, ih (i + 1) h.2⟩

/-- A write keeps the canonical form. -/
theorem mwf_mset [Inhabited α] [DecidableEq α] (m : SMap α) (k : Nat) (v : α) (h : mwf m = true) :
    mwf (mset m k v) = true := by
  unfold mset
  split
  · exact mwfFrom_mdel m 0 k h
  · rename_i hv; exact mwfFrom_mins m 0 k v hv (Nat.zero_le k) h

/-- A change of an entry keeps the canonical form. -/
theorem mwf_mupd [Inhabited α] [DecidableEq α] (m : SMap α) (k : Nat) (f : α → α) (h : mwf m = true) :
    mwf (mupd m k f) = true := mwf_mset m k _ h

theorem mwfFrom_mem [Inhabited α] [DecidableEq α] {m : SMap α} {a : Nat} (h : mwfFrom a m = true) {e : Nat × α}
    (he : e ∈ m) : e.2 ≠ default := by
  induction m generalizing a with
  | nil => cases he
  | cons x r ih =>
    obtain ⟨i, w⟩ := x
    simp only [mwfFrom, Bool.and_eq_true, decide_eq_true_eq] at h
    cases he with
    | head => exact h.1.2
    | tail _ hr => exact ih h.2 hr

theorem mwfFrom_filter [Inhabited α] [DecidableEq α] (p : Nat × α → Bool) (m : SMap α) (a : Nat)
    (h : mwfFrom a m = true) : mwfFrom a (m.filter p) = true := by
  induction m generalizing a with
  | nil => rfl
  | cons x r ih =>
    obtain ⟨i, w⟩ := x
    simp only [mwfFrom, Bool.and_eq_true, decide_eq_true_eq] at h
    simp only [List.filter]
    split
    · simp only [mwfFrom, Bool.and_eq_true, decide_eq_true_eq]
      exact ⟨h.1, ih (i + 1) h.2⟩
    · exact mwfFrom_mono (by omega) (ih (i + 1) h.2)

theorem mwf_foldr_mins [Inhabited α] [DecidableEq α] (l : List (Nat × α)) (m : SMap α) (hl : ∀ e ∈ l, e.2 ≠ default)
    (h : mwf m = true) : mwf (l.foldr (fun e m => mins m e.1 e.2) m) = true := by
  induction l with
  | nil => exact h
  | cons e r ih =>
    exact mwfFrom_mins _ 0 e.1 e.2 (hl e List.mem_cons_self) (Nat.zero_le _) (ih (fun x hx => hl x (List.mem_cons_of_mem _ hx)))

theorem mget_filter [Inhabited α] (p : Nat → Bool) (m : SMap α) (k : Nat) :
    mget (m.filter (fun e => p e.1)) k = if p k then mget m k else default := by
  induction m with
  | nil => simp
  | cons e r ih =>
    obtain ⟨i, w⟩ := e
    by_cases hi : k = i
    · subst hi; cases hp : p k <;> simp_all [List.filter, mget]
    · have hk := Ne.symm hi; cases hp : p i <;> simp_all [List.filter, mget]

/-- What a blend reads: the kept entries from the second, the rest from the first. -/
theorem mget_mblend [Inhabited α] (p : Nat → Bool) (a b : SMap α) (k : Nat) :
    mget (mblend p a b) k = if p k then mget b k else mget a k := by
  unfold mblend
  have base : mget (a.filter (fun e => !p e.1)) k = if p k then default else mget a k := by
    rw [mget_filter (fun k => !p k)]; cases p k <;> rfl
  induction b with
  | nil => simpa using base
  | cons e r ih =>
    obtain ⟨i, w⟩ := e
    by_cases hi : k = i
    · subst hi
      cases hp : p k
      · simpa [List.filter, hp] using ih
      · simp [List.filter, hp, mget_mins_same, mget]
    · cases hp : p i
      · simpa [List.filter, hp, mget, hi, Ne.symm hi] using ih
      · simp [List.filter, hp, mget_mins_ne _ _ hi, ih, mget, Ne.symm hi]

/-- Taking some entries from one and the rest from another keeps the canonical form. -/
theorem mwf_mblend [Inhabited α] [DecidableEq α] (p : Nat → Bool) (a b : SMap α) (ha : mwf a = true) (hb : mwf b = true) :
    mwf (mblend p a b) = true := by
  refine mwf_foldr_mins _ _ (fun e he => ?_) (mwfFrom_filter _ a 0 ha)
  exact mwfFrom_mem hb ((List.mem_filter.mp he).1)

/-! ## Register fields -/

/-- A field reads what was last written to it, cut to its width. -/
@[simp] theorem Dev.g_p_same (d : Dev) (f : Fld) (v : Nat) : (d.p f v).g f = v % 2 ^ f.w := by simp [Dev.p, Dev.g]

/-- Writing a field leaves the fields at other places alone. -/
theorem Dev.g_p_ne (d : Dev) {f f' : Fld} (v : Nat) (h : f'.key ≠ f.key) : (d.p f v).g f' = d.g f' := by
  simp [Dev.p, Dev.g, mget_mset_ne _ _ h]

/-- A field reads a number of its width. -/
theorem Dev.g_lt (d : Dev) (f : Fld) : d.g f < 2 ^ f.w := Nat.mod_lt _ (Nat.two_pow_pos _)

@[simp] theorem Dev.g_mod (d : Dev) (f : Fld) : d.g f % 2 ^ f.w = d.g f := Nat.mod_eq_of_lt (d.g_lt f)

/-- A one-bit field reads the truth value last written to it. -/
theorem Dev.b_pb_same (d : Dev) {f : Fld} (v : Bool) (h : f.w = 1) : (d.pb f v).b f = v := by
  cases v <;> simp [Dev.pb, Dev.b, bit, h]

theorem Dev.b_p_ne (d : Dev) {f f' : Fld} (v : Nat) (h : f'.key ≠ f.key) : (d.p f v).b f' = d.b f' := by
  unfold Dev.b; rw [Dev.g_p_ne _ _ h]

theorem Dev.b_pb_ne (d : Dev) {f f' : Fld} (v : Bool) (h : f'.key ≠ f.key) : (d.pb f v).b f' = d.b f' := Dev.b_p_ne d _ h

@[simp] theorem Dev.sh_psh_same (d : Dev) (f : Fld) (v : Nat) : (d.psh f v).sh f = v % 2 ^ f.w := by simp [Dev.psh, Dev.sh]

theorem Dev.sh_psh_ne (d : Dev) {f f' : Fld} (v : Nat) (h : f'.key ≠ f.key) : (d.psh f v).sh f' = d.sh f' := by
  simp [Dev.psh, Dev.sh, mget_mset_ne _ _ h]

/-- A counter counts one, and wraps. -/
@[simp] theorem Dev.g_inc_same (d : Dev) (f : Fld) : (d.inc f).g f = (d.g f + 1) % 2 ^ f.w := by simp [Dev.inc]

theorem Dev.g_inc_ne (d : Dev) {f f' : Fld} (h : f'.key ≠ f.key) : (d.inc f).g f' = d.g f' := Dev.g_p_ne d _ h

end Sys2Proof.Machine
end

