-- ==== Sys2Proof/Laws/State.lean ====
section
/-! SUPPORT. What each update of the head leaves alone, one lemma per field, so that no proof unfolds a record update. -/
set_option Elab.async false
namespace Sys2Proof.Machine

@[simp] theorem Dev.p_shadow (d : Dev) (f : Fld) (v : Nat) : (d.p f v).shadow = d.shadow := rfl
@[simp] theorem Dev.p_conf (d : Dev) (f : Fld) (v : Nat) : (d.p f v).conf = d.conf := rfl
@[simp] theorem Dev.p_cad (d : Dev) (f : Fld) (v : Nat) : (d.p f v).cad = d.cad := rfl
@[simp] theorem Dev.p_port (d : Dev) (f : Fld) (v : Nat) : (d.p f v).port = d.port := rfl
@[simp] theorem Dev.p_slot (d : Dev) (f : Fld) (v : Nat) : (d.p f v).slot = d.slot := rfl
@[simp] theorem Dev.p_conv (d : Dev) (f : Fld) (v : Nat) : (d.p f v).conv = d.conv := rfl
@[simp] theorem Dev.p_win (d : Dev) (f : Fld) (v : Nat) : (d.p f v).win = d.win := rfl
@[simp] theorem Dev.p_prot (d : Dev) (f : Fld) (v : Nat) : (d.p f v).prot = d.prot := rfl
@[simp] theorem Dev.p_red (d : Dev) (f : Fld) (v : Nat) : (d.p f v).red = d.red := rfl
@[simp] theorem Dev.p_svc (d : Dev) (f : Fld) (v : Nat) : (d.p f v).svc = d.svc := rfl
@[simp] theorem Dev.p_bal (d : Dev) (f : Fld) (v : Nat) : (d.p f v).bal = d.bal := rfl
@[simp] theorem Dev.p_ce (d : Dev) (f : Fld) (v : Nat) : (d.p f v).ce = d.ce := rfl
@[simp] theorem Dev.p_spanSeq (d : Dev) (f : Fld) (v : Nat) : (d.p f v).spanSeq = d.spanSeq := rfl
@[simp] theorem Dev.p_edge (d : Dev) (f : Fld) (v : Nat) : (d.p f v).edge = d.edge := rfl
@[simp] theorem Dev.p_eng (d : Dev) (f : Fld) (v : Nat) : (d.p f v).eng = d.eng := rfl
@[simp] theorem Dev.p_fs (d : Dev) (f : Fld) (v : Nat) : (d.p f v).fs = d.fs := rfl
@[simp] theorem Dev.p_met (d : Dev) (f : Fld) (v : Nat) : (d.p f v).met = d.met := rfl
@[simp] theorem Dev.p_thm (d : Dev) (f : Fld) (v : Nat) : (d.p f v).thm = d.thm := rfl
@[simp] theorem Dev.p_fab (d : Dev) (f : Fld) (v : Nat) : (d.p f v).fab = d.fab := rfl
@[simp] theorem Dev.p_cap (d : Dev) (f : Fld) (v : Nat) : (d.p f v).cap = d.cap := rfl
@[simp] theorem Dev.p_cmt (d : Dev) (f : Fld) (v : Nat) : (d.p f v).cmt = d.cmt := rfl
@[simp] theorem Dev.p_isl (d : Dev) (f : Fld) (v : Nat) : (d.p f v).isl = d.isl := rfl
@[simp] theorem Dev.p_boot (d : Dev) (f : Fld) (v : Nat) : (d.p f v).boot = d.boot := rfl
@[simp] theorem Dev.p_sec (d : Dev) (f : Fld) (v : Nat) : (d.p f v).sec = d.sec := rfl
@[simp] theorem Dev.p_mbx (d : Dev) (f : Fld) (v : Nat) : (d.p f v).mbx = d.mbx := rfl
@[simp] theorem Dev.p_hrp (d : Dev) (f : Fld) (v : Nat) : (d.p f v).hrp = d.hrp := rfl
@[simp] theorem Dev.p_claimB (d : Dev) (f : Fld) (v : Nat) : (d.p f v).claimB = d.claimB := rfl
@[simp] theorem Dev.p_free (d : Dev) (f : Fld) (v : Nat) : (d.p f v).free = d.free := rfl
@[simp] theorem Dev.p_out (d : Dev) (f : Fld) (v : Nat) : (d.p f v).out = d.out := rfl

@[simp] theorem Dev.pb_shadow (d : Dev) (f : Fld) (v : Bool) : (d.pb f v).shadow = d.shadow := rfl
@[simp] theorem Dev.pb_conf (d : Dev) (f : Fld) (v : Bool) : (d.pb f v).conf = d.conf := rfl
@[simp] theorem Dev.pb_cad (d : Dev) (f : Fld) (v : Bool) : (d.pb f v).cad = d.cad := rfl
@[simp] theorem Dev.pb_port (d : Dev) (f : Fld) (v : Bool) : (d.pb f v).port = d.port := rfl
@[simp] theorem Dev.pb_slot (d : Dev) (f : Fld) (v : Bool) : (d.pb f v).slot = d.slot := rfl
@[simp] theorem Dev.pb_conv (d : Dev) (f : Fld) (v : Bool) : (d.pb f v).conv = d.conv := rfl
@[simp] theorem Dev.pb_win (d : Dev) (f : Fld) (v : Bool) : (d.pb f v).win = d.win := rfl
@[simp] theorem Dev.pb_prot (d : Dev) (f : Fld) (v : Bool) : (d.pb f v).prot = d.prot := rfl
@[simp] theorem Dev.pb_red (d : Dev) (f : Fld) (v : Bool) : (d.pb f v).red = d.red := rfl
@[simp] theorem Dev.pb_svc (d : Dev) (f : Fld) (v : Bool) : (d.pb f v).svc = d.svc := rfl
@[simp] theorem Dev.pb_bal (d : Dev) (f : Fld) (v : Bool) : (d.pb f v).bal = d.bal := rfl
@[simp] theorem Dev.pb_ce (d : Dev) (f : Fld) (v : Bool) : (d.pb f v).ce = d.ce := rfl
@[simp] theorem Dev.pb_spanSeq (d : Dev) (f : Fld) (v : Bool) : (d.pb f v).spanSeq = d.spanSeq := rfl
@[simp] theorem Dev.pb_edge (d : Dev) (f : Fld) (v : Bool) : (d.pb f v).edge = d.edge := rfl
@[simp] theorem Dev.pb_eng (d : Dev) (f : Fld) (v : Bool) : (d.pb f v).eng = d.eng := rfl
@[simp] theorem Dev.pb_fs (d : Dev) (f : Fld) (v : Bool) : (d.pb f v).fs = d.fs := rfl
@[simp] theorem Dev.pb_met (d : Dev) (f : Fld) (v : Bool) : (d.pb f v).met = d.met := rfl
@[simp] theorem Dev.pb_thm (d : Dev) (f : Fld) (v : Bool) : (d.pb f v).thm = d.thm := rfl
@[simp] theorem Dev.pb_fab (d : Dev) (f : Fld) (v : Bool) : (d.pb f v).fab = d.fab := rfl
@[simp] theorem Dev.pb_cap (d : Dev) (f : Fld) (v : Bool) : (d.pb f v).cap = d.cap := rfl
@[simp] theorem Dev.pb_cmt (d : Dev) (f : Fld) (v : Bool) : (d.pb f v).cmt = d.cmt := rfl
@[simp] theorem Dev.pb_isl (d : Dev) (f : Fld) (v : Bool) : (d.pb f v).isl = d.isl := rfl
@[simp] theorem Dev.pb_boot (d : Dev) (f : Fld) (v : Bool) : (d.pb f v).boot = d.boot := rfl
@[simp] theorem Dev.pb_sec (d : Dev) (f : Fld) (v : Bool) : (d.pb f v).sec = d.sec := rfl
@[simp] theorem Dev.pb_mbx (d : Dev) (f : Fld) (v : Bool) : (d.pb f v).mbx = d.mbx := rfl
@[simp] theorem Dev.pb_hrp (d : Dev) (f : Fld) (v : Bool) : (d.pb f v).hrp = d.hrp := rfl
@[simp] theorem Dev.pb_claimB (d : Dev) (f : Fld) (v : Bool) : (d.pb f v).claimB = d.claimB := rfl
@[simp] theorem Dev.pb_free (d : Dev) (f : Fld) (v : Bool) : (d.pb f v).free = d.free := rfl
@[simp] theorem Dev.pb_out (d : Dev) (f : Fld) (v : Bool) : (d.pb f v).out = d.out := rfl

@[simp] theorem Dev.ps_shadow (d : Dev) (f : Fld) (v : Int) : (d.ps f v).shadow = d.shadow := rfl
@[simp] theorem Dev.ps_conf (d : Dev) (f : Fld) (v : Int) : (d.ps f v).conf = d.conf := rfl
@[simp] theorem Dev.ps_cad (d : Dev) (f : Fld) (v : Int) : (d.ps f v).cad = d.cad := rfl
@[simp] theorem Dev.ps_port (d : Dev) (f : Fld) (v : Int) : (d.ps f v).port = d.port := rfl
@[simp] theorem Dev.ps_slot (d : Dev) (f : Fld) (v : Int) : (d.ps f v).slot = d.slot := rfl
@[simp] theorem Dev.ps_conv (d : Dev) (f : Fld) (v : Int) : (d.ps f v).conv = d.conv := rfl
@[simp] theorem Dev.ps_win (d : Dev) (f : Fld) (v : Int) : (d.ps f v).win = d.win := rfl
@[simp] theorem Dev.ps_prot (d : Dev) (f : Fld) (v : Int) : (d.ps f v).prot = d.prot := rfl
@[simp] theorem Dev.ps_red (d : Dev) (f : Fld) (v : Int) : (d.ps f v).red = d.red := rfl
@[simp] theorem Dev.ps_svc (d : Dev) (f : Fld) (v : Int) : (d.ps f v).svc = d.svc := rfl
@[simp] theorem Dev.ps_bal (d : Dev) (f : Fld) (v : Int) : (d.ps f v).bal = d.bal := rfl
@[simp] theorem Dev.ps_ce (d : Dev) (f : Fld) (v : Int) : (d.ps f v).ce = d.ce := rfl
@[simp] theorem Dev.ps_spanSeq (d : Dev) (f : Fld) (v : Int) : (d.ps f v).spanSeq = d.spanSeq := rfl
@[simp] theorem Dev.ps_edge (d : Dev) (f : Fld) (v : Int) : (d.ps f v).edge = d.edge := rfl
@[simp] theorem Dev.ps_eng (d : Dev) (f : Fld) (v : Int) : (d.ps f v).eng = d.eng := rfl
@[simp] theorem Dev.ps_fs (d : Dev) (f : Fld) (v : Int) : (d.ps f v).fs = d.fs := rfl
@[simp] theorem Dev.ps_met (d : Dev) (f : Fld) (v : Int) : (d.ps f v).met = d.met := rfl
@[simp] theorem Dev.ps_thm (d : Dev) (f : Fld) (v : Int) : (d.ps f v).thm = d.thm := rfl
@[simp] theorem Dev.ps_fab (d : Dev) (f : Fld) (v : Int) : (d.ps f v).fab = d.fab := rfl
@[simp] theorem Dev.ps_cap (d : Dev) (f : Fld) (v : Int) : (d.ps f v).cap = d.cap := rfl
@[simp] theorem Dev.ps_cmt (d : Dev) (f : Fld) (v : Int) : (d.ps f v).cmt = d.cmt := rfl
@[simp] theorem Dev.ps_isl (d : Dev) (f : Fld) (v : Int) : (d.ps f v).isl = d.isl := rfl
@[simp] theorem Dev.ps_boot (d : Dev) (f : Fld) (v : Int) : (d.ps f v).boot = d.boot := rfl
@[simp] theorem Dev.ps_sec (d : Dev) (f : Fld) (v : Int) : (d.ps f v).sec = d.sec := rfl
@[simp] theorem Dev.ps_mbx (d : Dev) (f : Fld) (v : Int) : (d.ps f v).mbx = d.mbx := rfl
@[simp] theorem Dev.ps_hrp (d : Dev) (f : Fld) (v : Int) : (d.ps f v).hrp = d.hrp := rfl
@[simp] theorem Dev.ps_claimB (d : Dev) (f : Fld) (v : Int) : (d.ps f v).claimB = d.claimB := rfl
@[simp] theorem Dev.ps_free (d : Dev) (f : Fld) (v : Int) : (d.ps f v).free = d.free := rfl
@[simp] theorem Dev.ps_out (d : Dev) (f : Fld) (v : Int) : (d.ps f v).out = d.out := rfl

@[simp] theorem Dev.inc_shadow (d : Dev) (f : Fld) : (d.inc f).shadow = d.shadow := rfl
@[simp] theorem Dev.inc_conf (d : Dev) (f : Fld) : (d.inc f).conf = d.conf := rfl
@[simp] theorem Dev.inc_cad (d : Dev) (f : Fld) : (d.inc f).cad = d.cad := rfl
@[simp] theorem Dev.inc_port (d : Dev) (f : Fld) : (d.inc f).port = d.port := rfl
@[simp] theorem Dev.inc_slot (d : Dev) (f : Fld) : (d.inc f).slot = d.slot := rfl
@[simp] theorem Dev.inc_conv (d : Dev) (f : Fld) : (d.inc f).conv = d.conv := rfl
@[simp] theorem Dev.inc_win (d : Dev) (f : Fld) : (d.inc f).win = d.win := rfl
@[simp] theorem Dev.inc_prot (d : Dev) (f : Fld) : (d.inc f).prot = d.prot := rfl
@[simp] theorem Dev.inc_red (d : Dev) (f : Fld) : (d.inc f).red = d.red := rfl
@[simp] theorem Dev.inc_svc (d : Dev) (f : Fld) : (d.inc f).svc = d.svc := rfl
@[simp] theorem Dev.inc_bal (d : Dev) (f : Fld) : (d.inc f).bal = d.bal := rfl
@[simp] theorem Dev.inc_ce (d : Dev) (f : Fld) : (d.inc f).ce = d.ce := rfl
@[simp] theorem Dev.inc_spanSeq (d : Dev) (f : Fld) : (d.inc f).spanSeq = d.spanSeq := rfl
@[simp] theorem Dev.inc_edge (d : Dev) (f : Fld) : (d.inc f).edge = d.edge := rfl
@[simp] theorem Dev.inc_eng (d : Dev) (f : Fld) : (d.inc f).eng = d.eng := rfl
@[simp] theorem Dev.inc_fs (d : Dev) (f : Fld) : (d.inc f).fs = d.fs := rfl
@[simp] theorem Dev.inc_met (d : Dev) (f : Fld) : (d.inc f).met = d.met := rfl
@[simp] theorem Dev.inc_thm (d : Dev) (f : Fld) : (d.inc f).thm = d.thm := rfl
@[simp] theorem Dev.inc_fab (d : Dev) (f : Fld) : (d.inc f).fab = d.fab := rfl
@[simp] theorem Dev.inc_cap (d : Dev) (f : Fld) : (d.inc f).cap = d.cap := rfl
@[simp] theorem Dev.inc_cmt (d : Dev) (f : Fld) : (d.inc f).cmt = d.cmt := rfl
@[simp] theorem Dev.inc_isl (d : Dev) (f : Fld) : (d.inc f).isl = d.isl := rfl
@[simp] theorem Dev.inc_boot (d : Dev) (f : Fld) : (d.inc f).boot = d.boot := rfl
@[simp] theorem Dev.inc_sec (d : Dev) (f : Fld) : (d.inc f).sec = d.sec := rfl
@[simp] theorem Dev.inc_mbx (d : Dev) (f : Fld) : (d.inc f).mbx = d.mbx := rfl
@[simp] theorem Dev.inc_hrp (d : Dev) (f : Fld) : (d.inc f).hrp = d.hrp := rfl
@[simp] theorem Dev.inc_claimB (d : Dev) (f : Fld) : (d.inc f).claimB = d.claimB := rfl
@[simp] theorem Dev.inc_free (d : Dev) (f : Fld) : (d.inc f).free = d.free := rfl
@[simp] theorem Dev.inc_out (d : Dev) (f : Fld) : (d.inc f).out = d.out := rfl

@[simp] theorem Dev.addTo_shadow (d : Dev) (f : Fld) (v : Nat) : (d.addTo f v).shadow = d.shadow := rfl
@[simp] theorem Dev.addTo_conf (d : Dev) (f : Fld) (v : Nat) : (d.addTo f v).conf = d.conf := rfl
@[simp] theorem Dev.addTo_cad (d : Dev) (f : Fld) (v : Nat) : (d.addTo f v).cad = d.cad := rfl
@[simp] theorem Dev.addTo_port (d : Dev) (f : Fld) (v : Nat) : (d.addTo f v).port = d.port := rfl
@[simp] theorem Dev.addTo_slot (d : Dev) (f : Fld) (v : Nat) : (d.addTo f v).slot = d.slot := rfl
@[simp] theorem Dev.addTo_conv (d : Dev) (f : Fld) (v : Nat) : (d.addTo f v).conv = d.conv := rfl
@[simp] theorem Dev.addTo_win (d : Dev) (f : Fld) (v : Nat) : (d.addTo f v).win = d.win := rfl
@[simp] theorem Dev.addTo_prot (d : Dev) (f : Fld) (v : Nat) : (d.addTo f v).prot = d.prot := rfl
@[simp] theorem Dev.addTo_red (d : Dev) (f : Fld) (v : Nat) : (d.addTo f v).red = d.red := rfl
@[simp] theorem Dev.addTo_svc (d : Dev) (f : Fld) (v : Nat) : (d.addTo f v).svc = d.svc := rfl
@[simp] theorem Dev.addTo_bal (d : Dev) (f : Fld) (v : Nat) : (d.addTo f v).bal = d.bal := rfl
@[simp] theorem Dev.addTo_ce (d : Dev) (f : Fld) (v : Nat) : (d.addTo f v).ce = d.ce := rfl
@[simp] theorem Dev.addTo_spanSeq (d : Dev) (f : Fld) (v : Nat) : (d.addTo f v).spanSeq = d.spanSeq := rfl
@[simp] theorem Dev.addTo_edge (d : Dev) (f : Fld) (v : Nat) : (d.addTo f v).edge = d.edge := rfl
@[simp] theorem Dev.addTo_eng (d : Dev) (f : Fld) (v : Nat) : (d.addTo f v).eng = d.eng := rfl
@[simp] theorem Dev.addTo_fs (d : Dev) (f : Fld) (v : Nat) : (d.addTo f v).fs = d.fs := rfl
@[simp] theorem Dev.addTo_met (d : Dev) (f : Fld) (v : Nat) : (d.addTo f v).met = d.met := rfl
@[simp] theorem Dev.addTo_thm (d : Dev) (f : Fld) (v : Nat) : (d.addTo f v).thm = d.thm := rfl
@[simp] theorem Dev.addTo_fab (d : Dev) (f : Fld) (v : Nat) : (d.addTo f v).fab = d.fab := rfl
@[simp] theorem Dev.addTo_cap (d : Dev) (f : Fld) (v : Nat) : (d.addTo f v).cap = d.cap := rfl
@[simp] theorem Dev.addTo_cmt (d : Dev) (f : Fld) (v : Nat) : (d.addTo f v).cmt = d.cmt := rfl
@[simp] theorem Dev.addTo_isl (d : Dev) (f : Fld) (v : Nat) : (d.addTo f v).isl = d.isl := rfl
@[simp] theorem Dev.addTo_boot (d : Dev) (f : Fld) (v : Nat) : (d.addTo f v).boot = d.boot := rfl
@[simp] theorem Dev.addTo_sec (d : Dev) (f : Fld) (v : Nat) : (d.addTo f v).sec = d.sec := rfl
@[simp] theorem Dev.addTo_mbx (d : Dev) (f : Fld) (v : Nat) : (d.addTo f v).mbx = d.mbx := rfl
@[simp] theorem Dev.addTo_hrp (d : Dev) (f : Fld) (v : Nat) : (d.addTo f v).hrp = d.hrp := rfl
@[simp] theorem Dev.addTo_claimB (d : Dev) (f : Fld) (v : Nat) : (d.addTo f v).claimB = d.claimB := rfl
@[simp] theorem Dev.addTo_free (d : Dev) (f : Fld) (v : Nat) : (d.addTo f v).free = d.free := rfl
@[simp] theorem Dev.addTo_out (d : Dev) (f : Fld) (v : Nat) : (d.addTo f v).out = d.out := rfl

@[simp] theorem Dev.psh_rf (d : Dev) (f : Fld) (v : Nat) : (d.psh f v).rf = d.rf := rfl
@[simp] theorem Dev.psh_conf (d : Dev) (f : Fld) (v : Nat) : (d.psh f v).conf = d.conf := rfl
@[simp] theorem Dev.psh_cad (d : Dev) (f : Fld) (v : Nat) : (d.psh f v).cad = d.cad := rfl
@[simp] theorem Dev.psh_port (d : Dev) (f : Fld) (v : Nat) : (d.psh f v).port = d.port := rfl
@[simp] theorem Dev.psh_slot (d : Dev) (f : Fld) (v : Nat) : (d.psh f v).slot = d.slot := rfl
@[simp] theorem Dev.psh_conv (d : Dev) (f : Fld) (v : Nat) : (d.psh f v).conv = d.conv := rfl
@[simp] theorem Dev.psh_win (d : Dev) (f : Fld) (v : Nat) : (d.psh f v).win = d.win := rfl
@[simp] theorem Dev.psh_prot (d : Dev) (f : Fld) (v : Nat) : (d.psh f v).prot = d.prot := rfl
@[simp] theorem Dev.psh_red (d : Dev) (f : Fld) (v : Nat) : (d.psh f v).red = d.red := rfl
@[simp] theorem Dev.psh_svc (d : Dev) (f : Fld) (v : Nat) : (d.psh f v).svc = d.svc := rfl
@[simp] theorem Dev.psh_bal (d : Dev) (f : Fld) (v : Nat) : (d.psh f v).bal = d.bal := rfl
@[simp] theorem Dev.psh_ce (d : Dev) (f : Fld) (v : Nat) : (d.psh f v).ce = d.ce := rfl
@[simp] theorem Dev.psh_spanSeq (d : Dev) (f : Fld) (v : Nat) : (d.psh f v).spanSeq = d.spanSeq := rfl
@[simp] theorem Dev.psh_edge (d : Dev) (f : Fld) (v : Nat) : (d.psh f v).edge = d.edge := rfl
@[simp] theorem Dev.psh_eng (d : Dev) (f : Fld) (v : Nat) : (d.psh f v).eng = d.eng := rfl
@[simp] theorem Dev.psh_fs (d : Dev) (f : Fld) (v : Nat) : (d.psh f v).fs = d.fs := rfl
@[simp] theorem Dev.psh_met (d : Dev) (f : Fld) (v : Nat) : (d.psh f v).met = d.met := rfl
@[simp] theorem Dev.psh_thm (d : Dev) (f : Fld) (v : Nat) : (d.psh f v).thm = d.thm := rfl
@[simp] theorem Dev.psh_fab (d : Dev) (f : Fld) (v : Nat) : (d.psh f v).fab = d.fab := rfl
@[simp] theorem Dev.psh_cap (d : Dev) (f : Fld) (v : Nat) : (d.psh f v).cap = d.cap := rfl
@[simp] theorem Dev.psh_cmt (d : Dev) (f : Fld) (v : Nat) : (d.psh f v).cmt = d.cmt := rfl
@[simp] theorem Dev.psh_isl (d : Dev) (f : Fld) (v : Nat) : (d.psh f v).isl = d.isl := rfl
@[simp] theorem Dev.psh_boot (d : Dev) (f : Fld) (v : Nat) : (d.psh f v).boot = d.boot := rfl
@[simp] theorem Dev.psh_sec (d : Dev) (f : Fld) (v : Nat) : (d.psh f v).sec = d.sec := rfl
@[simp] theorem Dev.psh_mbx (d : Dev) (f : Fld) (v : Nat) : (d.psh f v).mbx = d.mbx := rfl
@[simp] theorem Dev.psh_hrp (d : Dev) (f : Fld) (v : Nat) : (d.psh f v).hrp = d.hrp := rfl
@[simp] theorem Dev.psh_claimB (d : Dev) (f : Fld) (v : Nat) : (d.psh f v).claimB = d.claimB := rfl
@[simp] theorem Dev.psh_free (d : Dev) (f : Fld) (v : Nat) : (d.psh f v).free = d.free := rfl
@[simp] theorem Dev.psh_out (d : Dev) (f : Fld) (v : Nat) : (d.psh f v).out = d.out := rfl

@[simp] theorem Dev.emit_rf (d : Dev) (o : Out) : (d.emit o).rf = d.rf := rfl
@[simp] theorem Dev.emit_shadow (d : Dev) (o : Out) : (d.emit o).shadow = d.shadow := rfl
@[simp] theorem Dev.emit_conf (d : Dev) (o : Out) : (d.emit o).conf = d.conf := rfl
@[simp] theorem Dev.emit_cad (d : Dev) (o : Out) : (d.emit o).cad = d.cad := rfl
@[simp] theorem Dev.emit_port (d : Dev) (o : Out) : (d.emit o).port = d.port := rfl
@[simp] theorem Dev.emit_slot (d : Dev) (o : Out) : (d.emit o).slot = d.slot := rfl
@[simp] theorem Dev.emit_conv (d : Dev) (o : Out) : (d.emit o).conv = d.conv := rfl
@[simp] theorem Dev.emit_win (d : Dev) (o : Out) : (d.emit o).win = d.win := rfl
@[simp] theorem Dev.emit_prot (d : Dev) (o : Out) : (d.emit o).prot = d.prot := rfl
@[simp] theorem Dev.emit_red (d : Dev) (o : Out) : (d.emit o).red = d.red := rfl
@[simp] theorem Dev.emit_svc (d : Dev) (o : Out) : (d.emit o).svc = d.svc := rfl
@[simp] theorem Dev.emit_bal (d : Dev) (o : Out) : (d.emit o).bal = d.bal := rfl
@[simp] theorem Dev.emit_ce (d : Dev) (o : Out) : (d.emit o).ce = d.ce := rfl
@[simp] theorem Dev.emit_spanSeq (d : Dev) (o : Out) : (d.emit o).spanSeq = d.spanSeq := rfl
@[simp] theorem Dev.emit_edge (d : Dev) (o : Out) : (d.emit o).edge = d.edge := rfl
@[simp] theorem Dev.emit_eng (d : Dev) (o : Out) : (d.emit o).eng = d.eng := rfl
@[simp] theorem Dev.emit_fs (d : Dev) (o : Out) : (d.emit o).fs = d.fs := rfl
@[simp] theorem Dev.emit_met (d : Dev) (o : Out) : (d.emit o).met = d.met := rfl
@[simp] theorem Dev.emit_thm (d : Dev) (o : Out) : (d.emit o).thm = d.thm := rfl
@[simp] theorem Dev.emit_fab (d : Dev) (o : Out) : (d.emit o).fab = d.fab := rfl
@[simp] theorem Dev.emit_cap (d : Dev) (o : Out) : (d.emit o).cap = d.cap := rfl
@[simp] theorem Dev.emit_cmt (d : Dev) (o : Out) : (d.emit o).cmt = d.cmt := rfl
@[simp] theorem Dev.emit_isl (d : Dev) (o : Out) : (d.emit o).isl = d.isl := rfl
@[simp] theorem Dev.emit_boot (d : Dev) (o : Out) : (d.emit o).boot = d.boot := rfl
@[simp] theorem Dev.emit_sec (d : Dev) (o : Out) : (d.emit o).sec = d.sec := rfl
@[simp] theorem Dev.emit_mbx (d : Dev) (o : Out) : (d.emit o).mbx = d.mbx := rfl
@[simp] theorem Dev.emit_hrp (d : Dev) (o : Out) : (d.emit o).hrp = d.hrp := rfl
@[simp] theorem Dev.emit_claimB (d : Dev) (o : Out) : (d.emit o).claimB = d.claimB := rfl
@[simp] theorem Dev.emit_free (d : Dev) (o : Out) : (d.emit o).free = d.free := rfl

@[simp] theorem Dev.portUpd_rf (d : Dev) (l : Nat) (f : Port → Port) : (d.portUpd l f).rf = d.rf := rfl
@[simp] theorem Dev.portUpd_shadow (d : Dev) (l : Nat) (f : Port → Port) : (d.portUpd l f).shadow = d.shadow := rfl
@[simp] theorem Dev.portUpd_conf (d : Dev) (l : Nat) (f : Port → Port) : (d.portUpd l f).conf = d.conf := rfl
@[simp] theorem Dev.portUpd_cad (d : Dev) (l : Nat) (f : Port → Port) : (d.portUpd l f).cad = d.cad := rfl
@[simp] theorem Dev.portUpd_slot (d : Dev) (l : Nat) (f : Port → Port) : (d.portUpd l f).slot = d.slot := rfl
@[simp] theorem Dev.portUpd_conv (d : Dev) (l : Nat) (f : Port → Port) : (d.portUpd l f).conv = d.conv := rfl
@[simp] theorem Dev.portUpd_win (d : Dev) (l : Nat) (f : Port → Port) : (d.portUpd l f).win = d.win := rfl
@[simp] theorem Dev.portUpd_prot (d : Dev) (l : Nat) (f : Port → Port) : (d.portUpd l f).prot = d.prot := rfl
@[simp] theorem Dev.portUpd_red (d : Dev) (l : Nat) (f : Port → Port) : (d.portUpd l f).red = d.red := rfl
@[simp] theorem Dev.portUpd_svc (d : Dev) (l : Nat) (f : Port → Port) : (d.portUpd l f).svc = d.svc := rfl
@[simp] theorem Dev.portUpd_bal (d : Dev) (l : Nat) (f : Port → Port) : (d.portUpd l f).bal = d.bal := rfl
@[simp] theorem Dev.portUpd_ce (d : Dev) (l : Nat) (f : Port → Port) : (d.portUpd l f).ce = d.ce := rfl
@[simp] theorem Dev.portUpd_spanSeq (d : Dev) (l : Nat) (f : Port → Port) : (d.portUpd l f).spanSeq = d.spanSeq := rfl
@[simp] theorem Dev.portUpd_edge (d : Dev) (l : Nat) (f : Port → Port) : (d.portUpd l f).edge = d.edge := rfl
@[simp] theorem Dev.portUpd_eng (d : Dev) (l : Nat) (f : Port → Port) : (d.portUpd l f).eng = d.eng := rfl
@[simp] theorem Dev.portUpd_fs (d : Dev) (l : Nat) (f : Port → Port) : (d.portUpd l f).fs = d.fs := rfl
@[simp] theorem Dev.portUpd_met (d : Dev) (l : Nat) (f : Port → Port) : (d.portUpd l f).met = d.met := rfl
@[simp] theorem Dev.portUpd_thm (d : Dev) (l : Nat) (f : Port → Port) : (d.portUpd l f).thm = d.thm := rfl
@[simp] theorem Dev.portUpd_fab (d : Dev) (l : Nat) (f : Port → Port) : (d.portUpd l f).fab = d.fab := rfl
@[simp] theorem Dev.portUpd_cap (d : Dev) (l : Nat) (f : Port → Port) : (d.portUpd l f).cap = d.cap := rfl
@[simp] theorem Dev.portUpd_cmt (d : Dev) (l : Nat) (f : Port → Port) : (d.portUpd l f).cmt = d.cmt := rfl
@[simp] theorem Dev.portUpd_isl (d : Dev) (l : Nat) (f : Port → Port) : (d.portUpd l f).isl = d.isl := rfl
@[simp] theorem Dev.portUpd_boot (d : Dev) (l : Nat) (f : Port → Port) : (d.portUpd l f).boot = d.boot := rfl
@[simp] theorem Dev.portUpd_sec (d : Dev) (l : Nat) (f : Port → Port) : (d.portUpd l f).sec = d.sec := rfl
@[simp] theorem Dev.portUpd_mbx (d : Dev) (l : Nat) (f : Port → Port) : (d.portUpd l f).mbx = d.mbx := rfl
@[simp] theorem Dev.portUpd_hrp (d : Dev) (l : Nat) (f : Port → Port) : (d.portUpd l f).hrp = d.hrp := rfl
@[simp] theorem Dev.portUpd_claimB (d : Dev) (l : Nat) (f : Port → Port) : (d.portUpd l f).claimB = d.claimB := rfl
@[simp] theorem Dev.portUpd_free (d : Dev) (l : Nat) (f : Port → Port) : (d.portUpd l f).free = d.free := rfl
@[simp] theorem Dev.portUpd_out (d : Dev) (l : Nat) (f : Port → Port) : (d.portUpd l f).out = d.out := rfl

@[simp] theorem Dev.fresh_rf (d : Dev) : d.fresh.rf = d.rf := rfl
@[simp] theorem Dev.fresh_shadow (d : Dev) : d.fresh.shadow = d.shadow := rfl
@[simp] theorem Dev.fresh_conf (d : Dev) : d.fresh.conf = d.conf := rfl
@[simp] theorem Dev.fresh_cad (d : Dev) : d.fresh.cad = d.cad := rfl
@[simp] theorem Dev.fresh_port (d : Dev) : d.fresh.port = d.port := rfl
@[simp] theorem Dev.fresh_slot (d : Dev) : d.fresh.slot = d.slot := rfl
@[simp] theorem Dev.fresh_conv (d : Dev) : d.fresh.conv = d.conv := rfl
@[simp] theorem Dev.fresh_win (d : Dev) : d.fresh.win = d.win := rfl
@[simp] theorem Dev.fresh_prot (d : Dev) : d.fresh.prot = d.prot := rfl
@[simp] theorem Dev.fresh_red (d : Dev) : d.fresh.red = d.red := rfl
@[simp] theorem Dev.fresh_svc (d : Dev) : d.fresh.svc = d.svc := rfl
@[simp] theorem Dev.fresh_bal (d : Dev) : d.fresh.bal = d.bal := rfl
@[simp] theorem Dev.fresh_ce (d : Dev) : d.fresh.ce = d.ce := rfl
@[simp] theorem Dev.fresh_spanSeq (d : Dev) : d.fresh.spanSeq = d.spanSeq := rfl
@[simp] theorem Dev.fresh_edge (d : Dev) : d.fresh.edge = d.edge := rfl
@[simp] theorem Dev.fresh_eng (d : Dev) : d.fresh.eng = d.eng := rfl
@[simp] theorem Dev.fresh_fs (d : Dev) : d.fresh.fs = d.fs := rfl
@[simp] theorem Dev.fresh_met (d : Dev) : d.fresh.met = d.met := rfl
@[simp] theorem Dev.fresh_thm (d : Dev) : d.fresh.thm = d.thm := rfl
@[simp] theorem Dev.fresh_fab (d : Dev) : d.fresh.fab = d.fab := rfl
@[simp] theorem Dev.fresh_cap (d : Dev) : d.fresh.cap = d.cap := rfl
@[simp] theorem Dev.fresh_cmt (d : Dev) : d.fresh.cmt = d.cmt := rfl
@[simp] theorem Dev.fresh_isl (d : Dev) : d.fresh.isl = d.isl := rfl
@[simp] theorem Dev.fresh_boot (d : Dev) : d.fresh.boot = d.boot := rfl
@[simp] theorem Dev.fresh_sec (d : Dev) : d.fresh.sec = d.sec := rfl
@[simp] theorem Dev.fresh_mbx (d : Dev) : d.fresh.mbx = d.mbx := rfl
@[simp] theorem Dev.fresh_hrp (d : Dev) : d.fresh.hrp = d.hrp := rfl
@[simp] theorem Dev.fresh_claimB (d : Dev) : d.fresh.claimB = d.claimB := rfl
@[simp] theorem Dev.fresh_free (d : Dev) : d.fresh.free = d.free := rfl
@[simp] theorem Dev.fresh_out (d : Dev) : d.fresh.out = [] := rfl
@[simp] theorem Dev.emit_out (d : Dev) (o : Out) : (d.emit o).out = d.out ++ [o] := rfl
@[simp] theorem Dev.portUpd_port (d : Dev) (l : Nat) (f : Port → Port) : (d.portUpd l f).port = mupd d.port l f := rfl
@[simp] theorem Dev.fresh_g (d : Dev) (f : Fld) : d.fresh.g f = d.g f := rfl
@[simp] theorem Dev.emit_g (d : Dev) (o : Out) (f : Fld) : (d.emit o).g f = d.g f := rfl
@[simp] theorem Dev.portUpd_g (d : Dev) (l : Nat) (u : Port → Port) (f : Fld) : (d.portUpd l u).g f = d.g f := rfl
@[simp] theorem Dev.psh_g (d : Dev) (f' : Fld) (v : Nat) (f : Fld) : (d.psh f' v).g f = d.g f := rfl
@[simp] theorem Dev.p_sh (d : Dev) (f' : Fld) (v : Nat) (f : Fld) : (d.p f' v).sh f = d.sh f := rfl

theorem Dev.at_eq (d : Dev) (t : Nat) :
    d.at t = { d with cad := { d.cad with now := d.clockAt t, ref := max d.cad.ref t, frac := d.fracAt t } } := rfl
@[simp] theorem Dev.at_rf (d : Dev) (t : Nat) : (d.at t).rf = d.rf := rfl
@[simp] theorem Dev.at_shadow (d : Dev) (t : Nat) : (d.at t).shadow = d.shadow := rfl
@[simp] theorem Dev.at_conf (d : Dev) (t : Nat) : (d.at t).conf = d.conf := rfl
@[simp] theorem Dev.at_port (d : Dev) (t : Nat) : (d.at t).port = d.port := rfl
@[simp] theorem Dev.at_slot (d : Dev) (t : Nat) : (d.at t).slot = d.slot := rfl
@[simp] theorem Dev.at_conv (d : Dev) (t : Nat) : (d.at t).conv = d.conv := rfl
@[simp] theorem Dev.at_win (d : Dev) (t : Nat) : (d.at t).win = d.win := rfl
@[simp] theorem Dev.at_prot (d : Dev) (t : Nat) : (d.at t).prot = d.prot := rfl
@[simp] theorem Dev.at_red (d : Dev) (t : Nat) : (d.at t).red = d.red := rfl
@[simp] theorem Dev.at_svc (d : Dev) (t : Nat) : (d.at t).svc = d.svc := rfl
@[simp] theorem Dev.at_bal (d : Dev) (t : Nat) : (d.at t).bal = d.bal := rfl
@[simp] theorem Dev.at_ce (d : Dev) (t : Nat) : (d.at t).ce = d.ce := rfl
@[simp] theorem Dev.at_spanSeq (d : Dev) (t : Nat) : (d.at t).spanSeq = d.spanSeq := rfl
@[simp] theorem Dev.at_edge (d : Dev) (t : Nat) : (d.at t).edge = d.edge := rfl
@[simp] theorem Dev.at_eng (d : Dev) (t : Nat) : (d.at t).eng = d.eng := rfl
@[simp] theorem Dev.at_fs (d : Dev) (t : Nat) : (d.at t).fs = d.fs := rfl
@[simp] theorem Dev.at_met (d : Dev) (t : Nat) : (d.at t).met = d.met := rfl
@[simp] theorem Dev.at_thm (d : Dev) (t : Nat) : (d.at t).thm = d.thm := rfl
@[simp] theorem Dev.at_fab (d : Dev) (t : Nat) : (d.at t).fab = d.fab := rfl
@[simp] theorem Dev.at_cap (d : Dev) (t : Nat) : (d.at t).cap = d.cap := rfl
@[simp] theorem Dev.at_cmt (d : Dev) (t : Nat) : (d.at t).cmt = d.cmt := rfl
@[simp] theorem Dev.at_isl (d : Dev) (t : Nat) : (d.at t).isl = d.isl := rfl
@[simp] theorem Dev.at_boot (d : Dev) (t : Nat) : (d.at t).boot = d.boot := rfl
@[simp] theorem Dev.at_sec (d : Dev) (t : Nat) : (d.at t).sec = d.sec := rfl
@[simp] theorem Dev.at_mbx (d : Dev) (t : Nat) : (d.at t).mbx = d.mbx := rfl
@[simp] theorem Dev.at_hrp (d : Dev) (t : Nat) : (d.at t).hrp = d.hrp := rfl
@[simp] theorem Dev.at_claimB (d : Dev) (t : Nat) : (d.at t).claimB = d.claimB := rfl
@[simp] theorem Dev.at_free (d : Dev) (t : Nat) : (d.at t).free = d.free := rfl
@[simp] theorem Dev.at_out (d : Dev) (t : Nat) : (d.at t).out = d.out := rfl
@[simp] theorem Dev.at_now (d : Dev) (t : Nat) : (d.at t).cad.now = d.clockAt t := rfl
@[simp] theorem Dev.at_g (d : Dev) (t : Nat) (f : Fld) : (d.at t).g f = d.g f := rfl
@[simp] theorem Dev.fresh_clockAt (d : Dev) (t : Nat) : d.fresh.clockAt t = d.clockAt t := rfl
/-- The running clock never goes back (R80). -/
theorem Dev.le_clockAt (d : Dev) (t : Nat) : d.cad.now ≤ d.clockAt t := by
  unfold Dev.clockAt
  split
  · exact Nat.le_refl _
  · exact Nat.le_add_right _ _

end Sys2Proof.Machine
end

