-- ==== Sys2Proof/Laws/Exec.lean ====
section
/-! SUPPORT. What the five ways in which a command acts can answer: the next state outright for a well-formed command, and what each
leaves alone. Proofs cite these and never unfold the ways themselves. -/
set_option Elab.async false
namespace Sys2Proof.Machine

theorem checked_next {i : Instr} {s : State} (h : i.wellFormed = true) : checked i s = .next s := by simp [checked, h]

theorem checked_eq {i : Instr} {s t : State} (h : checked i s = .next t) : i.wellFormed = true ∧ t = s := by
  unfold checked at h
  split at h
  · rename_i hw; exact ⟨hw, by cases h; rfl⟩
  · cases h

theorem onHead_next {i : Instr} {f : Dev → Dev} {s : State} (h : i.wellFormed = true) (hh : s.dev.boot.held = false) :
    onHead i f s = .next { s with dev := f s.dev.fresh } := by simp [onHead, hh, checked_next h]

theorem onHead_held {i : Instr} {f : Dev → Dev} {s : State} (h : i.wellFormed = true) (hh : s.dev.boot.held = true) :
    onHead i f s = .next { s with dev := s.dev.fresh } := by simp [onHead, hh, checked_next h]

theorem onHeadAlways_next {i : Instr} {f : Dev → Dev} {s : State} (h : i.wellFormed = true) :
    onHeadAlways i f s = .next { s with dev := f s.dev.fresh } := by simp [onHeadAlways, checked_next h]

theorem onChip_next {i : Instr} {f : Chip → Chip} {s : State} (h : i.wellFormed = true) (hh : s.dev.boot.held = false) :
    onChip i f s = .next { s with otp := (f ⟨s.otp, s.dev.fresh⟩).otp, dev := (f ⟨s.otp, s.dev.fresh⟩).dev } := by
  simp [onChip, hh, checked_next h]

theorem onChip_held {i : Instr} {f : Chip → Chip} {s : State} (h : i.wellFormed = true) (hh : s.dev.boot.held = true) :
    onChip i f s = .next { s with dev := s.dev.fresh } := by simp [onChip, hh, checked_next h]

theorem onNode_next {i : Instr} {f : Cell → Cell} {s : State} (h : i.wellFormed = true) :
    onNode i f s = .next { s with node := f s.node, dev := s.dev.fresh } := by simp [onNode, checked_next h]

theorem onNodeOut_next {i : Instr} {f : Cell → Cell × List Out} {s : State} (h : i.wellFormed = true) :
    onNodeOut i f s = .next { s with node := (f s.node).1, dev := { s.dev with out := (f s.node).2 } } := by
  simp [onNodeOut, checked_next h]

/-- What a command at the head can answer. -/
theorem onHead_cases {i : Instr} {f : Dev → Dev} {s t : State} (h : onHead i f s = .next t) :
    i.wellFormed = true ∧ t.pending = s.pending ∧ t.otp = s.otp ∧ t.node = s.node ∧
      t.dev = if s.dev.boot.held then s.dev.fresh else f s.dev.fresh := by
  obtain ⟨hw, rfl⟩ := checked_eq h; exact ⟨hw, rfl, rfl, rfl, rfl⟩

theorem onHeadAlways_cases {i : Instr} {f : Dev → Dev} {s t : State} (h : onHeadAlways i f s = .next t) :
    i.wellFormed = true ∧ t.pending = s.pending ∧ t.otp = s.otp ∧ t.node = s.node ∧ t.dev = f s.dev.fresh := by
  obtain ⟨hw, rfl⟩ := checked_eq h; exact ⟨hw, rfl, rfl, rfl, rfl⟩

theorem onChip_cases {i : Instr} {f : Chip → Chip} {s t : State} (h : onChip i f s = .next t) :
    i.wellFormed = true ∧ t.pending = s.pending ∧ t.node = s.node ∧
      Chip.mk t.otp t.dev = if s.dev.boot.held then ⟨s.otp, s.dev.fresh⟩ else f ⟨s.otp, s.dev.fresh⟩ := by
  obtain ⟨hw, rfl⟩ := checked_eq h; exact ⟨hw, rfl, rfl, rfl⟩

theorem onNode_cases {i : Instr} {f : Cell → Cell} {s t : State} (h : onNode i f s = .next t) :
    i.wellFormed = true ∧ t.pending = s.pending ∧ t.otp = s.otp ∧ t.dev = s.dev.fresh ∧ t.node = f s.node := by
  obtain ⟨hw, rfl⟩ := checked_eq h; exact ⟨hw, rfl, rfl, rfl, rfl⟩

theorem onNodeOut_cases {i : Instr} {f : Cell → Cell × List Out} {s t : State} (h : onNodeOut i f s = .next t) :
    i.wellFormed = true ∧ t.pending = s.pending ∧ t.otp = s.otp ∧ t.dev = { s.dev with out := (f s.node).2 } ∧
      t.node = (f s.node).1 := by
  obtain ⟨hw, rfl⟩ := checked_eq h; exact ⟨hw, rfl, rfl, rfl, rfl⟩

@[simp] theorem Dev.fresh_hostMay (d : Dev) (a m : Nat) : d.fresh.hostMay a m = d.hostMay a m := rfl

theorem Dev.host_run {a m : Nat} {f : Dev → Dev} {d : Dev} (h : d.hostMay a m = true) : Dev.host a m f d = f d := by
  simp [Dev.host, h]

theorem Dev.host_refused {a m : Nat} {f : Dev → Dev} {d : Dev} (h : d.hostMay a m = false) : Dev.host a m f d = d := by
  simp [Dev.host, h]

theorem Chip.host_run {a m : Nat} {f : Chip → Chip} {c : Chip} (h : c.dev.hostMay a m = true) : Chip.host a m f c = f c := by
  simp [Chip.host, h]

theorem Chip.host_refused {a m : Nat} {f : Chip → Chip} {c : Chip} (h : c.dev.hostMay a m = false) : Chip.host a m f c = c := by
  simp [Chip.host, h]

end Sys2Proof.Machine
end

