-- ==== Sys2Proof/Laws/Arms.lean ====
section
/-! SUPPORT. Each arm of the dispatch with its way of acting on the state, so that a proof reaches a meaning in one rewrite. -/
set_option Elab.async false
namespace Sys2Proof.Machine

theorem exec_rd (rest : Nat) (segs : List Nat) (s : State) :
    exec (.rd rest segs) s = onChip (.rd rest segs) (Chip.hrpCommand hcRd rest segs) s := rfl
theorem exec_wr (rest : Nat) (segs : List Nat) (s : State) :
    exec (.wr rest segs) s = onChip (.wr rest segs) (Chip.hrpCommand hcWr rest segs) s := rfl
theorem exec_rdInc (rest : Nat) (segs : List Nat) (s : State) :
    exec (.rdInc rest segs) s = onChip (.rdInc rest segs) (Chip.hrpCommand hcRdInc rest segs) s := rfl
theorem exec_wrInc (rest : Nat) (segs : List Nat) (s : State) :
    exec (.wrInc rest segs) s = onChip (.wrInc rest segs) (Chip.hrpCommand hcWrInc rest segs) s := rfl
theorem exec_rdPort (rest : Nat) (segs : List Nat) (s : State) :
    exec (.rdPort rest segs) s = onChip (.rdPort rest segs) (Chip.hrpCommand hcRdPort rest segs) s := rfl
theorem exec_wrPort (rest : Nat) (segs : List Nat) (s : State) :
    exec (.wrPort rest segs) s = onChip (.wrPort rest segs) (Chip.hrpCommand hcWrPort rest segs) s := rfl
theorem exec_nop (hdr : Nat) (segs : List Nat) (s : State) :
    exec (.nop hdr segs) s = onChip (.nop hdr segs) (Chip.hrpRequest hdr segs) s := rfl
theorem exec_accessComplete (t : Nat) (s : State) : exec (.accessComplete t) s = onChip (.accessComplete t) (Chip.hrpComplete t) s := rfl
theorem exec_domainOff (t : Nat) (s : State) : exec (.domainOff t) s = onChip (.domainOff t) (Chip.hrpDomainOff t) s := rfl
theorem exec_hrpAbort (complete : Bool) (s : State) :
    exec (.hrpAbort complete) s = onHead (.hrpAbort complete) (Dev.hrpAbort complete) s := rfl
theorem exec_plainRegisterWrite (a w bm : Nat) (s : State) :
    exec (.plainRegisterWrite a w bm) s = onHead (.plainRegisterWrite a w bm) (Dev.plainWrite a w bm) s := rfl
theorem exec_commit (g : Nat) (s : State) :
    exec (.commit g) s = onHead (.commit g) (Dev.host (0x010000 + 0x20 * g) 1 (Dev.commit g)) s := rfl
theorem exec_commitCutoff (s : State) : exec .commitCutoff s = onHead .commitCutoff (fun d => d.commitCutoff.mbxCutoff) s := rfl
theorem exec_commitOutcome (s : State) : exec .commitOutcome s = onHead .commitOutcome Dev.commitOutcome s := rfl
theorem exec_avCommit (k : Nat) (s : State) :
    exec (.avCommit k) s = onHead (.avCommit k) (Dev.host (0x160000 + 0x20 * k) 1 (Dev.avCommit k)) s := rfl
theorem exec_stage (h : SpanHdr) (k target : Nat) (set : SMap Nat) (s : State) :
    exec (.stage h k target set) s = onHead (.stage h k target set) (Dev.stageTake h k target set) s := rfl
theorem exec_verdict (h : SpanHdr) (k target reason : Nat) (s : State) :
    exec (.verdict h k target reason) s = onHead (.verdict h k target reason) (Dev.verdictTake h k target reason) s := rfl
theorem exec_avCommitApply (s : State) : exec .avCommitApply s = onHead .avCommitApply Dev.avApply s := rfl
theorem exec_mbxRequest (m item : Nat) (atFrame : Bool) (s : State) :
    exec (.mbxRequest m item atFrame) s =
      onHead (.mbxRequest m item atFrame) (Dev.host (mbxReqAddr m) (item + 256 * bit atFrame) (Dev.mbxRequest m item atFrame)) s := rfl
theorem exec_mbxCapture (m t : Nat) (s : State) : exec (.mbxCapture m t) s = onHead (.mbxCapture m t) (Dev.mbxCapture m t) s := rfl
theorem exec_mbxDataRead (m : Nat) (s : State) : exec (.mbxDataRead m) s = onHead (.mbxDataRead m) (Dev.portRead (mbxDataAddr m)) s := rfl
theorem exec_snapPart (h : SpanHdr) (frame : Nat) (words : List Nat) (s : State) :
    exec (.snapPart h frame words) s = onHead (.snapPart h frame words) (Dev.snapPartTake h frame words) s := rfl
theorem exec_snapshotTimeout (s : State) : exec .snapshotTimeout s = onHead .snapshotTimeout Dev.snapTimeout s := rfl
theorem exec_dwDataWrite (k w : Nat) (s : State) :
    exec (.dwDataWrite k w) s = onHead (.dwDataWrite k w) (Dev.host (dwAddr k) 0 (Dev.dwWrite k w)) s := rfl
theorem exec_dwResultRead (k : Nat) (s : State) : exec (.dwResultRead k) s = onHead (.dwResultRead k) (Dev.portRead (dwAddr k)) s := rfl
theorem exec_todArm (s : State) : exec .todArm s = onHead .todArm (Dev.host 0x020018 1 Dev.todArm) s := rfl
theorem exec_ppsEdge (t : Nat) (s : State) : exec (.ppsEdge t) s = onHead (.ppsEdge t) (Dev.ppsEdge t) s := rfl
theorem exec_ppsLocked (s : State) : exec .ppsLocked s = onHead .ppsLocked Dev.ppsLocked s := rfl
theorem exec_ppsLockLost (s : State) : exec .ppsLockLost s = onHead .ppsLockLost Dev.ppsLockLost s := rfl
theorem exec_holdover (t : Nat) (s : State) : exec (.holdover t) s = onHead (.holdover t) (Dev.holdover t) s := rfl
theorem exec_holdoverLimit (t : Nat) (s : State) : exec (.holdoverLimit t) s = onHead (.holdoverLimit t) (Dev.holdoverLimit t) s := rfl
theorem exec_frameTick (codes : List (List Int)) (s : State) :
    exec (.frameTick codes) s = onHead (.frameTick codes) (Dev.frameTick codes) s := rfl
theorem exec_probeInterval (ln : Nat) (s : State) : exec (.probeInterval ln) s = onHead (.probeInterval ln) (Dev.probeInterval ln) s := rfl
theorem exec_timeProbe (ln t : Nat) (s : State) : exec (.timeProbe ln t) s = onHead (.timeProbe ln t) (Dev.timeProbe ln t) s := rfl
theorem exec_timeEcho (ln t : Nat) (line : Line) (s : State) :
    exec (.timeEcho ln t line) s = onHead (.timeEcho ln t line) (Dev.timeEcho ln t line) s := rfl
theorem exec_probeAverageRestart (ln : Nat) (s : State) :
    exec (.probeAverageRestart ln) s = onHead (.probeAverageRestart ln) (Dev.probeRestart ln) s := rfl
theorem exec_alignCell (l : Nat) (s : State) : exec (.alignCell l) s = onHead (.alignCell l) (Dev.alignCell l) s := rfl
theorem exec_alignHead (s : State) : exec .alignHead s = onHead .alignHead Dev.alignHead s := rfl
theorem exec_echoLost (ln : Nat) (s : State) : exec (.echoLost ln) s = onHead (.echoLost ln) (Dev.echoLost ln) s := rfl
theorem exec_cePass (corr : Nat) (uncorr : Bool) (s : State) :
    exec (.cePass corr uncorr) s = onHead (.cePass corr uncorr) (Dev.cePass corr uncorr) s := rfl
theorem exec_nonfiniteLimit (inst : Nat) (s : State) :
    exec (.nonfiniteLimit inst) s = onHead (.nonfiniteLimit inst) (Dev.nonfiniteLimit inst) s := rfl
theorem exec_init (s : State) : exec .init s = onHead .init (Dev.host 0x0C000C 1 Dev.ceInitWrite) s := rfl
theorem exec_ceInitialise (s : State) : exec .ceInitialise s = onHead .ceInitialise Dev.ceInitialise s := rfl
theorem exec_spanOut (h : SpanHdr) (frame : Nat) (vals : List Nat) (s : State) :
    exec (.spanOut h frame vals) s = onHead (.spanOut h frame vals) (Dev.spanOut h frame vals) s := rfl
theorem exec_gatherDeadline (s : State) : exec .gatherDeadline s = onHead .gatherDeadline Dev.gatherEnd s := rfl
theorem exec_sortEnd (s : State) : exec .sortEnd s = onHead .sortEnd Dev.sortEnd s := rfl
theorem exec_quotaCompute (s : State) : exec .quotaCompute s = onHead .quotaCompute Dev.quotaCompute s := rfl
theorem exec_quotaLate (s : State) : exec .quotaLate s = onHead .quotaLate Dev.quotaLate s := rfl
theorem exec_ceOverrun (s : State) : exec .ceOverrun s = onHead .ceOverrun Dev.ceOverrun s := rfl
theorem exec_cellSelection (s : State) : exec .cellSelection s = onHead .cellSelection Dev.cellSelection s := rfl
theorem exec_dsfLaunch (s : State) : exec .dsfLaunch s = onHead .dsfLaunch Dev.dsfLaunch s := rfl
theorem exec_launchLate (s : State) : exec .launchLate s = onHead .launchLate Dev.launchLate s := rfl
theorem exec_missLimit (code pos : Nat) (s : State) :
    exec (.missLimit code pos) s = onHead (.missLimit code pos) (Dev.missLimitRow code pos) s := rfl
theorem exec_tbUnlock (s : State) : exec .tbUnlock s = onHead .tbUnlock Dev.tbUnlock s := rfl
theorem exec_usf (l : Nat) (line : Line) (s : State) : exec (.usf l line) s = onHead (.usf l line) (Dev.usf l line) s := rfl
theorem exec_suspectLimit (l : Nat) (s : State) : exec (.suspectLimit l) s = onHead (.suspectLimit l) (Dev.suspectLimit l) s := rfl
theorem exec_cellLost (l : Nat) (s : State) : exec (.cellLost l) s = onHead (.cellLost l) (Dev.cellLostAt l) s := rfl
theorem exec_suspectClear (l : Nat) (s : State) : exec (.suspectClear l) s = onHead (.suspectClear l) (Dev.suspectClear l) s := rfl
theorem exec_go (s : State) : exec .go s = onHead .go (Dev.host 0x084110 1 Dev.convGo) s := rfl
theorem exec_convOpen (l : Nat) (s : State) : exec (.convOpen l) s = onHead (.convOpen l) (Dev.convOpen l) s := rfl
theorem exec_convSegTimeout (l : Nat) (s : State) : exec (.convSegTimeout l) s = onHead (.convSegTimeout l) (Dev.segTimeout l) s := rfl
theorem exec_convWholeTimeout (slot : Nat) (s : State) :
    exec (.convWholeTimeout slot) s = onHead (.convWholeTimeout slot) (Dev.wholeTimeout slot) s := rfl
theorem exec_convAbort (slot : Nat) (s : State) :
    exec (.convAbort slot) s = onHead (.convAbort slot) (Dev.host (0x085000 + 4 * slot) (2 ^ 30) (Dev.hostAbort slot)) s := rfl
theorem exec_convRelease (slot : Nat) (s : State) :
    exec (.convRelease slot) s = onHead (.convRelease slot) (Dev.host (0x085000 + 4 * slot) (2 ^ 31) (Dev.hostRelease slot)) s := rfl
theorem exec_rediscover (l : Nat) (s : State) :
    exec (.rediscover l) s = onHead (.rediscover l) (Dev.host (0x080084 + 0x100 * l) 1 (Dev.rediscover l)) s := rfl
theorem exec_discoveryDefer (l : Nat) (s : State) : exec (.discoveryDefer l) s = onHead (.discoveryDefer l) (Dev.discDefer l) s := rfl
theorem exec_discRetry (l : Nat) (s : State) : exec (.discRetry l) s = onHead (.discRetry l) (Dev.discRetry l) s := rfl
theorem exec_summary (h : SpanHdr) (r : Report) (s : State) : exec (.summary h r) s = onHead (.summary h r) (Dev.summaryTake h r) s := rfl
theorem exec_quota (h : SpanHdr) (q : QuotaMsg) (s : State) : exec (.quota h q) s = onHead (.quota h q) (Dev.quotaTake h q) s := rfl
theorem exec_suppressEnd (arm : Nat) (s : State) : exec (.suppressEnd arm) s = onHead (.suppressEnd arm) (Dev.suppressEnd arm) s := rfl
theorem exec_suppressTimeout (arm : Nat) (s : State) :
    exec (.suppressTimeout arm) s = onHead (.suppressTimeout arm) (Dev.suppressTimeout arm) s := rfl
theorem exec_testFail (k : Nat) (s : State) : exec (.testFail k) s = onHead (.testFail k) (Dev.testFail k) s := rfl
theorem exec_testFailClear (k : Nat) (s : State) : exec (.testFailClear k) s = onHead (.testFailClear k) (Dev.testFailClear k) s := rfl
theorem exec_metGo (c t : Nat) (s : State) : exec (.metGo c t) s = onHead (.metGo c t) (Dev.host 0x101024 (2 ^ c) (Dev.metGo c t)) s := rfl
theorem exec_metIntegrationStart (c : Nat) (s : State) :
    exec (.metIntegrationStart c) s = onHead (.metIntegrationStart c) (Dev.metStart c) s := rfl
theorem exec_metConversionEnd (c t : Nat) (x : Int) (ovr : Bool) (s : State) :
    exec (.metConversionEnd c t x ovr) s = onHead (.metConversionEnd c t x ovr) (Dev.metEnd c t x ovr) s := rfl
theorem exec_lsyncEdge (t : Nat) (s : State) : exec (.lsyncEdge t) s = onHead (.lsyncEdge t) (Dev.lsyncEdge t) s := rfl
theorem exec_lsyncLoss (t : Nat) (s : State) : exec (.lsyncLoss t) s = onHead (.lsyncLoss t) (Dev.lsyncLoss t) s := rfl
theorem exec_noref (c t : Nat) (s : State) : exec (.noref c t) s = onHead (.noref c t) (Dev.metNoref c t) s := rfl
theorem exec_capArm (s : State) : exec .capArm s = onHead .capArm (Dev.host 0x102008 1 Dev.capArm) s := rfl
theorem exec_capTrigger (s : State) : exec .capTrigger s = onHead .capTrigger (Dev.host 0x102008 2 (Dev.capTrigger 0)) s := rfl
theorem exec_capDone (s : State) : exec .capDone s = onHead .capDone Dev.capDone s := rfl
theorem exec_hardOc (k : Nat) (code : Int) (t : Nat) (s : State) :
    exec (.hardOc k code t) s = onHead (.hardOc k code t) (Dev.hardOc k code t) s := rfl
theorem exec_softOc (k : Nat) (code : Int) (t : Nat) (s : State) :
    exec (.softOc k code t) s = onHead (.softOc k code t) (Dev.softOc k code t) s := rfl
theorem exec_pendingEvaluate (k : Nat) (code : Int) (t : Nat) (s : State) :
    exec (.pendingEvaluate k code t) s = onHead (.pendingEvaluate k code t) (Dev.pendingEvaluate k code t) s := rfl
theorem exec_spanShutter (x : LaneLine) (s : State) :
    exec (.spanShutter x) s = onHead (.spanShutter x) (Dev.spanShutter x.ln x.line) s := rfl
theorem exec_release (s : State) : exec .release s = onHead .release (Dev.host 0x160608 1 Dev.hostReleaseCmd) s := rfl
theorem exec_releaseApply (s : State) : exec .releaseApply s = onHead .releaseApply Dev.releaseApply s := rfl
theorem exec_hostShutter (s : State) : exec .hostShutter s = onHead .hostShutter (Dev.host 0x103444 1 (Dev.protCmd 1)) s := rfl
theorem exec_avHostShutter (s : State) : exec .avHostShutter s = onHead .avHostShutter (Dev.host 0x160608 2 Dev.hostShutter) s := rfl
theorem exec_f4Reset (s : State) : exec .f4Reset s = onHead .f4Reset (Dev.host 0x103444 2 (Dev.protCmd 2)) s := rfl
theorem exec_unpin (s : State) : exec .unpin s = onHead .unpin (Dev.host 0x103444 4 (Dev.protCmd 4)) s := rfl
theorem exec_unpinAll (s : State) : exec .unpinAll s = onHead .unpinAll (Dev.host 0x103444 8 (Dev.protCmd 8)) s := rfl
theorem exec_clearBypass (s : State) : exec .clearBypass s = onHead .clearBypass (Dev.host 0x103444 16 (Dev.protCmd 16)) s := rfl
theorem exec_faultEngineTake (s : State) : exec .faultEngineTake s = onHead .faultEngineTake Dev.faultEngineStep s := rfl
theorem exec_sensorSubst (k : Nat) (s : State) : exec (.sensorSubst k) s = onHead (.sensorSubst k) (Dev.sensorSubst k) s := rfl
theorem exec_sensorTimeout (k : Nat) (s : State) : exec (.sensorTimeout k) s = onHead (.sensorTimeout k) (Dev.sensorTimeout k) s := rfl
theorem exec_sensorRestore (k : Nat) (s : State) : exec (.sensorRestore k) s = onHead (.sensorRestore k) (Dev.sensorRestore k) s := rfl
theorem exec_blockEnd (l : Nat) (s : State) : exec (.blockEnd l) s = onHead (.blockEnd l) (Dev.blockEnd l) s := rfl
theorem exec_dxNoRes (l : Nat) (s : State) : exec (.dxNoRes l) s = onHead (.dxNoRes l) (Dev.dxNoResAt l) s := rfl
theorem exec_tempConversion (k : Nat) (x : Int) (s : State) :
    exec (.tempConversion k x) s = onHead (.tempConversion k x) (Dev.tempConversion k x) s := rfl
theorem exec_sensorBroken (k : Nat) (s : State) : exec (.sensorBroken k) s = onHead (.sensorBroken k) (Dev.sensorBroken k) s := rfl
theorem exec_brokenClear (k : Nat) (s : State) : exec (.brokenClear k) s = onHead (.brokenClear k) (Dev.brokenClear k) s := rfl
theorem exec_safetyCycle (t found ecc : Nat) (s : State) :
    exec (.safetyCycle t found ecc) s = onHeadAlways (.safetyCycle t found ecc) (Dev.safetyCycle t found ecc) s := rfl
theorem exec_limitedFunctionDemand (k : Nat) (s : State) :
    exec (.limitedFunctionDemand k) s = onHeadAlways (.limitedFunctionDemand k) (Dev.limitedDemand k) s := rfl
theorem exec_inputDemand (k : Nat) (s : State) : exec (.inputDemand k) s = onHeadAlways (.inputDemand k) (Dev.inputDemand k) s := rfl
theorem exec_inputClear (k : Nat) (s : State) : exec (.inputClear k) s = onHeadAlways (.inputClear k) (Dev.inputClear k) s := rfl
theorem exec_testPulse (k low touched : Nat) (s : State) :
    exec (.testPulse k low touched) s = onHeadAlways (.testPulse k low touched) (Dev.testPulse k low touched) s := rfl
theorem exec_hardwareMonitorFault (clock : Bool) (s : State) :
    exec (.hardwareMonitorFault clock) s = onHeadAlways (.hardwareMonitorFault clock) (Dev.hardwareMonitor clock) s := rfl
theorem exec_islandWatchdog (s : State) : exec .islandWatchdog s = onHeadAlways .islandWatchdog Dev.islandWatchdog s := rfl
theorem exec_ackStuck (s : State) : exec .ackStuck s = onHeadAlways .ackStuck Dev.ackStuck s := rfl
theorem exec_safeAck (t ms : Nat) (s : State) : exec (.safeAck t ms) s = onHeadAlways (.safeAck t ms) (Dev.safeAck t ms) s := rfl
theorem exec_safArm (w : Nat) (s : State) : exec (.safArm w) s = onHead (.safArm w) (Dev.hostWord 0x120010 w (Dev.safArm w)) s := rfl
theorem exec_armedExpiry (t : Nat) (s : State) : exec (.armedExpiry t) s = onHeadAlways (.armedExpiry t) (Dev.armedExpiry t) s := rfl
theorem exec_selectionConfirm (w : Nat) (s : State) :
    exec (.selectionConfirm w) s = onHead (.selectionConfirm w) (Dev.hostWord 0x12001C w (Dev.selectConfirm w)) s := rfl
theorem exec_hostBlock (s : State) : exec .hostBlock s = onHead .hostBlock (Dev.host 0x120014 1 Dev.hostBlock) s := rfl
theorem exec_startWindow (s : State) : exec .startWindow s = onHeadAlways .startWindow Dev.startWindow s := rfl
theorem exec_selftestDone (s : State) : exec .selftestDone s = onHeadAlways .selftestDone Dev.selftestDone s := rfl
theorem exec_permitInEdge (t : Nat) (high : Bool) (s : State) :
    exec (.permitInEdge t high) s = onHeadAlways (.permitInEdge t high) (Dev.permitInEdge t high) s := rfl
theorem exec_closingAttempt (t : Nat) (s : State) :
    exec (.closingAttempt t) s = onHeadAlways (.closingAttempt t) (Dev.closingAttempt t) s := rfl
theorem exec_chainClosed (t : Nat) (s : State) : exec (.chainClosed t) s = onHeadAlways (.chainClosed t) (Dev.chainClosed t) s := rfl
theorem exec_closingAttemptTimeout (t : Nat) (s : State) :
    exec (.closingAttemptTimeout t) s = onHeadAlways (.closingAttemptTimeout t) (Dev.attemptTimeout t) s := rfl
theorem exec_safety (t : Nat) (h : SpanHdr) (bytes : List Byte) (s : State) :
    exec (.safety t h bytes) s = onHeadAlways (.safety t h bytes) (Dev.safetyTake t h bytes) s := rfl
theorem exec_msgLoss (t p : Nat) (s : State) : exec (.msgLoss t p) s = onHeadAlways (.msgLoss t p) (Dev.msgLoss t p) s := rfl
theorem exec_chain (t : Nat) (s : State) : exec (.chain t) s = onHeadAlways (.chain t) (Dev.chainFault t) s := rfl
theorem exec_darkPulse (so : Nat) (good : Bool) (s : State) :
    exec (.darkPulse so good) s = onHeadAlways (.darkPulse so good) (Dev.darkPulse so good) s := rfl
theorem exec_establishEnd (t : Nat) (s : State) : exec (.establishEnd t) s = onHead (.establishEnd t) (Dev.establishEnd t) s := rfl
theorem exec_coldWake (t : Nat) (s : State) : exec (.coldWake t) s = onHead (.coldWake t) (Dev.coldWake t) s := rfl
theorem exec_relinquish (s : State) : exec .relinquish s = onHead .relinquish (Dev.host 0x130014 1 (Dev.redCmd 1)) s := rfl
theorem exec_handover (s : State) : exec .handover s = onHead .handover (Dev.host 0x130014 2 (Dev.redCmd 2)) s := rfl
theorem exec_standby (s : State) : exec .standby s = onHead .standby (Dev.host 0x130014 4 (Dev.redCmd 4)) s := rfl
theorem exec_take (s : State) : exec .take s = onHead .take (Dev.host 0x130014 8 (Dev.redCmd 8)) s := rfl
theorem exec_wake (s : State) : exec .wake s = onHead .wake (Dev.host 0x130014 16 (Dev.redCmd 16)) s := rfl
theorem exec_claimNotTaken (s : State) : exec .claimNotTaken s = onHead .claimNotTaken Dev.claimNotTaken s := rfl
theorem exec_leadLost (s : State) : exec .leadLost s = onHead .leadLost Dev.leadLost s := rfl
theorem exec_lockstep (s : State) : exec .lockstep s = onHead .lockstep Dev.lockstep s := rfl
theorem exec_notice (bytes : List Byte) (s : State) : exec (.notice bytes) s = onHead (.notice bytes) (Dev.notice bytes) s := rfl
theorem exec_hatchBlock (bytes : List Byte) (s : State) :
    exec (.hatchBlock bytes) s = onHead (.hatchBlock bytes) (Dev.hatchBlock bytes) s := rfl
theorem exec_checkpointCapture (s : State) : exec .checkpointCapture s = onHead .checkpointCapture Dev.capture s := rfl
theorem exec_checkpointSent (s : State) : exec .checkpointSent s = onHead .checkpointSent Dev.checkpointSent s := rfl
theorem exec_settingsSend (s : State) : exec .settingsSend s = onHead .settingsSend Dev.settingsSend s := rfl
theorem exec_checkpointWatchdog (t : Nat) (s : State) :
    exec (.checkpointWatchdog t) s = onHead (.checkpointWatchdog t) (Dev.watchdog t) s := rfl
theorem exec_wakeBeacon (s : State) : exec .wakeBeacon s = onHead .wakeBeacon Dev.wakeBeacon s := rfl
theorem exec_restoreDone (t : Nat) (crcOk : Bool) (s : State) :
    exec (.restoreDone t crcOk) s = onHead (.restoreDone t crcOk) (Dev.restoreDone t crcOk) s := rfl
theorem exec_openDone (t : Nat) (s : State) : exec (.openDone t) s = onHead (.openDone t) (Dev.openDone t) s := rfl
theorem exec_timeDone (t : Nat) (s : State) : exec (.timeDone t) s = onHead (.timeDone t) (Dev.timeDone t) s := rfl
theorem exec_loadDone (t : Nat) (s : State) : exec (.loadDone t) s = onHead (.loadDone t) (Dev.loadDone t) s := rfl
theorem exec_wakePhaseTimeout (t : Nat) (s : State) :
    exec (.wakePhaseTimeout t) s = onHead (.wakePhaseTimeout t) (Dev.phaseTimeout t) s := rfl
theorem exec_loaded (h : SpanHdr) (gen : Nat) (s : State) : exec (.loaded h gen) s = onHead (.loaded h gen) (Dev.loadedTake h gen) s := rfl
theorem exec_claimNameTimeout (t : Nat) (s : State) :
    exec (.claimNameTimeout t) s = onHead (.claimNameTimeout t) (Dev.claimNameTimeout t) s := rfl
theorem exec_claimTick (s : State) : exec .claimTick s = onHead .claimTick Dev.claimTick s := rfl
theorem exec_resume (s : State) : exec .resume s = onHead .resume Dev.resume s := rfl
theorem exec_resumeLate (s : State) : exec .resumeLate s = onHead .resumeLate Dev.resumeLate s := rfl
theorem exec_lanePower (ln w : Nat) (s : State) :
    exec (.lanePower ln w) s = onHead (.lanePower ln w) (Dev.hostWord (0x040000 + 0x100 * ln) w (Dev.lanePower ln w)) s := rfl
theorem exec_pllLock (ln : Nat) (s : State) : exec (.pllLock ln) s = onHead (.pllLock ln) (Dev.pllLock ln) s := rfl
theorem exec_signalDetect (ln : Nat) (s : State) : exec (.signalDetect ln) s = onHead (.signalDetect ln) (Dev.signalDetect ln) s := rfl
theorem exec_alignLock (ln : Nat) (s : State) : exec (.alignLock ln) s = onHead (.alignLock ln) (Dev.alignLock ln) s := rfl
theorem exec_train (ln : Nat) (line : Line) (inverted : Bool) (s : State) :
    exec (.train ln line inverted) s = onHead (.train ln line inverted) (Dev.train ln line inverted) s := rfl
theorem exec_trainAttemptLimit (ln : Nat) (s : State) :
    exec (.trainAttemptLimit ln) s = onHead (.trainAttemptLimit ln) (Dev.attemptLimit ln) s := rfl
theorem exec_laneDown (ln errors : Nat) (s : State) :
    exec (.laneDown ln errors) s = onHead (.laneDown ln errors) (Dev.laneDown ln errors) s := rfl
theorem exec_laneEqWrite (ln w : Nat) (s : State) :
    exec (.laneEqWrite ln w) s = onHead (.laneEqWrite ln w) (Dev.hostWord (0x040008 + 0x100 * ln) w (Dev.laneEq ln w)) s := rfl
theorem exec_modeWrite (ln mode : Nat) (s : State) :
    exec (.modeWrite ln mode) s = onHead (.modeWrite ln mode) (Dev.host (0x040010 + 0x100 * ln) 0x18 (Dev.modeWrite ln mode)) s := rfl
theorem exec_injectOne (ln : Nat) (s : State) :
    exec (.injectOne ln) s = onHead (.injectOne ln) (Dev.host (0x040010 + 0x100 * ln) (2 ^ 16) (Dev.injectOne ln)) s := rfl
theorem exec_injectBurst (ln : Nat) (s : State) :
    exec (.injectBurst ln) s = onHead (.injectBurst ln) (Dev.host (0x040010 + 0x100 * ln) (2 ^ 17) (Dev.injectBurst ln)) s := rfl
theorem exec_checkerLock (ln : Nat) (inverted : Bool) (s : State) :
    exec (.checkerLock ln inverted) s = onHead (.checkerLock ln inverted) (Dev.checkerLock ln inverted) s := rfl
theorem exec_checkerLoss (ln wrong kbits : Nat) (s : State) :
    exec (.checkerLoss ln wrong kbits) s = onHead (.checkerLoss ln wrong kbits) (Dev.checkerLoss ln wrong kbits) s := rfl
theorem exec_enumSend (s : State) : exec .enumSend s = onHead .enumSend Dev.enumSend s := rfl
theorem exec_enum (h : SpanHdr) (admitted ring : Nat) (full spectator : Bool) (s : State) :
    exec (.enum h admitted ring full spectator) s =
      onHead (.enum h admitted ring full spectator) (Dev.enumTake h admitted ring full spectator) s := rfl
theorem exec_enumReply (h : SpanHdr) (position : Nat) (s : State) :
    exec (.enumReply h position) s = onHead (.enumReply h position) (Dev.enumReply h position) s := rfl
theorem exec_station (s : State) : exec .station s = onHead .station Dev.station s := rfl
theorem exec_ulShutter (ln : Nat) (line : Line) (s : State) :
    exec (.ulShutter ln line) s = onHead (.ulShutter ln line) (Dev.ulShutter ln line) s := rfl
theorem exec_ulShutterClear (s : State) : exec .ulShutterClear s = onHead .ulShutterClear Dev.ulShutterClear s := rfl
theorem exec_porAon (t : Nat) (s : State) : exec (.porAon t) s = onHeadAlways (.porAon t) (Dev.porAon t) s := rfl
theorem exec_porCore (t : Nat) (s : State) : exec (.porCore t) s = onHeadAlways (.porCore t) (Dev.porCore t) s := rfl
theorem exec_porSafe (t : Nat) (s : State) : exec (.porSafe t) s = onHeadAlways (.porSafe t) (Dev.porSafe t) s := rfl
theorem exec_resetN (t : Nat) (s : State) : exec (.resetN t) s = onHeadAlways (.resetN t) (Dev.resetN t) s := rfl
theorem exec_soft (s : State) : exec .soft s = onHead .soft (Dev.host 0x00006C 1 (Dev.glbCtrl 1)) s := rfl
theorem exec_supWdt (t : Nat) (s : State) : exec (.supWdt t) s = onHead (.supWdt t) (Dev.supWdt t) s := rfl
theorem exec_resetRelease (t position unit : Nat) (s : State) :
    exec (.resetRelease t position unit) s = onHeadAlways (.resetRelease t position unit) (Dev.resetRelease t position unit) s := rfl
theorem exec_otpStage (corr : Nat) (unc : List Nat) (s : State) :
    exec (.otpStage corr unc) s = onChip (.otpStage corr unc) (Chip.otpStage corr unc) s := rfl
theorem exec_refStage (t : Nat) (locked : Bool) (s : State) :
    exec (.refStage t locked) s = onHead (.refStage t locked) (Dev.refStage t locked) s := rfl
theorem exec_bistStage (pass : Bool) (s : State) : exec (.bistStage pass) s = onHead (.bistStage pass) (Dev.bistStage pass) s := rfl
theorem exec_slotsStage (t : Nat) (s : State) : exec (.slotsStage t) s = onChip (.slotsStage t) (Chip.slotsStage t) s := rfl
theorem exec_configurationComplete (t : Nat) (s : State) :
    exec (.configurationComplete t) s = onHead (.configurationComplete t) (Dev.configComplete t) s := rfl
theorem exec_load (s : State) : exec .load s = onChip .load (Chip.host 0x140020 1 (Chip.secCmd 1)) s := rfl
theorem exec_loadComplete (t : Nat) (s : State) : exec (.loadComplete t) s = onChip (.loadComplete t) (Chip.loadDone t) s := rfl
theorem exec_programSlot (s : State) : exec .programSlot s = onChip .programSlot (Chip.host 0x140020 2 (Chip.secCmd 2)) s := rfl
theorem exec_programSlotComplete (good : Bool) (s : State) :
    exec (.programSlotComplete good) s = onHead (.programSlotComplete good) (Dev.programSlotDone good) s := rfl
theorem exec_token (s : State) : exec .token s = onChip .token (Chip.host 0x140020 4 (Chip.secCmd 4)) s := rfl
theorem exec_attest (s : State) : exec .attest s = onChip .attest (Chip.host 0x140020 8 (Chip.secCmd 8)) s := rfl
theorem exec_attestComplete (s : State) : exec .attestComplete s = onChip .attestComplete Chip.attestDone s := rfl
theorem exec_advanceSvn (s : State) : exec .advanceSvn s = onChip .advanceSvn (Chip.host 0x140020 16 (Chip.secCmd 16)) s := rfl
theorem exec_provision (s : State) : exec .provision s = onChip .provision (Chip.host 0x140020 32 (Chip.secCmd 32)) s := rfl
theorem exec_provisionComplete (s : State) : exec .provisionComplete s = onChip .provisionComplete Chip.provisionDone s := rfl
theorem exec_deploy (s : State) : exec .deploy s = onChip .deploy (Chip.host 0x140020 64 (Chip.secCmd 64)) s := rfl
theorem exec_lock (s : State) : exec .lock s = onChip .lock (Chip.host 0x140020 128 (Chip.secCmd 128)) s := rfl
theorem exec_unlockExpiry (t : Nat) (s : State) : exec (.unlockExpiry t) s = onHead (.unlockExpiry t) (Dev.unlockExpiry t) s := rfl
theorem exec_start (s : State) : exec .start s = onHead .start (Dev.host 0x160700 1 (Dev.engCmd 1)) s := rfl
theorem exec_confirm (s : State) : exec .confirm s = onHead .confirm (Dev.host 0x160700 2 (Dev.engCmd 2)) s := rfl
theorem exec_abort (s : State) : exec .abort s = onHead .abort (Dev.host 0x160700 4 (Dev.engCmd 4)) s := rfl
theorem exec_discharged (s : State) : exec .discharged s = onHead .discharged (Dev.host 0x160700 8 (Dev.engCmd 8)) s := rfl
theorem exec_engStepTimeout (s : State) : exec .engStepTimeout s = onHead .engStepTimeout Dev.engTimeout s := rfl
theorem exec_submit (s : State) : exec .submit s = onHead .submit (Dev.host 0x150004 1 Dev.svcSubmit) s := rfl
theorem exec_energyStart (q t : Nat) (s : State) : exec (.energyStart q t) s = onHead (.energyStart q t) (Dev.energyStart q t) s := rfl
theorem exec_energyStop (q : Nat) (s : State) : exec (.energyStop q) s = onHead (.energyStop q) (Dev.energyStop q) s := rfl
theorem exec_metCheck (q : Nat) (zero ref : Int) (s : State) :
    exec (.metCheck q zero ref) s = onHead (.metCheck q zero ref) (Dev.metCheckStep q zero ref) s := rfl
theorem exec_fwDistribute (q : Nat) (s : State) : exec (.fwDistribute q) s = onHead (.fwDistribute q) (Dev.fwStep q) s := rfl
theorem exec_logFaults (q : Nat) (good : Bool) (s : State) :
    exec (.logFaults q good) s = onHead (.logFaults q good) (Dev.logFaults q good) s := rfl
theorem exec_logCheckpoint (q : Nat) (good : Bool) (s : State) :
    exec (.logCheckpoint q good) s = onHead (.logCheckpoint q good) (Dev.logCheckpoint q good) s := rfl
theorem exec_logRead (q : Nat) (s : State) : exec (.logRead q) s = onHead (.logRead q) (Dev.logRead q) s := rfl
theorem exec_logErase (q : Nat) (good : Bool) (s : State) :
    exec (.logErase q good) s = onHead (.logErase q good) (Dev.logErase q good) s := rfl
theorem exec_serviceEnd (q : Nat) (s : State) : exec (.serviceEnd q) s = onHead (.serviceEnd q) (Dev.serviceEnd q) s := rfl
theorem exec_next (s : State) : exec .next s = onHead .next (Dev.host 0x15000C 1 Dev.svcNext) s := rfl
theorem exec_cancel (ticket : Nat) (s : State) :
    exec (.cancel ticket) s =
      onHead (.cancel ticket) (Dev.host 0x150018 (ticket + 2 ^ 31) (Dev.serviceWrite 0x150018 (ticket + 2 ^ 31))) s := rfl
theorem exec_monHelp (s : State) : exec .monHelp s = onHead .monHelp Dev.monHelp s := rfl
theorem exec_monInfo (s : State) : exec .monInfo s = onHead .monInfo Dev.monInfo s := rfl
theorem exec_monRd (a n : Nat) (s : State) : exec (.monRd a n) s = onHead (.monRd a n) (Dev.monRd a n) s := rfl
theorem exec_monState (s : State) : exec .monState s = onHead .monState Dev.monState s := rfl
theorem exec_monFaults (n : Nat) (s : State) : exec (.monFaults n) s = onHead (.monFaults n) (Dev.monFaults n) s := rfl
theorem exec_monLanes (s : State) : exec .monLanes s = onHead .monLanes Dev.monLanes s := rfl
theorem exec_monWr (a w bm : Nat) (s : State) : exec (.monWr a w bm) s = onChip (.monWr a w bm) (Chip.monWr a w bm) s := rfl
theorem exec_monSvc (code : Nat) (args : List Nat) (s : State) :
    exec (.monSvc code args) s = onHead (.monSvc code args) (Dev.monSvc code args) s := rfl
theorem exec_monReset (s : State) : exec .monReset s = onHead .monReset Dev.monReset s := rfl
theorem exec_errLine (s : State) : exec .errLine s = onHead .errLine Dev.errLine s := rfl
theorem exec_cellDsf (t p : Nat) (dsf bulk rest : Line) (s : State) :
    exec (.cellDsf t p dsf bulk rest) s = onNode (.cellDsf t p dsf bulk rest) (Cell.dsf t p (dsf.then (bulk.then rest))) s := rfl
theorem exec_cellTargetTick (s : State) : exec .cellTargetTick s = onNode .cellTargetTick Cell.targetTick s := rfl
theorem exec_cellEdge (s : State) : exec .cellEdge s = onNode .cellEdge Cell.edge s := rfl
theorem exec_cellShutter (t p : Nat) (line : Line) (s : State) :
    exec (.cellShutter t p line) s = onNode (.cellShutter t p line) (Cell.shutterSet t p line) s := rfl
theorem exec_cellProbe (t t3 p : Nat) (line : Line) (s : State) :
    exec (.cellProbe t t3 p line) s = onNodeOut (.cellProbe t t3 p line) (Cell.probe t t3 p line) s := rfl
theorem exec_cellGap (s : State) : exec .cellGap s = onNode .cellGap Cell.gap s := rfl
theorem exec_cellSimmerEnd (s : State) : exec .cellSimmerEnd s = onNode .cellSimmerEnd Cell.simmerEnd s := rfl
theorem exec_cellFloorClear (t : Nat) (s : State) : exec (.cellFloorClear t) s = onNode (.cellFloorClear t) (Cell.floorClear t) s := rfl
theorem exec_cellUsfSend (vcap temp res faults : Nat) (s : State) :
    exec (.cellUsfSend vcap temp res faults) s = onNodeOut (.cellUsfSend vcap temp res faults) (Cell.usfSend vcap temp res faults) s := rfl
theorem exec_cellSegment (p : Nat) (bytes : List Byte) (s : State) :
    exec (.cellSegment p bytes) s = onNode (.cellSegment p bytes) (Cell.segment p bytes) s := rfl
theorem exec_cellRetxTimeout (p : Nat) (s : State) : exec (.cellRetxTimeout p) s = onNode (.cellRetxTimeout p) (Cell.retxTimeout p) s := rfl
theorem exec_cellIdleTimeout (p : Nat) (s : State) : exec (.cellIdleTimeout p) s = onNode (.cellIdleTimeout p) (Cell.idleTimeout p) s := rfl
theorem exec_cellWorkDone (p status : Nat) (value : List Byte) (stored : Bool) (version : Nat) (s : State) :
    exec (.cellWorkDone p status value stored version) s =
      onNode (.cellWorkDone p status value stored version) (Cell.workDone p status value stored version) s := rfl
theorem exec_spanTimeProbe (ln t t3 : Nat) (shift : Int) (t0 : Option (Nat × Nat × Nat)) (line : Line) (s : State) :
    exec (.spanTimeProbe ln t t3 shift t0 line) s =
      onHead (.spanTimeProbe ln t t3 shift t0 line) (Dev.spanTimeProbe ln t t3 shift t0 line) s := rfl
theorem exec_ticksResume (s : State) : exec .ticksResume s = onHead .ticksResume Dev.ticksResume s := rfl
theorem exec_cellNodeBoot (setup : Option NodeSetup) (s : State) :
    exec (.cellNodeBoot setup) s = onNode (.cellNodeBoot setup) (Cell.nodeBoot setup) s := rfl
theorem exec_capLevelTrigger (x : ChanCode) (s : State) :
    exec (.capLevelTrigger x) s = onHead (.capLevelTrigger x) (Dev.capLevel x.k x.code x.t) s := rfl

end Sys2Proof.Machine
end

