-- ==== Sys2Proof/Laws/Fault.lean ====
section
/-! SUPPORT. What raising a fault can do: the kinds of state it leaves alone, and the register fields it leaves alone. -/
set_option Elab.async false
namespace Sys2Proof.Machine

theorem Dev.when_eq (d : Dev) (c : Bool) (f : Dev → Dev) : d.when c f = if c then f d else d := rfl
@[simp] theorem Dev.when_true (d : Dev) (f : Dev → Dev) : d.when true f = f d := rfl
@[simp] theorem Dev.when_false (d : Dev) (f : Dev → Dev) : d.when false f = d := rfl

/-- A projection that `f` keeps is kept when `f` is done under a condition. -/
theorem Dev.when_keep {β : Type} (π : Dev → β) {d : Dev} {c : Bool} {f : Dev → Dev} (h : π (f d) = π d) :
    π (d.when c f) = π d := by cases c <;> simp [h]

/-- A projection that every round keeps is kept by all of them. -/
theorem Dev.foldl_keep {α β : Type} (π : Dev → β) {f : Dev → α → Dev} (h : ∀ d a, π (f d a) = π d) (l : List α) (d : Dev) :
    π (l.foldl f d) = π d := by
  induction l generalizing d with
  | nil => rfl
  | cons a r ih => rw [List.foldl_cons, ih, h]

theorem Dev.onlyFaults.rfl' (d : Dev) : d.onlyFaults d := rfl

theorem Dev.onlyFaults.trans {a b c : Dev} (h : a.onlyFaults b) (k : b.onlyFaults c) : a.onlyFaults c := by
  unfold Dev.onlyFaults at *
  rw [k]
  conv => lhs; rw [h]

theorem Dev.onlyFaults.when {d : Dev} {c : Bool} {f : Dev → Dev} (h : d.onlyFaults (f d)) : d.onlyFaults (d.when c f) := by
  cases c
  · exact rfl
  · exact h

theorem Dev.onlyFaults.cad {d d' : Dev} (h : d.onlyFaults d') : d'.cad = d.cad := by rw [h]

theorem Dev.p_only (d : Dev) (f : Fld) (v : Nat) : d.onlyFaults (d.p f v) := rfl
theorem Dev.inc_only (d : Dev) (f : Fld) : d.onlyFaults (d.inc f) := rfl

theorem Dev.capTriggerIn_only (src slot : Nat) (d : Dev) : d.onlyFaults (d.capTriggerIn src slot) := by
  unfold Dev.capTriggerIn; simp only
  split <;> (try split) <;> rfl
theorem Dev.capTrigger_only (src : Nat) (d : Dev) : d.onlyFaults (d.capTrigger src) := Dev.capTriggerIn_only src _ d

theorem Dev.latch_only (d : Dev) (r o : Nat) : d.onlyFaults (d.latch r o) := by
  unfold Dev.latch
  split
  · rfl
  · simp only
    refine .trans ?_ (.when (Dev.capTrigger_only 1 _))
    rfl

theorem Dev.burst_only (d : Dev) (c s : Nat) : d.onlyFaults (d.burst c s) := by
  unfold Dev.burst; split <;> rfl

theorem Dev.shutter_only (d : Dev) (c s : Nat) : d.onlyFaults (d.shutter c s) := by
  unfold Dev.shutter; simp only
  have h : d.onlyFaults ((((d.burst c s).latch (s / 32) (s % 8)).when (s / 32 == reasonDc) fun d => d.pb F.PROT_STATUS_DCSIDE true).when
      (s / 32 == reasonHost) fun d => d.pb F.PROT_STATUS_HOST_HELD true) :=
    .trans (.trans (.trans (Dev.burst_only d c s) (Dev.latch_only _ _ _))
      (.when (f := fun d => d.pb F.PROT_STATUS_DCSIDE true) (by exact rfl)))
      (.when (f := fun d => d.pb F.PROT_STATUS_HOST_HELD true) (by exact rfl))
  split <;> exact .trans h rfl

theorem Dev.copied_only (d : Dev) (c : ShutCopy) : d.onlyFaults (d.copied c) := by
  unfold Dev.copied; simp only; split <;> rfl

theorem Dev.shutterOwn_only (d : Dev) (r : Nat) : d.onlyFaults (d.shutterOwn r) := .trans (Dev.shutter_only d _ _) (Dev.copied_only _ _)

theorem Dev.protStatus_only (d : Dev) : d.onlyFaults d.protStatus := rfl
theorem Dev.endCause_only (d : Dev) (s k : Nat) : d.onlyFaults (d.endCause s k) := rfl
theorem Dev.endSource_only (d : Dev) (s : Nat) : d.onlyFaults (d.endSource s) := rfl

theorem Dev.enqueue_only (d : Dev) (e : FqEntry) : d.onlyFaults (d.enqueue e) := by
  unfold Dev.enqueue; simp only; split <;> rfl

theorem Dev.raiseNow_only (d : Dev) (r : Raise) : d.onlyFaults (d.raiseNow r) := by
  unfold Dev.raiseNow
  simp only
  refine .trans ?_ (Dev.enqueue_only _ _)
  refine .trans ?_ (.when (f := Dev.capTrigger 2) (Dev.capTrigger_only 2 _))
  refine .trans ?_ (Dev.protStatus_only _)
  refine .trans ?_ (.when (f := fun d => { d with prot := { d.prot with holdSeen := true } }) (by exact rfl))
  refine .trans ?_ (.when (f := fun d => d.pb F.PROT_STATUS_TRIPPED true) (by exact rfl))
  refine .trans ?_ (.when (f := fun d => d.shutterOwn r.reason) (Dev.shutterOwn_only _ _))
  rfl

/-- A fault touches nothing beyond the registers, protection, the recorder, balancing's stop mark, redundancy's list of deferred
faults and what is sent. -/
theorem Dev.raise_only (d : Dev) (r : Raise) : d.onlyFaults (d.raise r) := by
  unfold Dev.raise
  split
  · rfl
  · exact Dev.raiseNow_only d r

/-! ## Registers -/

/-- A field that no fault of class `c` changes. -/
def faultFree (c : Nat) (f : Fld) : Bool :=
  faultFields.all (fun x => decide (f.key ≠ x.key)) && decide (f.key ≠ (F.PROT_CLASS_COUNT c).key)

theorem faultFree_ne {c : Nat} {f : Fld} (h : faultFree c f = true) {x : Fld} (hx : x ∈ faultFields) : f.key ≠ x.key := by
  simp only [faultFree, Bool.and_eq_true, List.all_eq_true, decide_eq_true_eq] at h
  exact h.1 x hx

theorem Dev.pb_g_ne (d : Dev) {f f' : Fld} (v : Bool) (h : f'.key ≠ f.key) : (d.pb f v).g f' = d.g f' := Dev.g_p_ne d _ h

theorem Dev.capTriggerIn_g (src slot : Nat) (d : Dev) {f : Fld} (h : ∀ x ∈ faultFields, f.key ≠ x.key) :
    (d.capTriggerIn src slot).g f = d.g f := by
  have h1 := h F.CAP_TRIG_FRAME_FRAME (by simp [faultFields])
  have h2 := h F.CAP_TRIG_SLOT_SLOT (by simp [faultFields])
  have h3 := h F.CAP_STATE_STATE (by simp [faultFields])
  have h4 := h F.CAP_STATE_SOURCE (by simp [faultFields])
  have h5 := h F.CAP_STATE_PRE_VALID (by simp [faultFields])
  have h6 := h F.CAP_IGNORED_COUNT (by simp [faultFields])
  unfold Dev.capTriggerIn
  simp only
  split
  · rw [Dev.g_p_ne _ _ h5, Dev.g_p_ne _ _ h4, Dev.g_p_ne _ _ h3, Dev.g_p_ne _ _ h2, Dev.g_p_ne _ _ h1]; rfl
  · split
    · rw [Dev.g_inc_ne _ h6]
    · rfl

theorem Dev.capTrigger_g (src : Nat) (d : Dev) {f : Fld} (h : ∀ x ∈ faultFields, f.key ≠ x.key) : (d.capTrigger src).g f = d.g f :=
  Dev.capTriggerIn_g src _ d h

theorem Dev.when_g {d : Dev} {c : Bool} {k : Dev → Dev} {f : Fld} (h : (k d).g f = d.g f) : (d.when c k).g f = d.g f :=
  Dev.when_keep (fun d => d.g f) h

theorem Dev.latch_g (d : Dev) (r o : Nat) {f : Fld} (h : ∀ x ∈ faultFields, f.key ≠ x.key) : (d.latch r o).g f = d.g f := by
  unfold Dev.latch
  split
  · rfl
  · simp only
    rw [Dev.when_g (Dev.capTrigger_g 1 _ h), Dev.g_inc_ne _ (h F.PROT_SHUTTER_COUNT (by simp [faultFields])),
      Dev.g_p_ne _ _ (h F.PROT_STATUS_ORIGIN (by simp [faultFields])), Dev.g_p_ne _ _ (h F.PROT_STATUS_REASON (by simp [faultFields])),
      Dev.pb_g_ne _ _ (h F.PROT_STATUS_LATCHED1 (by simp [faultFields])), Dev.pb_g_ne _ _ (h F.PROT_STATUS_LATCHED0 (by simp [faultFields]))]

theorem Dev.burst_g (d : Dev) (c s : Nat) {f : Fld} (h : ∀ x ∈ faultFields, f.key ≠ x.key) : (d.burst c s).g f = d.g f := by
  unfold Dev.burst
  split
  · rfl
  · rw [Dev.g_inc_ne _ (h F.HCL_SHUTTER_COUNT (by simp [faultFields]))]; rfl

theorem Dev.shutter_g (d : Dev) (c s : Nat) {f : Fld} (h : ∀ x ∈ faultFields, f.key ≠ x.key) : (d.shutter c s).g f = d.g f := by
  have e : ∀ (x : Dev) (m : SMap Bool),
      ({ x with prot := { x.prot with lastShutter := some x.cad.frame }, bal := { x.bal with suppStop := m } } : Dev).g f = x.g f :=
    fun _ _ => rfl
  unfold Dev.shutter
  simp only
  split
  · rw [e, Dev.when_g (Dev.pb_g_ne _ _ (h F.PROT_STATUS_HOST_HELD (by simp [faultFields]))),
      Dev.when_g (Dev.pb_g_ne _ _ (h F.PROT_STATUS_DCSIDE (by simp [faultFields]))), Dev.latch_g _ _ _ h, Dev.burst_g _ _ _ h]
  · rw [Dev.emit_g, e, Dev.when_g (Dev.pb_g_ne _ _ (h F.PROT_STATUS_HOST_HELD (by simp [faultFields]))),
      Dev.when_g (Dev.pb_g_ne _ _ (h F.PROT_STATUS_DCSIDE (by simp [faultFields]))), Dev.latch_g _ _ _ h, Dev.burst_g _ _ _ h]

theorem Dev.copied_g (d : Dev) (c : ShutCopy) (f : Fld) : (d.copied c).g f = d.g f := by
  unfold Dev.copied; split <;> rfl

theorem Dev.shutterOwn_g (d : Dev) (r : Nat) {f : Fld} (h : ∀ x ∈ faultFields, f.key ≠ x.key) : (d.shutterOwn r).g f = d.g f := by
  unfold Dev.shutterOwn; rw [Dev.copied_g, Dev.shutter_g _ _ _ h]

theorem Dev.protStatus_g (d : Dev) {f : Fld} (h : ∀ x ∈ faultFields, f.key ≠ x.key) : d.protStatus.g f = d.g f := by
  unfold Dev.protStatus
  simp only
  rw [Dev.pb_g_ne _ _ (h F.PROT_STATUS_DERATE (by simp [faultFields])), Dev.pb_g_ne _ _ (h F.PROT_STATUS_WARN (by simp [faultFields])),
    Dev.pb_g_ne _ _ (h F.PROT_STATUS_HOLD (by simp [faultFields]))]

theorem Dev.endCause_g (d : Dev) (s k : Nat) {f : Fld} (h : ∀ x ∈ faultFields, f.key ≠ x.key) : (d.endCause s k).g f = d.g f := by
  unfold Dev.endCause; simp only; rw [Dev.protStatus_g _ h]; rfl

theorem Dev.enqueue_g (d : Dev) (e : FqEntry) {f : Fld} (h : ∀ x ∈ faultFields, f.key ≠ x.key) : (d.enqueue e).g f = d.g f := by
  unfold Dev.enqueue
  simp only
  split
  · rfl
  · rw [Dev.g_inc_ne _ (h F.PROT_QUEUE_LOST_COUNT (by simp [faultFields]))]

/-- A fault changes only the register fields of `faultFields` and the count of its class. -/
theorem Dev.raise_g (d : Dev) (r : Raise) {f : Fld} (hf : faultFree r.cls f = true) : (d.raise r).g f = d.g f := by
  have h : ∀ x ∈ faultFields, f.key ≠ x.key := fun x hx => faultFree_ne hf hx
  have hc : f.key ≠ (F.PROT_CLASS_COUNT r.cls).key := by
    simp only [faultFree, Bool.and_eq_true, decide_eq_true_eq] at hf; exact hf.2
  unfold Dev.raise
  split
  · rfl
  · unfold Dev.raiseNow
    simp only
    rw [Dev.enqueue_g _ _ h, Dev.when_g (Dev.capTrigger_g 2 _ h), Dev.protStatus_g _ h, Dev.when_g rfl,
      Dev.when_g (Dev.pb_g_ne _ _ (h F.PROT_STATUS_TRIPPED (by simp [faultFields]))),
      Dev.when_g (Dev.shutterOwn_g _ _ h)]
    change (d.inc _).g f = _
    rw [Dev.g_inc_ne _ hc]

theorem Dev.actSuspect_core_g (d : Dev) (l s : Nat) (f : Fld) : (d.actSuspect l s).g f = d.g f := rfl

theorem Dev.raiseSuspect_g (d : Dev) (s l : Nat) {f : Fld} (hf : faultFree 2 f = true) : (d.raiseSuspect s l).g f = d.g f := by
  unfold Dev.raiseSuspect
  rw [Dev.actSuspect_core_g, Dev.raise_g _ _ hf]

end Sys2Proof.Machine
end

