-- ==== Sys2Proof/Laws/Bus.lean ====
section
/-! SUPPORT. The register bus: no register has two fields at one bit, and what a write by field class comes to. -/
set_option Elab.async false
namespace Sys2Proof.Machine

/-- The fields of a row stand at different bits. -/
def RegRow.distinct (r : RegRow) : Bool := decide ((r.fields.map RegField.lo).Nodup)

theorem rowsGlobal_distinct : rowsGlobal.all RegRow.distinct = true := by decide +kernel
theorem rowsCommit_distinct : rowsCommit.all RegRow.distinct = true := by decide +kernel
theorem rowsCadence_distinct : rowsCadence.all RegRow.distinct = true := by decide +kernel
theorem rowsLanes_distinct : rowsLanes.all RegRow.distinct = true := by decide +kernel
theorem rowsPorts_distinct : rowsPorts.all RegRow.distinct = true := by decide +kernel
theorem rowsEngine_distinct : rowsEngine.all RegRow.distinct = true := by decide +kernel
theorem rowsBalEdge_distinct : rowsBalEdge.all RegRow.distinct = true := by decide +kernel
theorem rowsMeasure_distinct : rowsMeasure.all RegRow.distinct = true := by decide +kernel
theorem rowsThermal_distinct : rowsThermal.all RegRow.distinct = true := by decide +kernel
theorem rowsSafety_distinct : rowsSafety.all RegRow.distinct = true := by decide +kernel
theorem rowsRedund_distinct : rowsRedund.all RegRow.distinct = true := by decide +kernel
theorem rowsSecurity_distinct : rowsSecurity.all RegRow.distinct = true := by decide +kernel
theorem rowsServices_distinct : rowsServices.all RegRow.distinct = true := by decide +kernel
theorem rowsArmView_distinct : rowsArmView.all RegRow.distinct = true := by decide +kernel

theorem all_ite {α : Type} {c : Prop} [Decidable c] {p : α → Bool} {x y : List α} (hx : x.all p = true) (hy : y.all p = true) :
    (if c then x else y).all p = true := by split <;> assumption

theorem rowsAt_distinct (a : Nat) : (rowsAt a).all RegRow.distinct = true :=
  all_ite rowsGlobal_distinct <| all_ite rowsCommit_distinct <| all_ite rowsCadence_distinct <| 
  all_ite rowsLanes_distinct <| all_ite rowsPorts_distinct <| all_ite rowsEngine_distinct <| 
  all_ite rowsBalEdge_distinct <| all_ite rowsMeasure_distinct <| all_ite rowsThermal_distinct <| 
  all_ite rowsSafety_distinct <| all_ite rowsRedund_distinct <| all_ite rowsSecurity_distinct <| 
  all_ite rowsServices_distinct <| all_ite rowsArmView_distinct <| rfl

/-- No register has two fields at one bit. -/
theorem regAt_nodup {a : Nat} {r : RegRow} (h : regAt a = some r) : (r.fields.map RegField.lo).Nodup := by
  have := List.all_eq_true.mp (rowsAt_distinct a) r (List.mem_of_find?_eq_some h)
  simpa [RegRow.distinct] using this

/-- One field of a write by class. -/
def Dev.putField (a w : Nat) (d : Dev) (f : RegField) : Dev :=
  match f.cls with
  | .cfg => d.p ⟨a, f.lo, f.w⟩ (bits w (f.lo + f.w - 1) f.lo)
  | .cnt => d.p ⟨a, f.lo, f.w⟩ (bits w (f.lo + f.w - 1) f.lo)
  | .shd => d.psh ⟨a, f.lo, f.w⟩ (bits w (f.lo + f.w - 1) f.lo)
  | _ => d

theorem Dev.putFields_eq {d : Dev} {a w : Nat} {r : RegRow} (h : regAt a = some r) :
    d.putFields a w = r.fields.foldl (Dev.putField a w) d := by unfold Dev.putFields; simp only [h]; rfl

theorem Dev.putField_ne (a w : Nat) (d : Dev) (f : RegField) {x : Fld} (h : x.key ≠ a * 8 + f.lo) :
    (d.putField a w f).g x = d.g x ∧ (d.putField a w f).sh x = d.sh x := by
  unfold Dev.putField
  split
  · exact ⟨Dev.g_p_ne _ _ h, rfl⟩
  · exact ⟨Dev.g_p_ne _ _ h, rfl⟩
  · exact ⟨rfl, Dev.sh_psh_ne _ _ h⟩
  · exact ⟨rfl, rfl⟩

theorem Dev.putField_foldl_ne (a w : Nat) (fs : List RegField) (d : Dev) {x : Fld} (h : ∀ f ∈ fs, x.key ≠ a * 8 + f.lo) :
    (fs.foldl (Dev.putField a w) d).g x = d.g x ∧ (fs.foldl (Dev.putField a w) d).sh x = d.sh x := by
  induction fs generalizing d with
  | nil => exact ⟨rfl, rfl⟩
  | cons f r ih =>
    have h1 := Dev.putField_ne a w d f (h f List.mem_cons_self)
    have h2 := ih (d.putField a w f) (fun y hy => h y (List.mem_cons_of_mem _ hy))
    exact ⟨h2.1.trans h1.1, h2.2.trans h1.2⟩

theorem Dev.putField_only (a w : Nat) (d : Dev) (f : RegField) :
    d.putField a w f = { d with rf := (d.putField a w f).rf, shadow := (d.putField a w f).shadow } := by
  unfold Dev.putField; split <;> rfl

theorem Dev.putFields_only (a w : Nat) (d : Dev) :
    d.putFields a w = { d with rf := (d.putFields a w).rf, shadow := (d.putFields a w).shadow } := by
  cases h : regAt a with
  | none => unfold Dev.putFields; simp only [h]
  | some r =>
    rw [Dev.putFields_eq h]
    generalize r.fields = fs
    induction fs generalizing d with
    | nil => rfl
    | cons f r ih =>
      rw [List.foldl_cons, ih (d.putField a w f)]
      rw [Dev.putField_only a w d f]

theorem bits_field (w lo n : Nat) : bits w (lo + n - 1) lo % 2 ^ n = w / 2 ^ lo % 2 ^ n := by
  unfold bits
  have : lo + n - 1 - lo + 1 = n ∨ n = 0 := by omega
  rcases this with h | h
  · rw [h, Nat.mod_mod]
  · subst h; simp [Nat.mod_one]

/-- A write by class: CFG and CNT fields hold their bits, the shadows of SHD fields do, and the rest keeps its value. -/
theorem Dev.putFields_field {a w : Nat} {d : Dev} {r : RegRow} (h : regAt a = some r) {f : RegField} (hf : f ∈ r.fields) :
    match f.cls with
    | .cfg => (d.putFields a w).g ⟨a, f.lo, f.w⟩ = w / 2 ^ f.lo % 2 ^ f.w
    | .cnt => (d.putFields a w).g ⟨a, f.lo, f.w⟩ = w / 2 ^ f.lo % 2 ^ f.w
    | .shd => (d.putFields a w).sh ⟨a, f.lo, f.w⟩ = w / 2 ^ f.lo % 2 ^ f.w ∧ (d.putFields a w).g ⟨a, f.lo, f.w⟩ = d.g ⟨a, f.lo, f.w⟩
    | _ => (d.putFields a w).g ⟨a, f.lo, f.w⟩ = d.g ⟨a, f.lo, f.w⟩ := by
  rw [Dev.putFields_eq h]
  have hn := regAt_nodup h
  generalize r.fields = fs at hf hn
  obtain ⟨l1, l2, rfl⟩ := List.append_of_mem hf
  simp only [List.map_append, List.map_cons] at hn
  have hd := List.nodup_append.mp hn
  have hn1 : ∀ y ∈ l1, (⟨a, f.lo, f.w⟩ : Fld).key ≠ a * 8 + y.lo := fun y hy he => by
    have hxy : y.lo = f.lo := by simp [Fld.key] at he; omega
    exact hd.2.2 y.lo (List.mem_map_of_mem hy) f.lo List.mem_cons_self hxy
  have hn2 : ∀ y ∈ l2, (⟨a, f.lo, f.w⟩ : Fld).key ≠ a * 8 + y.lo := fun y hy he => by
    have hxy : y.lo = f.lo := by simp [Fld.key] at he; omega
    exact (List.nodup_cons.mp hd.2.1).1 (hxy ▸ List.mem_map_of_mem hy)
  rw [List.foldl_append, List.foldl_cons]
  have e1 := Dev.putField_foldl_ne a w l1 d hn1
  have e2 := Dev.putField_foldl_ne a w l2 ((l1.foldl (Dev.putField a w) d).putField a w f) hn2
  rw [e2.1, e2.2]
  rw [← e1.1]
  generalize l1.foldl (Dev.putField a w) d = d1
  unfold Dev.putField
  cases hc : f.cls <;> simp [bits_field]

end Sys2Proof.Machine
end

