-- ==== Sys2Proof/Laws/Bytes.lean ====
section
/-! SUPPORT. Laws of bytes and numbers, most significant byte first (R114), and of the width of the CRCs (R41, R118): what a decoder reads
from what an encoder wrote. -/
set_option Elab.async false
namespace Sys2Proof.Machine

@[simp] theorem be_length (n v : Nat) : (be n v).length = n := by
  induction n with
  | zero => rfl
  | succ n ih => simp [be, ih]

theorem foldl_be (n v a : Nat) : (be n v).foldl (fun a b => a * 256 + b.toNat) a = a * 256 ^ n + v % 256 ^ n := by
  induction n generalizing a with
  | zero => simp [be, Nat.mod_one]
  | succ n ih =>
    rw [be, List.foldl_cons, ih, BitVec.toNat_ofNat]
    have h : v % 256 ^ (n + 1) = v % 256 ^ n + 256 ^ n * (v / 256 ^ n % 256) := by rw [Nat.pow_succ, Nat.mod_mul]
    have e : 256 ^ (n + 1) = 256 * 256 ^ n := by rw [Nat.pow_succ, Nat.mul_comm]
    rw [h, e]
    have k : v / 256 ^ n % 2 ^ 8 = v / 256 ^ n % 256 := rfl
    rw [k]
    generalize v / 256 ^ n % 256 = q
    generalize 256 ^ n = m
    rw [Nat.add_mul, Nat.mul_assoc, Nat.mul_comm q m]
    omega

/-- The number of `n` bytes written most significant first is the number cut to `n` bytes. -/
theorem ofBe_be (n v : Nat) : ofBe (be n v) = v % 256 ^ n := by simp [ofBe, foldl_be]

/-- A number read where it was written. -/
theorem beAt_be (pre post : List Byte) (n v : Nat) {off : Nat} (h : off = pre.length) :
    beAt (pre ++ (be n v ++ post)) off n = v % 256 ^ n := by
  subst h
  unfold beAt
  rw [List.drop_left, List.take_left' (be_length n v), ofBe_be]

@[simp] theorem padTo_length (n : Nat) (bs : List Byte) : (padTo n bs).length = n := by
  simp [padTo]

theorem padTo_of_length {n : Nat} {bs : List Byte} (h : bs.length = n) : padTo n bs = bs := by
  unfold padTo; rw [List.take_left' h]

theorem iterBits_lt {w : Nat} {f : Nat → Nat} (hf : ∀ r, r < 2 ^ w → f r < 2 ^ w) (n r : Nat) (h : r < 2 ^ w) :
    iterBits f n r < 2 ^ w := by
  induction n generalizing r with
  | zero => exact h
  | succ n ih => exact ih _ (hf r h)

/-- A CRC-32 has 32 bits. -/
theorem crcReflected_lt {poly : Nat} (hp : poly < 2 ^ 32) (bs : List Byte) : crcReflected poly bs < 2 ^ 32 := by
  have step : ∀ r, r < 2 ^ 32 → crcBitR poly r < 2 ^ 32 := by
    intro r h
    unfold crcBitR
    split
    · exact Nat.xor_lt_two_pow (by omega) hp
    · omega
  have fold : ∀ (l : List Byte) (r : Nat), r < 2 ^ 32 → l.foldl (fun r b => iterBits (crcBitR poly) 8 (r ^^^ b.toNat)) r < 2 ^ 32 := by
    intro l
    induction l with
    | nil => intro r h; exact h
    | cons b l ih =>
      intro r h
      exact ih _ (iterBits_lt step 8 _ (Nat.xor_lt_two_pow h (by have := b.isLt; omega)))
  unfold crcReflected
  exact Nat.xor_lt_two_pow (fold bs _ (by decide)) (by decide)

theorem crc32_lt (bs : List Byte) : crc32 bs < 2 ^ 32 := crcReflected_lt (by decide) bs

end Sys2Proof.Machine
end

