-- ==== Sys2Proof/Laws/Cell.lean ====
section
/-! SUPPORT. Laws of the cell node's switches (R143 to R147): an operation keeps every leg from having both its switches on, and a latched
cell from running. -/
set_option Elab.async false
namespace Sys2Proof.Machine

theorem testBit_clrBit (v i j : Nat) : (clrBit v i).testBit j = (v.testBit j && decide (j ≠ i)) := by
  unfold clrBit
  split
  · rename_i h
    rw [Nat.testBit_xor, Nat.testBit_two_pow]
    by_cases hj : i = j
    · subst hj; simp [h]
    · simp [hj, Ne.symm hj]
  · rename_i h
    by_cases hj : j = i
    · subst hj; simp at h; simp [h]
    · simp [hj]

theorem testBit_setBit (v i j : Nat) : (setBit v i).testBit j = (v.testBit j || decide (i = j)) := by
  simp [setBit, Nat.testBit_or, Nat.testBit_two_pow]

theorem clrBit_lt {v i : Nat} (h : v < 256) : clrBit v i < 256 := by
  have : ∀ j, 8 ≤ j → (clrBit v i).testBit j = false := fun j hj => by
    rw [testBit_clrBit, Nat.testBit_lt_two_pow (Nat.lt_of_lt_of_le h (Nat.pow_le_pow_right (by decide : 0 < 2) hj))]; rfl
  exact Nat.lt_pow_two_of_testBit _ this

theorem setBit_lt {v i : Nat} (h : v < 256) (hi : i < 8) : setBit v i < 256 := by
  have : ∀ j, 8 ≤ j → (setBit v i).testBit j = false := fun j hj => by
    rw [testBit_setBit, Nat.testBit_lt_two_pow (Nat.lt_of_lt_of_le h (Nat.pow_le_pow_right (by decide : 0 < 2) hj))]
    simp; omega
  exact Nat.lt_pow_two_of_testBit _ this

/-- Turning a switch off keeps the legs apart. -/
theorem legsApart_clrBit {v : Nat} (i : Nat) (h : legsApart v) : legsApart (clrBit v i) := by
  intro k hk
  simp only [testBit_clrBit, Bool.and_eq_true] at hk
  exact h k ⟨hk.1.1, hk.2.1⟩

/-- Turning a switch on keeps the legs apart where the other one of its leg is off. -/
theorem legsApart_setBit {v i : Nat} (h : legsApart v) (hq : v.testBit (if i % 2 = 0 then i + 1 else i - 1) = false) :
    legsApart (setBit v i) := by
  intro k hk
  simp only [testBit_setBit, Bool.or_eq_true, decide_eq_true_eq] at hk
  obtain ⟨h0, h1⟩ := hk
  rcases h0 with h0 | h0 <;> rcases h1 with h1 | h1
  · exact h k ⟨h0, h1⟩
  · subst h1; simp only [show (2 * k + 1) % 2 ≠ 0 by omega, if_false, Nat.add_sub_cancel] at hq; rw [h0] at hq; cases hq
  · subst h0; simp only [show 2 * k % 2 = 0 by omega, if_true] at hq; rw [h1] at hq; cases hq
  · omega

/-! ## One operation on the switches -/

/-- What turning switches off and on leaves alone: all but the switches, their times and INTERLOCK. -/
structure Cell.SameFlow (c d : Cell) : Prop where
  start : d.start = c.start
  repStart : d.repStart = c.repStart
  shutter : d.shutter = c.shutter
  bypassed : d.bypassed = c.bypassed
  pend : d.pend = c.pend
  running : d.running = c.running
  simmer : d.simmer = c.simmer

theorem Cell.SameFlow.rfl' (c : Cell) : Cell.SameFlow c c := by constructor <;> rfl

theorem Cell.SameFlow.trans {a b c : Cell} (h : Cell.SameFlow a b) (k : Cell.SameFlow b c) : Cell.SameFlow a c := by
  constructor <;> simp [h.1, h.2, h.3, h.4, h.5, h.6, h.7, k.1, k.2, k.3, k.4, k.5, k.6, k.7]

theorem Cell.swOff_flow (c : Cell) (t : Int) (s : Nat) : Cell.SameFlow c (c.swOff t s) := by
  unfold Cell.swOff; split <;> constructor <;> rfl

theorem Cell.swOff_sw (c : Cell) (t : Int) (s : Nat) : (c.swOff t s).sw = clrBit c.sw s := by
  unfold Cell.swOff; split
  · rfl
  · rename_i h; simp [clrBit, h]

/-- The two outcomes of an on edge: both switches of the leg off and INTERLOCK counted, or the switch on with the other one off. -/
theorem Cell.swOn_cases (c : Cell) (t : Int) (x : Nat) :
    (∃ q, c.swOn t x = { ((c.swOff t (x % 8)).swOff t q) with interlock := (((c.swOff t (x % 8)).swOff t q).interlock + 1) % 4 }) ∨
    (c.swOn t x = { c with sw := setBit c.sw (x % 8) } ∧
      c.sw.testBit (if x % 8 % 2 = 0 then x % 8 + 1 else x % 8 - 1) = false) := by
  unfold Cell.swOn
  simp only []
  generalize (if x % 8 % 2 = 0 then x % 8 + 1 else x % 8 - 1) = q
  cases hq : c.sw.testBit q || c.tooSoon t q
  · simp only [Bool.or_eq_false_iff] at hq
    exact .inr ⟨by simp, hq.1⟩
  · exact .inl ⟨q, by simp⟩

theorem Cell.swOn_flow (c : Cell) (t : Int) (s : Nat) : Cell.SameFlow c (c.swOn t s) := by
  obtain ⟨q, h⟩ | ⟨h, -⟩ := c.swOn_cases t s
  · rw [h]; exact ((c.swOff_flow t _).trans (Cell.swOff_flow _ t q)).trans (by constructor <;> rfl)
  · rw [h]; constructor <;> rfl

theorem Cell.swOn_legs {c : Cell} (t : Int) (x : Nat) (h : legsApart c.sw) (hl : c.sw < 256) :
    legsApart (c.swOn t x).sw ∧ (c.swOn t x).sw < 256 := by
  obtain ⟨q, he⟩ | ⟨he, hq⟩ := c.swOn_cases t x
  · rw [he]
    simp only [Cell.swOff_sw]
    exact ⟨legsApart_clrBit _ (legsApart_clrBit _ h), clrBit_lt (clrBit_lt hl)⟩
  · rw [he]
    exact ⟨legsApart_setBit h hq, setBit_lt hl (Nat.mod_lt _ (by decide))⟩

theorem Cell.swOff_fold_flow (l : List Nat) (c : Cell) (t : Int) : Cell.SameFlow c (l.foldl (fun c s => c.swOff t s) c) := by
  induction l generalizing c with
  | nil => exact Cell.SameFlow.rfl' c
  | cons a r ih => exact (c.swOff_flow t a).trans (ih _)

theorem Cell.swOff_fold_testBit (l : List Nat) (c : Cell) (t : Int) (j : Nat) :
    (l.foldl (fun c s => c.swOff t s) c).sw.testBit j = (c.sw.testBit j && decide (j ∉ l)) := by
  induction l generalizing c with
  | nil => simp
  | cons a r ih =>
    rw [List.foldl_cons, ih, Cell.swOff_sw, testBit_clrBit]
    by_cases h : j = a <;> by_cases h' : j ∈ r <;> simp [h, h']

/-- Every switch off: none of the eight is on. -/
theorem Cell.allOff_testBit (c : Cell) (t : Int) {j : Nat} (hj : j < 8) : (c.allOff t).sw.testBit j = false := by
  unfold Cell.allOff
  rw [Cell.swOff_fold_testBit]; simp [hj]

theorem Cell.allOff_flow (c : Cell) (t : Int) : Cell.SameFlow c (c.allOff t) := Cell.swOff_fold_flow _ c t

theorem Cell.allOff_sw {c : Cell} (t : Int) (h : c.sw < 256) : (c.allOff t).sw = 0 := by
  apply Nat.eq_of_testBit_eq; intro j
  rw [Nat.zero_testBit]
  by_cases hj : j < 8
  · exact c.allOff_testBit t hj
  · unfold Cell.allOff
    rw [Cell.swOff_fold_testBit,
      Nat.testBit_lt_two_pow (Nat.lt_of_lt_of_le h (Nat.pow_le_pow_right (by decide : 0 < 2) (Nat.le_of_not_lt hj)))]; rfl

theorem legsApart_zero : legsApart 0 := fun k h => by simp at h

/-! ## The node's operations keep it sound -/

/-- Everything that `Cell.sound` reads. -/
def Cell.flow (c : Cell) : Nat × Nat × Nat × Bool × Bool × List PendEdge × Bool × Bool :=
  (c.sw, c.start, c.repStart, c.shutter, c.bypassed, c.pend, c.running, c.simmer)

theorem Cell.sound_flow {c d : Cell} (h : d.flow = c.flow) (s : c.sound) : d.sound := by
  simp only [Cell.flow, Prod.mk.injEq] at h
  obtain ⟨h1, h2, h3, h4, h5, h6, h7, h8⟩ := h
  unfold Cell.sound at s ⊢
  rw [h1, h2, h3, h4, h5, h6, h7, h8]; exact s

@[simp] theorem Cell.portUpd_flow (c : Cell) (p : Nat) (f : CellPort → CellPort) : (c.portUpd p f).flow = c.flow := by
  unfold Cell.portUpd; split <;> rfl
@[simp] theorem Cell.epUpd_flow (c : Cell) (p : Nat) (f : Endpoint → Endpoint) : (c.epUpd p f).flow = c.flow := c.portUpd_flow p _
@[simp] theorem Cell.at_flow (c : Cell) (t : Nat) : (c.at t).flow = c.flow := rfl
@[simp] theorem Cell.discard_flow (c : Cell) (p : Nat) : (c.discard p).flow = c.flow := c.portUpd_flow p _
@[simp] theorem Cell.segBad_flow (c : Cell) : c.segBad.flow = c.flow := rfl

theorem legsApart_cleared : legsApart 0 ∧ 0 < 256 := ⟨legsApart_zero, by decide⟩

theorem Cell.sound_cleared {c : Cell} (h1 : c.sw = 0) (h2 : c.start = 0) (h3 : c.repStart = 0) (h4 : c.pend = []) (h5 : c.running = false)
    (h6 : c.simmer = false) : c.sound := by
  unfold Cell.sound
  rw [h1, h2, h3, h4, h5, h6]
  exact ⟨legsApart_zero, legsApart_zero, legsApart_zero, by decide, by decide, by decide, fun _ => ⟨rfl, rfl, rfl, rfl⟩⟩

theorem Cell.restart_sound (c : Cell) : c.restart.sound := Cell.sound_cleared rfl rfl rfl rfl rfl rfl
theorem Cell.nodeBoot_sound (n : Option NodeSetup) (c : Cell) : (c.nodeBoot n).sound := by
  cases n with
  | none => exact c.restart_sound
  | some s => exact Cell.sound_cleared rfl rfl rfl rfl rfl rfl

@[simp] theorem Cell.startWork_flow (c : Cell) (p : Nat) : (c.startWork p).flow = c.flow := by
  unfold Cell.startWork; exact c.epUpd_flow p _
@[simp] theorem Cell.takeOpen_flow (c : Cell) (p : Nat) (s : Seg) : (c.takeOpen p s).flow = c.flow := by
  unfold Cell.takeOpen
  simp only []
  split
  · simp
  · split <;> split <;> simp <;> exact (c.epUpd_flow p epIdle)
@[simp] theorem Cell.takeData_flow (c : Cell) (p : Nat) (s : Seg) : (c.takeData p s).flow = c.flow := by
  unfold Cell.takeData
  simp only []
  repeat' split
  all_goals simp

theorem Cell.takeAck_sound {c : Cell} (p s) (h : c.sound) : (c.takeAck p s).sound := by
  unfold Cell.takeAck
  simp only []
  have h1 := Cell.sound_flow (c.epUpd_flow p (fun e => { e with idle := 0 })) h
  split
  · exact Cell.sound_flow (Cell.segBad_flow _) h1
  · have h2 := Cell.sound_flow (Cell.epUpd_flow _ p (fun e => { e with unacked := afterAck s (c.port p).ep.unacked, ackSeen := ackNextOf s })) h1
    split
    · exact Cell.sound_flow (Cell.epUpd_flow _ p _) h2
    · split
      · split
        · exact Cell.restart_sound _
        · exact Cell.sound_flow (Cell.epUpd_flow _ p _) h2
      · exact h2
theorem Cell.segment_sound {c : Cell} (p bs) (h : c.sound) : (c.segment p bs).sound := by
  unfold Cell.segment
  simp only []
  repeat' split
  · exact h
  · exact Cell.sound_flow c.segBad_flow h
  · exact Cell.sound_flow (c.takeOpen_flow p _) h
  · exact Cell.sound_flow (c.epUpd_flow p _) h
  · exact h
  · exact Cell.sound_flow (c.epUpd_flow p _) h
  · exact Cell.takeAck_sound p _ h
  · exact Cell.sound_flow (c.takeData_flow p _) h
theorem Cell.bulk_sound {c : Cell} (p b) (h : c.sound) : (c.bulk p b).sound := by
  unfold Cell.bulk
  split
  · exact Cell.sound_flow (c.discard_flow p) h
  · exact Cell.segment_sound p _ h
theorem Cell.bulks_sound (p : Nat) (l : List (List Byte)) {c : Cell} (h : c.sound) : (l.foldl (fun c b => c.bulk p b) c).sound := by
  induction l generalizing c with
  | nil => exact h
  | cons b r ih => exact ih (Cell.bulk_sound p b h)
theorem Cell.hold_flow (c : Cell) : c.hold.flow = c.flow := by
  unfold Cell.hold; split <;> rfl

theorem Cell.atHold_sound {c : Cell} (t : Nat) (h : c.sound) : (c.at t).hold.sound :=
  Cell.sound_flow ((Cell.hold_flow _).trans (c.at_flow t)) h

theorem Cell.other_flow (c : Cell) (p : Nat) (g : Got) : (c.other p g).flow = c.flow := by
  unfold Cell.other
  split
  · rfl
  · split
    · rfl
    · exact Cell.discard_flow c p
  · exact Cell.discard_flow c p

theorem Cell.dsfRun_sound {c : Cell} (p bs bulk) (h : c.sound) : (c.dsfRun p bs bulk).sound := by
  unfold Cell.dsfRun
  simp only []
  split
  · exact Cell.sound_flow (c.discard_flow p) h
  · rename_i f tick _
    have h1 := Cell.sound_flow (Cell.portUpd_flow c p (fun x => { x with last := some f.targetFrame, claim := f.claim, quiet := 0 })) h
    revert h1
    generalize c.portUpd p _ = c1
    intro h1
    have h2 : (if f.claim = 0 then c1 else { c1 with dsfPort := some p }).sound := by
      split
      · exact h1
      · exact Cell.sound_flow (c := c1) rfl h1
    revert h2
    generalize (if f.claim = 0 then c1 else { c1 with dsfPort := some p }) = c2
    intro h2
    have h3 : (if c2.relevant p f.claim = true then { c2 with accepted := true, waiting := c2.waiting ++ [⟨p, tick, f⟩] } else c2).sound := by
      split
      · exact Cell.sound_flow (c := c2) rfl h2
      · exact h2
    revert h3
    generalize (if c2.relevant p f.claim = true then { c2 with accepted := true, waiting := c2.waiting ++ [⟨p, tick, f⟩] } else c2) = c3
    intro h3
    have h4 : (if f.segValid = true then c3.segment p f.segment else c3).sound := by
      split
      · exact Cell.segment_sound p _ h3
      · exact h3
    revert h4
    generalize (if f.segValid = true then c3.segment p f.segment else c3) = c4
    intro h4
    exact Cell.bulks_sound p bulk h4

theorem Cell.dsf_sound {c : Cell} (t p : Nat) (line : Line) (h : c.sound) : (c.dsf t p line).sound := by
  unfold Cell.dsf
  simp only []
  have h0 := Cell.atHold_sound t h
  split
  · split
    · exact h0
    · exact Cell.dsfRun_sound p _ _ h0
  · exact Cell.sound_flow (Cell.other_flow _ p _) h0

/-- Blocked: every switch off, nothing to come. -/
theorem Cell.block_flow {c : Cell} (t : Int) (h : c.sw < 256) :
    (c.block t).flow = (0, c.start, c.repStart, c.shutter, c.bypassed, [], false, false) := by
  have f := c.allOff_flow t
  unfold Cell.flow Cell.block
  simp [Cell.allOff_sw t h, f.start, f.repStart, f.shutter, f.bypassed]

theorem Cell.sound_stopped {c d : Cell} (s : c.sound) (h1 : d.sw = 0) (h2 : d.start = c.start) (h3 : d.repStart = c.repStart)
    (h4 : d.pend = []) (h5 : d.running = false) (h6 : d.simmer = false) : d.sound := by
  unfold Cell.sound at s ⊢
  rw [h1, h2, h3, h4, h5, h6]
  exact ⟨legsApart_zero, s.2.1, s.2.2.1, by decide, s.2.2.2.2.1, s.2.2.2.2.2.1, fun _ => ⟨rfl, rfl, rfl, rfl⟩⟩

theorem Cell.block_sound {c : Cell} (t : Int) (h : c.sound) : (c.block t).sound := by
  have f := c.allOff_flow t
  exact Cell.sound_stopped h (Cell.allOff_sw t h.2.2.2.1) f.start f.repStart rfl rfl rfl

theorem Cell.latch_sound {c : Cell} (h : c.sound) : c.latch.sound := by
  have f := c.allOff_flow c.time
  exact Cell.sound_stopped h (Cell.allOff_sw c.time h.2.2.2.1) f.start f.repStart rfl rfl rfl

theorem Cell.takeShutter_sound {c : Cell} (p : Nat) (content : List Byte) (h : c.sound) : (c.takeShutter p content).sound := by
  unfold Cell.takeShutter
  split
  · exact Cell.sound_flow (Cell.discard_flow _ p) h
  · have k : ∀ b : Bool, (if b = true then c.latch else c).sound := fun b => by
      cases b
      · exact h
      · exact Cell.latch_sound h
    exact k _

theorem Cell.shutterSet_sound {c : Cell} (t p : Nat) (line : Line) (h : c.sound) : (c.shutterSet t p line).sound := by
  unfold Cell.shutterSet
  simp only []
  have h0 := Cell.atHold_sound t h
  split
  · exact Cell.takeShutter_sound p _ h0
  · exact Cell.sound_flow (Cell.other_flow _ p _) h0

theorem Cell.edges_sound (l1 l2 : List PendEdge) (t : Int) {c : Cell} (h : c.sound) (h1 : c.shutter = false) (h2 : c.bypassed = false) :
    (l2.foldl (fun c x => c.swOn t x.switch) (l1.foldl (fun c x => c.swOff t x.switch) c)).sound := by
  have off : ∀ (l : List PendEdge) (c : Cell), c.sound → c.shutter = false → c.bypassed = false →
      (l.foldl (fun c x => c.swOff t x.switch) c).sound ∧ (l.foldl (fun c x => c.swOff t x.switch) c).shutter = false ∧
      (l.foldl (fun c x => c.swOff t x.switch) c).bypassed = false := by
    intro l
    induction l with
    | nil => intro c h a b; exact ⟨h, a, b⟩
    | cons x r ih =>
      intro c h a b
      have f := c.swOff_flow t x.switch
      refine ih _ ?_ (f.shutter.trans a) (f.bypassed.trans b)
      unfold Cell.sound at h ⊢
      rw [f.start, f.repStart, f.shutter, f.bypassed, Cell.swOff_sw, a, b]
      exact ⟨legsApart_clrBit _ h.1, h.2.1, h.2.2.1, clrBit_lt h.2.2.2.1, h.2.2.2.2.1, h.2.2.2.2.2.1, by simp⟩
  have on : ∀ (l : List PendEdge) (c : Cell), c.sound → c.shutter = false → c.bypassed = false →
      (l.foldl (fun c x => c.swOn t x.switch) c).sound := by
    intro l
    induction l with
    | nil => intro c h a b; exact h
    | cons x r ih =>
      intro c h a b
      have f := c.swOn_flow t x.switch
      have q := Cell.swOn_legs t x.switch h.1 h.2.2.2.1
      refine ih _ ?_ (f.shutter.trans a) (f.bypassed.trans b)
      unfold Cell.sound at h ⊢
      rw [f.start, f.repStart, f.shutter, f.bypassed, a, b]
      exact ⟨q.1, h.2.1, h.2.2.1, q.2, h.2.2.2.2.1, h.2.2.2.2.2.1, by simp⟩
  obtain ⟨a, b, d⟩ := off l1 c h h1 h2
  exact on l2 _ a b d

theorem Cell.edge_sound {c : Cell} (h : c.sound) : c.edge.sound := by
  unfold Cell.edge
  split
  · exact h
  · rename_i e r hp
    have hs : c.shutter = false ∧ c.bypassed = false := by
      constructor
      · cases hh : c.shutter
        · rfl
        · have := (h.2.2.2.2.2.2 (.inl hh)).2.1; rw [hp] at this; cases this
      · cases hh : c.bypassed
        · rfl
        · have := (h.2.2.2.2.2.2 (.inr hh)).2.1; rw [hp] at this; cases this
    simp only []
    generalize r.foldl (fun m x => min m x.time) e.time = t
    have k : ∀ c' : Cell, c'.flow = c.flow → c'.sound ∧ c'.shutter = false ∧ c'.bypassed = false := fun c' hf =>
      ⟨Cell.sound_flow hf h, by simp only [Cell.flow, Prod.mk.injEq] at hf; exact hf.2.2.2.1.trans hs.1,
        by simp only [Cell.flow, Prod.mk.injEq] at hf; exact hf.2.2.2.2.1.trans hs.2⟩
    have ka : ∀ d : Cell, d.flow = c.flow → (d.at (t - d.off).toNat).flow = c.flow := fun d hd => (d.at_flow _).trans hd
    have kt : (if c.tick = some t then c else c.hold).flow = c.flow := by
      split
      · rfl
      · exact c.hold_flow
    obtain ⟨a, b1, b2⟩ := k _ (ka _ kt)
    refine Cell.edges_sound _ _ _ ?_ b1 b2
    refine ⟨a.1, a.2.1, a.2.2.1, a.2.2.2.1, a.2.2.2.2.1, a.2.2.2.2.2.1, fun q => ?_⟩
    rcases q with q | q
    · exact absurd (b1.symm.trans q) (by decide)
    · exact absurd (b2.symm.trans q) (by decide)

theorem Cell.repeatEdges_sound {c : Cell} (t : Int) (es : List PendEdge) (st : Nat) (h : c.sound) (h1 : c.shutter = false)
    (h2 : c.bypassed = false) (k1 : legsApart st) (k2 : st < 256) : (c.repeatEdges t es st).sound ∧
      (c.repeatEdges t es st).shutter = false ∧ (c.repeatEdges t es st).bypassed = false := by
  unfold Cell.repeatEdges
  simp only []
  have f : ∀ (l : List Nat) (c : Cell), Cell.SameFlow c (l.foldl (fun c s => if st.testBit s then c else c.swOff t s) c) := by
    intro l
    induction l with
    | nil => intro c; exact Cell.SameFlow.rfl' c
    | cons a r ih =>
      intro c
      simp only [List.foldl_cons]
      split
      · exact ih c
      · exact (c.swOff_flow t a).trans (ih _)
  have g := f (List.range 8) c
  refine ⟨?_, g.shutter.trans h1, g.bypassed.trans h2⟩
  refine ⟨k1, k1, ?_, k2, k2, ?_, fun k => ?_⟩
  · exact g.repStart ▸ h.2.2.1
  · exact (show _ = c.repStart from g.repStart) ▸ h.2.2.2.2.2.1
  · have : _ ∨ _ := k
    rcases this with k | k
    · rw [show _ = c.shutter from g.shutter, h1] at k; cases k
    · rw [show _ = c.bypassed from g.bypassed, h2] at k; cases k
theorem Cell.latches_keep (c : Cell) (t : Int) (f : Dsf) (h1 : legsApart c.sw) (h2 : c.sw < 256) :
    legsApart (c.latches t f).sw ∧ (c.latches t f).sw < 256 ∧ (c.latches t f).start = c.start ∧
      (c.latches t f).repStart = c.repStart ∧ (c.latches t f).simmer = c.simmer := by
  unfold Cell.latches
  have g := c.allOff_flow t
  have z := Cell.allOff_sw (c := c) t h2
  cases f.bypass <;> cases f.release <;> simp [z, g.start, g.repStart, g.simmer, h1, h2, legsApart_zero]

theorem Cell.apply_sound {c : Cell} (t : Int) (w : Waiting) (h : c.sound) : (c.apply t w).sound := by
  unfold Cell.apply
  have b3 := Cell.latches_keep (c.heed t w) t w.dsf h.1 h.2.2.2.1
  simp only []
  generalize (c.heed t w).latches t w.dsf = c3 at b3
  split
  · have f := c3.allOff_flow t
    exact Cell.sound_stopped h (Cell.allOff_sw t b3.2.1) (f.start.trans b3.2.2.1) (f.repStart.trans b3.2.2.2.1) rfl rfl
      (f.simmer.trans b3.2.2.2.2)
  · rename_i hl
    simp only [Bool.or_eq_true, Bool.not_eq_true', not_or, Bool.not_eq_false] at hl
    refine ⟨b3.1, ?_, ?_, b3.2.1, ?_, ?_, fun k => ?_⟩
    · exact (show c3.start = c.start from b3.2.2.1) ▸ h.2.1
    · exact (show c3.repStart = c.repStart from b3.2.2.2.1) ▸ h.2.2.1
    · exact (show c3.start = c.start from b3.2.2.1) ▸ h.2.2.2.2.1
    · exact (show c3.repStart = c.repStart from b3.2.2.2.1) ▸ h.2.2.2.2.2.1
    · have : c3.shutter = true ∨ c3.bypassed = true := k
      rcases this with k | k
      · exact absurd k hl.1.2
      · exact absurd k hl.2

theorem Cell.prune_flow (c : Cell) : c.prune.flow = c.flow := rfl

theorem Cell.begin_sound {c : Cell} (t : Int) (h : c.sound) :
    (c.begin t).sound ∧ (c.begin t).shutter = c.shutter ∧ (c.begin t).bypassed = c.bypassed := by
  have o : ({ (c.openTick t (c.tickStamp t).1 (c.tickStamp t).2) with waiting := c.waiting.filter (fun w => decide (t < w.tick)) } : Cell).sound :=
    ⟨h.1, h.1, h.2.1, h.2.2.2.1, h.2.2.2.1, h.2.2.2.2.1, h.2.2.2.2.2.2⟩
  unfold Cell.begin
  simp only []
  split
  · exact ⟨Cell.sound_flow rfl o, rfl, rfl⟩
  · exact ⟨o, rfl, rfl⟩

theorem Cell.targetTick_sound {c : Cell} (h : c.sound) : c.targetTick.sound := by
  unfold Cell.targetTick
  split
  · exact h
  · rename_i t _
    have o2 := Cell.begin_sound t h
    simp only []
    generalize c.begin t = c2 at o2
    split
    · split
      · exact Cell.sound_flow (c := c2) rfl o2.1
      · exact Cell.sound_flow (Cell.prune_flow _) (Cell.apply_sound t _ o2.1)
    · split
      · exact Cell.sound_flow (c := c2) rfl o2.1
      · split
        · rename_i hsim
          have hs : c.shutter = false ∧ c.bypassed = false := by
            constructor
            · cases hh : c.shutter
              · rfl
              · have := (h.2.2.2.2.2.2 (.inl hh)).2.2.2; rw [hsim] at this; cases this
            · cases hh : c.bypassed
              · rfl
              · have := (h.2.2.2.2.2.2 (.inr hh)).2.2.2; rw [hsim] at this; cases this
          have r := Cell.repeatEdges_sound t c.rep c.repStart o2.1 (o2.2.1.trans hs.1) (o2.2.2.trans hs.2) h.2.2.1 h.2.2.2.2.2.1
          refine ⟨r.1.1, r.1.2.1, h.2.2.1, r.1.2.2.2.1, r.1.2.2.2.2.1, h.2.2.2.2.2.1, fun k => ?_⟩
          have : (c2.repeatEdges t c.rep c.repStart).shutter = true ∨ (c2.repeatEdges t c.rep c.repStart).bypassed = true := k
          rw [r.2.1, r.2.2] at this; simp at this
        · exact o2.1

theorem Cell.gap_sound {c : Cell} (h : c.sound) : c.gap.sound := by
  unfold Cell.gap
  split
  · split
    · exact h
    · rename_i oc t _ _ _
      simp only []
      generalize hc : Cell.prune _ = c1
      have o : c1.sound := by
        subst hc
        exact ⟨h.1, h.2.1, h.2.2.1, h.2.2.2.1, h.2.2.2.2.1, h.2.2.2.2.2.1, fun k => ⟨(h.2.2.2.2.2.2 k).1, (h.2.2.2.2.2.2 k).2.1, rfl, (h.2.2.2.2.2.2 k).2.2.2⟩⟩
      split
      · rename_i hl
        simp only [Bool.and_eq_true, Bool.not_eq_true'] at hl
        have r := Cell.repeatEdges_sound t c.rep c.repStart o hl.1.2 hl.2 h.2.2.1 h.2.2.2.2.2.1
        refine ⟨r.1.1, r.1.2.1, r.1.2.2.1, r.1.2.2.2.1, r.1.2.2.2.2.1, r.1.2.2.2.2.2.1, fun k => ?_⟩
        have : _ = true ∨ _ = true := k
        rcases this with k | k
        · rw [show _ = false from r.2.1] at k; cases k
        · rw [show _ = false from r.2.2] at k; cases k
      · exact Cell.block_sound t o
  · exact h

theorem Cell.simmerEnd_sound {c : Cell} (h : c.sound) : c.simmerEnd.sound := by
  unfold Cell.simmerEnd
  split
  · exact h
  · split
    · exact Cell.block_sound _ h
    · exact h

theorem Cell.floorClear_sound {c : Cell} (t : Nat) (h : c.sound) : (c.floorClear t).sound := by
  unfold Cell.floorClear
  simp only []
  split
  · exact Cell.sound_flow (c := c) rfl h
  · exact Cell.sound_flow (c := c) rfl h
theorem Cell.takeProbe_sound {c : Cell} (t3 p : Nat) (content : List Byte) (h : c.sound) : (c.takeProbe t3 p content).1.sound := by
  unfold Cell.takeProbe
  split
  · exact Cell.sound_flow (Cell.discard_flow _ p) h
  · simp only []
    refine Cell.sound_flow (c := c) ?_ h
    split <;> split <;> rfl

theorem Cell.probe_sound {c : Cell} (t t3 p : Nat) (line : Line) (h : c.sound) : (c.probe t t3 p line).1.sound := by
  unfold Cell.probe
  simp only []
  have h0 := Cell.atHold_sound t h
  split
  · exact Cell.takeProbe_sound t3 p _ h0
  · exact Cell.sound_flow (Cell.other_flow _ p _) h0

theorem Cell.usfSend_sound {c : Cell} (v k r f : Nat) (h : c.sound) : (c.usfSend v k r f).1.sound := by
  unfold Cell.usfSend
  split
  · exact h
  · simp only [List.foldl_cons, List.foldl_nil]
    have one : ∀ (m : Cell × List Out) (p : Nat), m.1.sound →
        (if (m.1.port p).trained = true then
          (m.1.epUpd p (fun _ => (epTake (m.1.port p).ep).2), m.2 ++ [Out.usf p (m.1.usfOf p v k r f (epTake (m.1.port p).ep).1)])
         else m).1.sound := by
      intro m p hm
      split
      · exact Cell.sound_flow (Cell.epUpd_flow _ p _) hm
      · exact hm
    exact one _ 1 (one ({ c with sent := true }, []) 0 (Cell.sound_flow (c := c) rfl h))

theorem Cell.retxTimeout_sound {c : Cell} (p : Nat) (h : c.sound) : (c.retxTimeout p).sound := by
  unfold Cell.retxTimeout
  simp only []
  split
  · exact h
  · split <;> exact Cell.sound_flow (Cell.epUpd_flow _ p _) h

theorem Cell.idleTimeout_sound {c : Cell} (p : Nat) (h : c.sound) : (c.idleTimeout p).sound := by
  unfold Cell.idleTimeout
  simp only []
  split
  · exact Cell.sound_flow (Cell.epUpd_flow _ p _) h
  · exact h

theorem Cell.regApply_flow (c : Cell) (p : Nat) (x : Nat × Nat) : (c.regApply p x).flow = c.flow := by
  unfold Cell.regApply
  repeat' split
  all_goals first | rfl | simp

theorem Cell.work_flow (c : Cell) (p status : Nat) (value : List Byte) (stored : Bool) (version : Nat) :
    (c.work p status value stored version).2.2.flow = c.flow := by
  have fold : ∀ (l : List (Nat × Nat)) (c : Cell), (l.foldl (fun c x => c.regApply p x) c).flow = c.flow := by
    intro l
    induction l with
    | nil => intro c; rfl
    | cons a r ih => intro c; exact (ih _).trans (Cell.regApply_flow c p a)
  unfold Cell.work
  simp only []
  repeat' split
  all_goals first | rfl | exact fold _ _

theorem Cell.workDone_sound {c : Cell} (p status : Nat) (value : List Byte) (stored : Bool) (version : Nat) (h : c.sound) :
    (c.workDone p status value stored version).sound := by
  unfold Cell.workDone
  split
  · exact Cell.sound_flow ((Cell.epUpd_flow _ p _).trans (c.work_flow p status value stored version)) h
  · exact h

end Sys2Proof.Machine
end

