-- ==== Sys2Proof/Laws/Clock.lean ====
section
/-! SUPPORT. What the work of a tick leaves alone: the clocks of the head, that is the frame number, the epoch, the time of the last tick, the running clock and the
offset of global time. -/
set_option linter.unusedSimpArgs false
set_option Elab.async false
namespace Sys2Proof.Machine

/-- The clocks of the head. -/
def Cad.clock (c : Cad) : Nat × Nat × Nat × Bool × Nat × Int := (c.frame, c.epoch, c.tickAt, c.started, c.now, c.off)

@[simp] theorem Cad.clock_probe (c : Cad) (p : SMap Probe) : { c with probe := p }.clock = c.clock := rfl

theorem ite_clock {c : Prop} [Decidable c] (a b : Dev) : (if c then a else b).cad.clock = if c then a.cad.clock else b.cad.clock := by
  split <;> rfl
theorem when_clock {d : Dev} {c : Bool} {f : Dev → Dev} (h : (f d).cad.clock = d.cad.clock) : (d.when c f).cad.clock = d.cad.clock := by
  cases c <;> simp [Dev.when, h]
theorem foldl_clock {α : Type} {f : Dev → α → Dev} (h : ∀ x a, (f x a).cad.clock = x.cad.clock) (l : List α) (d : Dev) :
    (l.foldl f d).cad.clock = d.cad.clock := Dev.foldl_keep (fun d => d.cad.clock) h l d
theorem pfoldl_clock {α γ : Type} {f : γ × Dev → α → γ × Dev} (h : ∀ x a, (f x a).2.cad.clock = x.2.cad.clock) (l : List α)
    (x : γ × Dev) : (l.foldl f x).2.cad.clock = x.2.cad.clock := by
  induction l generalizing x with
  | nil => rfl
  | cons a r ih => rw [List.foldl_cons, ih, h]

@[simp] theorem Dev.p_clock (d : Dev) (f : Fld) (v : Nat) : (Dev.p d f v).cad.clock = d.cad.clock := by
  unfold Dev.p
  first
    | (simp [ite_clock, when_clock]; done)
    | ((try simp only []); repeat' first
        | (simp [ite_clock, when_clock]; done) | split | intro _
        | (with_reducible refine (foldl_clock ?_ _ _).trans ?_) | (with_reducible refine (pfoldl_clock ?_ _ _).trans ?_)
        | (with_reducible refine (when_clock ?_).trans ?_) | simp [ite_clock, when_clock] | (with_reducible rfl) | rfl)
@[simp] theorem Dev.inc_clock (d : Dev) (f : Fld) : (Dev.inc d f).cad.clock = d.cad.clock := by
  unfold Dev.inc
  first
    | (simp [ite_clock, when_clock]; done)
    | ((try simp only []); repeat' first
        | (simp [ite_clock, when_clock]; done) | split | intro _
        | (with_reducible refine (foldl_clock ?_ _ _).trans ?_) | (with_reducible refine (pfoldl_clock ?_ _ _).trans ?_)
        | (with_reducible refine (when_clock ?_).trans ?_) | simp [ite_clock, when_clock] | (with_reducible rfl) | rfl)
@[simp] theorem Dev.addTo_clock (d : Dev) (f : Fld) (n : Nat) : (Dev.addTo d f n).cad.clock = d.cad.clock := by
  unfold Dev.addTo
  first
    | (simp [ite_clock, when_clock]; done)
    | ((try simp only []); repeat' first
        | (simp [ite_clock, when_clock]; done) | split | intro _
        | (with_reducible refine (foldl_clock ?_ _ _).trans ?_) | (with_reducible refine (pfoldl_clock ?_ _ _).trans ?_)
        | (with_reducible refine (when_clock ?_).trans ?_) | simp [ite_clock, when_clock] | (with_reducible rfl) | rfl)
@[simp] theorem Dev.pb_clock (d : Dev) (f : Fld) (v : Bool) : (Dev.pb d f v).cad.clock = d.cad.clock := by
  unfold Dev.pb
  first
    | (simp [ite_clock, when_clock]; done)
    | ((try simp only []); repeat' first
        | (simp [ite_clock, when_clock]; done) | split | intro _
        | (with_reducible refine (foldl_clock ?_ _ _).trans ?_) | (with_reducible refine (pfoldl_clock ?_ _ _).trans ?_)
        | (with_reducible refine (when_clock ?_).trans ?_) | simp [ite_clock, when_clock] | (with_reducible rfl) | rfl)
@[simp] theorem Dev.ps_clock (d : Dev) (f : Fld) (i : Int) : (Dev.ps d f i).cad.clock = d.cad.clock := by
  unfold Dev.ps
  first
    | (simp [ite_clock, when_clock]; done)
    | ((try simp only []); repeat' first
        | (simp [ite_clock, when_clock]; done) | split | intro _
        | (with_reducible refine (foldl_clock ?_ _ _).trans ?_) | (with_reducible refine (pfoldl_clock ?_ _ _).trans ?_)
        | (with_reducible refine (when_clock ?_).trans ?_) | simp [ite_clock, when_clock] | (with_reducible rfl) | rfl)
@[simp] theorem Dev.emit_clock (d : Dev) (o : Out) : (Dev.emit d o).cad.clock = d.cad.clock := by
  unfold Dev.emit
  first
    | (simp [ite_clock, when_clock]; done)
    | ((try simp only []); repeat' first
        | (simp [ite_clock, when_clock]; done) | split | intro _
        | (with_reducible refine (foldl_clock ?_ _ _).trans ?_) | (with_reducible refine (pfoldl_clock ?_ _ _).trans ?_)
        | (with_reducible refine (when_clock ?_).trans ?_) | simp [ite_clock, when_clock] | (with_reducible rfl) | rfl)
@[simp] theorem Dev.portUpd_clock (d : Dev) (l : Nat) (f : Port → Port) : (Dev.portUpd d l f).cad.clock = d.cad.clock := by
  unfold Dev.portUpd
  first
    | (simp [ite_clock, when_clock]; done)
    | ((try simp only []); repeat' first
        | (simp [ite_clock, when_clock]; done) | split | intro _
        | (with_reducible refine (foldl_clock ?_ _ _).trans ?_) | (with_reducible refine (pfoldl_clock ?_ _ _).trans ?_)
        | (with_reducible refine (when_clock ?_).trans ?_) | simp [ite_clock, when_clock] | (with_reducible rfl) | rfl)
@[simp] theorem Dev.capTriggerIn_clock (src slot : Nat) (d : Dev) : (Dev.capTriggerIn src slot d).cad.clock = d.cad.clock := by
  rw [(Dev.capTriggerIn_only src slot d).cad]
@[simp] theorem Dev.capTrigger_clock (src : Nat) (d : Dev) : (Dev.capTrigger src d).cad.clock = d.cad.clock := by
  rw [(Dev.capTrigger_only src d).cad]
@[simp] theorem Dev.latch_clock (d : Dev) (reason origin : Nat) : (Dev.latch d reason origin).cad.clock = d.cad.clock := by
  rw [(Dev.latch_only d reason origin).cad]
@[simp] theorem Dev.burst_clock (d : Dev) (claim source : Nat) : (Dev.burst d claim source).cad.clock = d.cad.clock := by
  rw [(Dev.burst_only d claim source).cad]
@[simp] theorem Dev.shutter_clock (d : Dev) (claim source : Nat) : (Dev.shutter d claim source).cad.clock = d.cad.clock := by
  rw [(Dev.shutter_only d claim source).cad]
@[simp] theorem Dev.copied_clock (d : Dev) (c : ShutCopy) : (Dev.copied d c).cad.clock = d.cad.clock := by
  rw [(Dev.copied_only d c).cad]
@[simp] theorem Dev.shutterOwn_clock (d : Dev) (reason : Nat) : (Dev.shutterOwn d reason).cad.clock = d.cad.clock := by
  rw [(Dev.shutterOwn_only d reason).cad]
@[simp] theorem Dev.protStatus_clock (d : Dev) : (Dev.protStatus d).cad.clock = d.cad.clock := by
  rw [(Dev.protStatus_only d).cad]
@[simp] theorem Dev.endCause_clock (d : Dev) (src detail : Nat) : (Dev.endCause d src detail).cad.clock = d.cad.clock := by
  rw [(Dev.endCause_only d src detail).cad]
@[simp] theorem Dev.endSource_clock (d : Dev) (src : Nat) : (Dev.endSource d src).cad.clock = d.cad.clock := by
  rw [(Dev.endSource_only d src).cad]
@[simp] theorem Dev.enqueue_clock (d : Dev) (e : FqEntry) : (Dev.enqueue d e).cad.clock = d.cad.clock := by
  rw [(Dev.enqueue_only d e).cad]
@[simp] theorem Dev.raiseNow_clock (d : Dev) (r : Raise) : (Dev.raiseNow d r).cad.clock = d.cad.clock := by
  rw [(Dev.raiseNow_only d r).cad]
@[simp] theorem Dev.raise_clock (d : Dev) (r : Raise) : (Dev.raise d r).cad.clock = d.cad.clock := by
  rw [(Dev.raise_only d r).cad]
@[simp] theorem Dev.endNotes_clock (d : Dev) : (Dev.endNotes d).cad.clock = d.cad.clock := by
  unfold Dev.endNotes
  first
    | (simp [ite_clock, when_clock]; done)
    | ((try simp only []); repeat' first
        | (simp [ite_clock, when_clock]; done) | split | intro _
        | (with_reducible refine (foldl_clock ?_ _ _).trans ?_) | (with_reducible refine (pfoldl_clock ?_ _ _).trans ?_)
        | (with_reducible refine (when_clock ?_).trans ?_) | simp [ite_clock, when_clock] | (with_reducible rfl) | rfl)
@[simp] theorem Dev.actSuspect_clock (d : Dev) (l src : Nat) : (Dev.actSuspect d l src).cad.clock = d.cad.clock := by
  unfold Dev.actSuspect
  first
    | (simp [ite_clock, when_clock]; done)
    | ((try simp only []); repeat' first
        | (simp [ite_clock, when_clock]; done) | split | intro _
        | (with_reducible refine (foldl_clock ?_ _ _).trans ?_) | (with_reducible refine (pfoldl_clock ?_ _ _).trans ?_)
        | (with_reducible refine (when_clock ?_).trans ?_) | simp [ite_clock, when_clock] | (with_reducible rfl) | rfl)
@[simp] theorem Dev.raiseSuspect_clock (d : Dev) (src l : Nat) : (Dev.raiseSuspect d src l).cad.clock = d.cad.clock := by
  unfold Dev.raiseSuspect
  first
    | (simp [ite_clock, when_clock]; done)
    | ((try simp only []); repeat' first
        | (simp [ite_clock, when_clock]; done) | split | intro _
        | (with_reducible refine (foldl_clock ?_ _ _).trans ?_) | (with_reducible refine (pfoldl_clock ?_ _ _).trans ?_)
        | (with_reducible refine (when_clock ?_).trans ?_) | simp [ite_clock, when_clock] | (with_reducible rfl) | rfl)
@[simp] theorem Dev.probeUpd_clock (d : Dev) (i : Nat) (f : Probe → Probe) : (Dev.probeUpd d i f).cad.clock = d.cad.clock := by
  unfold Dev.probeUpd
  first
    | (simp [ite_clock, when_clock]; done)
    | ((try simp only []); repeat' first
        | (simp [ite_clock, when_clock]; done) | split | intro _
        | (with_reducible refine (foldl_clock ?_ _ _).trans ?_) | (with_reducible refine (pfoldl_clock ?_ _ _).trans ?_)
        | (with_reducible refine (when_clock ?_).trans ?_) | simp [ite_clock, when_clock] | (with_reducible rfl) | rfl)
@[simp] theorem Dev.showDelay_clock (d : Dev) (i : Nat) : (Dev.showDelay d i).cad.clock = d.cad.clock := by
  unfold Dev.showDelay
  first
    | (simp [ite_clock, when_clock]; done)
    | ((try simp only []); repeat' first
        | (simp [ite_clock, when_clock]; done) | split | intro _
        | (with_reducible refine (foldl_clock ?_ _ _).trans ?_) | (with_reducible refine (pfoldl_clock ?_ _ _).trans ?_)
        | (with_reducible refine (when_clock ?_).trans ?_) | simp [ite_clock, when_clock] | (with_reducible rfl) | rfl)
@[simp] theorem Dev.probeReset_clock (d : Dev) (i : Nat) : (Dev.probeReset d i).cad.clock = d.cad.clock := by
  unfold Dev.probeReset
  first
    | (simp [ite_clock, when_clock]; done)
    | ((try simp only []); repeat' first
        | (simp [ite_clock, when_clock]; done) | split | intro _
        | (with_reducible refine (foldl_clock ?_ _ _).trans ?_) | (with_reducible refine (pfoldl_clock ?_ _ _).trans ?_)
        | (with_reducible refine (when_clock ?_).trans ?_) | simp [ite_clock, when_clock] | (with_reducible rfl) | rfl)
@[simp] theorem Dev.lineError_clock (d : Dev) (i : Nat) : (Dev.lineError d i).cad.clock = d.cad.clock := by
  unfold Dev.lineError
  first
    | (simp [ite_clock, when_clock]; done)
    | ((try simp only []); repeat' first
        | (simp [ite_clock, when_clock]; done) | split | intro _
        | (with_reducible refine (foldl_clock ?_ _ _).trans ?_) | (with_reducible refine (pfoldl_clock ?_ _ _).trans ?_)
        | (with_reducible refine (when_clock ?_).trans ?_) | simp [ite_clock, when_clock] | (with_reducible rfl) | rfl)
@[simp] theorem Dev.heard_clock (d : Dev) (i : Nat) (line : Line) : (Dev.heard d i line).cad.clock = d.cad.clock := by
  unfold Dev.heard
  first
    | (simp [ite_clock, when_clock]; done)
    | ((try simp only []); repeat' first
        | (simp [ite_clock, when_clock]; done) | split | intro _
        | (with_reducible refine (foldl_clock ?_ _ _).trans ?_) | (with_reducible refine (pfoldl_clock ?_ _ _).trans ?_)
        | (with_reducible refine (when_clock ?_).trans ?_) | simp [ite_clock, when_clock] | (with_reducible rfl) | rfl)
@[simp] theorem Dev.other_clock (d : Dev) (i : Nat) (line : Line) : (Dev.other d i line).cad.clock = d.cad.clock := by
  unfold Dev.other
  first
    | (simp [ite_clock, when_clock]; done)
    | ((try simp only []); repeat' first
        | (simp [ite_clock, when_clock]; done) | split | intro _
        | (with_reducible refine (foldl_clock ?_ _ _).trans ?_) | (with_reducible refine (pfoldl_clock ?_ _ _).trans ?_)
        | (with_reducible refine (when_clock ?_).trans ?_) | simp [ite_clock, when_clock] | (with_reducible rfl) | rfl)
@[simp] theorem Dev.probeTick_clock (d : Dev) : (Dev.probeTick d).cad.clock = d.cad.clock := by
  unfold Dev.probeTick
  first
    | (simp [ite_clock, when_clock]; done)
    | ((try simp only []); repeat' first
        | (simp [ite_clock, when_clock]; done) | split | intro _
        | (with_reducible refine (foldl_clock ?_ _ _).trans ?_) | (with_reducible refine (pfoldl_clock ?_ _ _).trans ?_)
        | (with_reducible refine (when_clock ?_).trans ?_) | simp [ite_clock, when_clock] | (with_reducible rfl) | rfl)
@[simp] theorem Dev.slotUpd_clock (d : Dev) (s : Nat) (f : Slot → Slot) : (Dev.slotUpd d s f).cad.clock = d.cad.clock := by
  unfold Dev.slotUpd
  first
    | (simp [ite_clock, when_clock]; done)
    | ((try simp only []); repeat' first
        | (simp [ite_clock, when_clock]; done) | split | intro _
        | (with_reducible refine (foldl_clock ?_ _ _).trans ?_) | (with_reducible refine (pfoldl_clock ?_ _ _).trans ?_)
        | (with_reducible refine (when_clock ?_).trans ?_) | simp [ite_clock, when_clock] | (with_reducible rfl) | rfl)
@[simp] theorem Dev.clUpd_clock (d : Dev) (l : Nat) (f : ConvLane → ConvLane) : (Dev.clUpd d l f).cad.clock = d.cad.clock := by
  unfold Dev.clUpd
  first
    | (simp [ite_clock, when_clock]; done)
    | ((try simp only []); repeat' first
        | (simp [ite_clock, when_clock]; done) | split | intro _
        | (with_reducible refine (foldl_clock ?_ _ _).trans ?_) | (with_reducible refine (pfoldl_clock ?_ _ _).trans ?_)
        | (with_reducible refine (when_clock ?_).trans ?_) | simp [ite_clock, when_clock] | (with_reducible rfl) | rfl)
@[simp] theorem Dev.setQueue_clock (d : Dev) (l : Nat) (q : List Nat) : (Dev.setQueue d l q).cad.clock = d.cad.clock := by
  unfold Dev.setQueue
  first
    | (simp [ite_clock, when_clock]; done)
    | ((try simp only []); repeat' first
        | (simp [ite_clock, when_clock]; done) | split | intro _
        | (with_reducible refine (foldl_clock ?_ _ _).trans ?_) | (with_reducible refine (pfoldl_clock ?_ _ _).trans ?_)
        | (with_reducible refine (when_clock ?_).trans ?_) | simp [ite_clock, when_clock] | (with_reducible rfl) | rfl)
@[simp] theorem Dev.openIn_clock (d : Dev) (owner l k a0 a1 timeout : Nat) (param data : List Byte) :
    (Dev.openIn d owner l k a0 a1 timeout param data).2.cad.clock = d.cad.clock := by
  unfold Dev.openIn
  first
    | (simp [ite_clock, when_clock]; done)
    | ((try simp only []); repeat' first
        | (simp [ite_clock, when_clock]; done) | split | intro _
        | (with_reducible refine (foldl_clock ?_ _ _).trans ?_) | (with_reducible refine (pfoldl_clock ?_ _ _).trans ?_)
        | (with_reducible refine (when_clock ?_).trans ?_) | simp [ite_clock, when_clock] | (with_reducible rfl) | rfl)
@[simp] theorem Dev.slotFree_clock (d : Dev) (s : Nat) : (Dev.slotFree d s).cad.clock = d.cad.clock := by
  unfold Dev.slotFree
  first
    | (simp [ite_clock, when_clock]; done)
    | ((try simp only []); repeat' first
        | (simp [ite_clock, when_clock]; done) | split | intro _
        | (with_reducible refine (foldl_clock ?_ _ _).trans ?_) | (with_reducible refine (pfoldl_clock ?_ _ _).trans ?_)
        | (with_reducible refine (when_clock ?_).trans ?_) | simp [ite_clock, when_clock] | (with_reducible rfl) | rfl)
@[simp] theorem Dev.setDisc_clock (d : Dev) (l v : Nat) : (Dev.setDisc d l v).cad.clock = d.cad.clock := by
  unfold Dev.setDisc
  first
    | (simp [ite_clock, when_clock]; done)
    | ((try simp only []); repeat' first
        | (simp [ite_clock, when_clock]; done) | split | intro _
        | (with_reducible refine (foldl_clock ?_ _ _).trans ?_) | (with_reducible refine (pfoldl_clock ?_ _ _).trans ?_)
        | (with_reducible refine (when_clock ?_).trans ?_) | simp [ite_clock, when_clock] | (with_reducible rfl) | rfl)
@[simp] theorem Dev.coastWrite_clock (d : Dev) (l : Nat) : (Dev.coastWrite d l).cad.clock = d.cad.clock := by
  unfold Dev.coastWrite
  first
    | (simp [ite_clock, when_clock]; done)
    | ((try simp only []); repeat' first
        | (simp [ite_clock, when_clock]; done) | split | intro _
        | (with_reducible refine (foldl_clock ?_ _ _).trans ?_) | (with_reducible refine (pfoldl_clock ?_ _ _).trans ?_)
        | (with_reducible refine (when_clock ?_).trans ?_) | simp [ite_clock, when_clock] | (with_reducible rfl) | rfl)
@[simp] theorem Dev.showDead_clock (d : Dev) (l : Nat) : (Dev.showDead d l).cad.clock = d.cad.clock := by
  unfold Dev.showDead
  first
    | (simp [ite_clock, when_clock]; done)
    | ((try simp only []); repeat' first
        | (simp [ite_clock, when_clock]; done) | split | intro _
        | (with_reducible refine (foldl_clock ?_ _ _).trans ?_) | (with_reducible refine (pfoldl_clock ?_ _ _).trans ?_)
        | (with_reducible refine (when_clock ?_).trans ?_) | simp [ite_clock, when_clock] | (with_reducible rfl) | rfl)
@[simp] theorem Dev.discEnd_clock (d : Dev) (l owner res : Nat) (data : List Byte) :
    (Dev.discEnd d l owner res data).cad.clock = d.cad.clock := by
  unfold Dev.discEnd
  first
    | (simp [ite_clock, when_clock]; done)
    | ((try simp only []); repeat' first
        | (simp [ite_clock, when_clock]; done) | split | intro _
        | (with_reducible refine (foldl_clock ?_ _ _).trans ?_) | (with_reducible refine (pfoldl_clock ?_ _ _).trans ?_)
        | (with_reducible refine (when_clock ?_).trans ?_) | simp [ite_clock, when_clock] | (with_reducible rfl) | rfl)
@[simp] theorem Dev.convEnd_clock (d : Dev) (s res : Nat) : (Dev.convEnd d s res).cad.clock = d.cad.clock := by
  unfold Dev.convEnd
  first
    | (simp [ite_clock, when_clock]; done)
    | ((try simp only []); repeat' first
        | (simp [ite_clock, when_clock]; done) | split | intro _
        | (with_reducible refine (foldl_clock ?_ _ _).trans ?_) | (with_reducible refine (pfoldl_clock ?_ _ _).trans ?_)
        | (with_reducible refine (when_clock ?_).trans ?_) | simp [ite_clock, when_clock] | (with_reducible rfl) | rfl)
@[simp] theorem Dev.endLane_clock (d : Dev) (l res : Nat) : (Dev.endLane d l res).cad.clock = d.cad.clock := by
  unfold Dev.endLane
  first
    | (simp [ite_clock, when_clock]; done)
    | ((try simp only []); repeat' first
        | (simp [ite_clock, when_clock]; done) | split | intro _
        | (with_reducible refine (foldl_clock ?_ _ _).trans ?_) | (with_reducible refine (pfoldl_clock ?_ _ _).trans ?_)
        | (with_reducible refine (when_clock ?_).trans ?_) | simp [ite_clock, when_clock] | (with_reducible rfl) | rfl)
@[simp] theorem Dev.endAllLanes_clock (d : Dev) (res : Nat) : (Dev.endAllLanes d res).cad.clock = d.cad.clock := by
  unfold Dev.endAllLanes
  first
    | (simp [ite_clock, when_clock]; done)
    | ((try simp only []); repeat' first
        | (simp [ite_clock, when_clock]; done) | split | intro _
        | (with_reducible refine (foldl_clock ?_ _ _).trans ?_) | (with_reducible refine (pfoldl_clock ?_ _ _).trans ?_)
        | (with_reducible refine (when_clock ?_).trans ?_) | simp [ite_clock, when_clock] | (with_reducible rfl) | rfl)
@[simp] theorem Dev.convTick_clock (d : Dev) : (Dev.convTick d).cad.clock = d.cad.clock := by
  unfold Dev.convTick
  first
    | (simp [ite_clock, when_clock]; done)
    | ((try simp only []); repeat' first
        | (simp [ite_clock, when_clock]; done) | split | intro _
        | (with_reducible refine (foldl_clock ?_ _ _).trans ?_) | (with_reducible refine (pfoldl_clock ?_ _ _).trans ?_)
        | (with_reducible refine (when_clock ?_).trans ?_) | simp [ite_clock, when_clock] | (with_reducible rfl) | rfl)
@[simp] theorem Dev.svcStandDown_clock (d : Dev) : (Dev.svcStandDown d).cad.clock = d.cad.clock := by
  unfold Dev.svcStandDown
  first
    | (simp [ite_clock, when_clock]; done)
    | ((try simp only []); repeat' first
        | (simp [ite_clock, when_clock]; done) | split | intro _
        | (with_reducible refine (foldl_clock ?_ _ _).trans ?_) | (with_reducible refine (pfoldl_clock ?_ _ _).trans ?_)
        | (with_reducible refine (when_clock ?_).trans ?_) | simp [ite_clock, when_clock] | (with_reducible rfl) | rfl)
@[simp] theorem Dev.sendNotices_clock (d : Dev) (claim : Nat) : (Dev.sendNotices d claim).cad.clock = d.cad.clock := by
  unfold Dev.sendNotices
  first
    | (simp [ite_clock, when_clock]; done)
    | ((try simp only []); repeat' first
        | (simp [ite_clock, when_clock]; done) | split | intro _
        | (with_reducible refine (foldl_clock ?_ _ _).trans ?_) | (with_reducible refine (pfoldl_clock ?_ _ _).trans ?_)
        | (with_reducible refine (when_clock ?_).trans ?_) | simp [ite_clock, when_clock] | (with_reducible rfl) | rfl)
@[simp] theorem Dev.engStandDown_clock (d : Dev) : (Dev.engStandDown d).cad.clock = d.cad.clock := by
  unfold Dev.engStandDown
  first
    | (simp [ite_clock, when_clock]; done)
    | ((try simp only []); repeat' first
        | (simp [ite_clock, when_clock]; done) | split | intro _
        | (with_reducible refine (foldl_clock ?_ _ _).trans ?_) | (with_reducible refine (pfoldl_clock ?_ _ _).trans ?_)
        | (with_reducible refine (when_clock ?_).trans ?_) | simp [ite_clock, when_clock] | (with_reducible rfl) | rfl)
@[simp] theorem Dev.relinquish_clock (cause : Nat) (d : Dev) : (Dev.relinquish cause d).cad.clock = d.cad.clock := by
  unfold Dev.relinquish
  first
    | (simp [ite_clock, when_clock]; done)
    | ((try simp only []); repeat' first
        | (simp [ite_clock, when_clock]; done) | split | intro _
        | (with_reducible refine (foldl_clock ?_ _ _).trans ?_) | (with_reducible refine (pfoldl_clock ?_ _ _).trans ?_)
        | (with_reducible refine (when_clock ?_).trans ?_) | simp [ite_clock, when_clock] | (with_reducible rfl) | rfl)
@[simp] theorem Dev.showPort_clock (d : Dev) (l : Nat) : (Dev.showPort d l).cad.clock = d.cad.clock := by
  unfold Dev.showPort
  first
    | (simp [ite_clock, when_clock]; done)
    | ((try simp only []); repeat' first
        | (simp [ite_clock, when_clock]; done) | split | intro _
        | (with_reducible refine (foldl_clock ?_ _ _).trans ?_) | (with_reducible refine (pfoldl_clock ?_ _ _).trans ?_)
        | (with_reducible refine (when_clock ?_).trans ?_) | simp [ite_clock, when_clock] | (with_reducible rfl) | rfl)
@[simp] theorem Dev.showLane_clock (d : Dev) (l : Nat) : (Dev.showLane d l).cad.clock = d.cad.clock := by
  unfold Dev.showLane
  first
    | (simp [ite_clock, when_clock]; done)
    | ((try simp only []); repeat' first
        | (simp [ite_clock, when_clock]; done) | split | intro _
        | (with_reducible refine (foldl_clock ?_ _ _).trans ?_) | (with_reducible refine (pfoldl_clock ?_ _ _).trans ?_)
        | (with_reducible refine (when_clock ?_).trans ?_) | simp [ite_clock, when_clock] | (with_reducible rfl) | rfl)
@[simp] theorem Dev.injected_clock (d : Dev) (ch level : Nat) (code : Int) : (Dev.injected d ch level code).cad.clock = d.cad.clock := by
  unfold Dev.injected
  first
    | (simp [ite_clock, when_clock]; done)
    | ((try simp only []); repeat' first
        | (simp [ite_clock, when_clock]; done) | split | intro _
        | (with_reducible refine (foldl_clock ?_ _ _).trans ?_) | (with_reducible refine (pfoldl_clock ?_ _ _).trans ?_)
        | (with_reducible refine (when_clock ?_).trans ?_) | simp [ite_clock, when_clock] | (with_reducible rfl) | rfl)
@[simp] theorem Dev.testWindow_clock (d : Dev) (codes : List (List Int)) (k : Nat) :
    (Dev.testWindow d codes k).2.cad.clock = d.cad.clock := by
  unfold Dev.testWindow
  first
    | (simp [ite_clock, when_clock]; done)
    | ((try simp only []); repeat' first
        | (simp [ite_clock, when_clock]; done) | split | intro _
        | (with_reducible refine (foldl_clock ?_ _ _).trans ?_) | (with_reducible refine (pfoldl_clock ?_ _ _).trans ?_)
        | (with_reducible refine (when_clock ?_).trans ?_) | simp [ite_clock, when_clock] | (with_reducible rfl) | rfl)
@[simp] theorem Dev.fsChannel_clock (d : Dev) (k : Nat) (raw del : List (List Int)) (inj : List (Nat × Nat)) :
    (Dev.fsChannel d k raw del inj).cad.clock = d.cad.clock := by
  unfold Dev.fsChannel
  first
    | (simp [ite_clock, when_clock]; done)
    | ((try simp only []); repeat' first
        | (simp [ite_clock, when_clock]; done) | split | intro _
        | (with_reducible refine (foldl_clock ?_ _ _).trans ?_) | (with_reducible refine (pfoldl_clock ?_ _ _).trans ?_)
        | (with_reducible refine (when_clock ?_).trans ?_) | simp [ite_clock, when_clock] | (with_reducible rfl) | rfl)
@[simp] theorem Dev.capSample_clock (d : Dev) (at_ : Nat × Nat) (row : List Int) : (Dev.capSample d at_ row).cad.clock = d.cad.clock := by
  unfold Dev.capSample
  first
    | (simp [ite_clock, when_clock]; done)
    | ((try simp only []); repeat' first
        | (simp [ite_clock, when_clock]; done) | split | intro _
        | (with_reducible refine (foldl_clock ?_ _ _).trans ?_) | (with_reducible refine (pfoldl_clock ?_ _ _).trans ?_)
        | (with_reducible refine (when_clock ?_).trans ?_) | simp [ite_clock, when_clock] | (with_reducible rfl) | rfl)
@[simp] theorem Dev.capWindow_clock (d : Dev) (frame : Nat) (rows : List (List Int)) :
    (Dev.capWindow d frame rows).cad.clock = d.cad.clock := by
  unfold Dev.capWindow
  first
    | (simp [ite_clock, when_clock]; done)
    | ((try simp only []); repeat' first
        | (simp [ite_clock, when_clock]; done) | split | intro _
        | (with_reducible refine (foldl_clock ?_ _ _).trans ?_) | (with_reducible refine (pfoldl_clock ?_ _ _).trans ?_)
        | (with_reducible refine (when_clock ?_).trans ?_) | simp [ite_clock, when_clock] | (with_reducible rfl) | rfl)
@[simp] theorem Dev.fsTick_clock (frame : Nat) (codes : List (List Int)) (d : Dev) :
    (Dev.fsTick frame codes d).cad.clock = d.cad.clock := by
  unfold Dev.fsTick
  first
    | (simp [ite_clock, when_clock]; done)
    | ((try simp only []); repeat' first
        | (simp [ite_clock, when_clock]; done) | split | intro _
        | (with_reducible refine (foldl_clock ?_ _ _).trans ?_) | (with_reducible refine (pfoldl_clock ?_ _ _).trans ?_)
        | (with_reducible refine (when_clock ?_).trans ?_) | simp [ite_clock, when_clock] | (with_reducible rfl) | rfl)
@[simp] theorem Dev.fsRest_clock (d : Dev) : (Dev.fsRest d).cad.clock = d.cad.clock := by
  unfold Dev.fsRest
  first
    | (simp [ite_clock, when_clock]; done)
    | ((try simp only []); repeat' first
        | (simp [ite_clock, when_clock]; done) | split | intro _
        | (with_reducible refine (foldl_clock ?_ _ _).trans ?_) | (with_reducible refine (pfoldl_clock ?_ _ _).trans ?_)
        | (with_reducible refine (when_clock ?_).trans ?_) | simp [ite_clock, when_clock] | (with_reducible rfl) | rfl)
@[simp] theorem Dev.metUpd_clock (d : Dev) (c : Nat) (f : MetConv → MetConv) : (Dev.metUpd d c f).cad.clock = d.cad.clock := by
  unfold Dev.metUpd
  first
    | (simp [ite_clock, when_clock]; done)
    | ((try simp only []); repeat' first
        | (simp [ite_clock, when_clock]; done) | split | intro _
        | (with_reducible refine (foldl_clock ?_ _ _).trans ?_) | (with_reducible refine (pfoldl_clock ?_ _ _).trans ?_)
        | (with_reducible refine (when_clock ?_).trans ?_) | simp [ite_clock, when_clock] | (with_reducible rfl) | rfl)
@[simp] theorem Dev.metEdge_clock (d : Dev) (refsel t : Nat) : (Dev.metEdge d refsel t).cad.clock = d.cad.clock := by
  unfold Dev.metEdge
  first
    | (simp [ite_clock, when_clock]; done)
    | ((try simp only []); repeat' first
        | (simp [ite_clock, when_clock]; done) | split | intro _
        | (with_reducible refine (foldl_clock ?_ _ _).trans ?_) | (with_reducible refine (pfoldl_clock ?_ _ _).trans ?_)
        | (with_reducible refine (when_clock ?_).trans ?_) | simp [ite_clock, when_clock] | (with_reducible rfl) | rfl)
@[simp] theorem Dev.mfTick_clock (d : Dev) : (Dev.mfTick d).cad.clock = d.cad.clock := by
  unfold Dev.mfTick
  first
    | (simp [ite_clock, when_clock]; done)
    | ((try simp only []); repeat' first
        | (simp [ite_clock, when_clock]; done) | split | intro _
        | (with_reducible refine (foldl_clock ?_ _ _).trans ?_) | (with_reducible refine (pfoldl_clock ?_ _ _).trans ?_)
        | (with_reducible refine (when_clock ?_).trans ?_) | simp [ite_clock, when_clock] | (with_reducible rfl) | rfl)
@[simp] theorem Dev.louvreTick_clock (d : Dev) : (Dev.louvreTick d).cad.clock = d.cad.clock := by
  unfold Dev.louvreTick
  first
    | (simp [ite_clock, when_clock]; done)
    | ((try simp only []); repeat' first
        | (simp [ite_clock, when_clock]; done) | split | intro _
        | (with_reducible refine (foldl_clock ?_ _ _).trans ?_) | (with_reducible refine (pfoldl_clock ?_ _ _).trans ?_)
        | (with_reducible refine (when_clock ?_).trans ?_) | simp [ite_clock, when_clock] | (with_reducible rfl) | rfl)
@[simp] theorem Dev.spanQueue_clock (d : Dev) (i : Nat) (c : Nat) (o : Out) : (Dev.spanQueue d i c o).cad.clock = d.cad.clock := by
  unfold Dev.spanQueue
  first
    | (simp [ite_clock, when_clock]; done)
    | ((try simp only []); repeat' first
        | (simp [ite_clock, when_clock]; done) | split | intro _
        | (with_reducible refine (foldl_clock ?_ _ _).trans ?_) | (with_reducible refine (pfoldl_clock ?_ _ _).trans ?_)
        | (with_reducible refine (when_clock ?_).trans ?_) | simp [ite_clock, when_clock] | (with_reducible rfl) | rfl)
@[simp] theorem Dev.spanWait_clock (d : Dev) (b : Nat) (o : Out) : (Dev.spanWait d b o).cad.clock = d.cad.clock := by
  unfold Dev.spanWait
  first
    | (simp [ite_clock, when_clock]; done)
    | ((try simp only []); repeat' first
        | (simp [ite_clock, when_clock]; done) | split | intro _
        | (with_reducible refine (foldl_clock ?_ _ _).trans ?_) | (with_reducible refine (pfoldl_clock ?_ _ _).trans ?_)
        | (with_reducible refine (when_clock ?_).trans ?_) | simp [ite_clock, when_clock] | (with_reducible rfl) | rfl)
@[simp] theorem Dev.spanSend_clock (d : Dev) (o : Out) : (Dev.spanSend d o).cad.clock = d.cad.clock := by
  unfold Dev.spanSend
  first
    | (simp [ite_clock, when_clock]; done)
    | ((try simp only []); repeat' first
        | (simp [ite_clock, when_clock]; done) | split | intro _
        | (with_reducible refine (foldl_clock ?_ _ _).trans ?_) | (with_reducible refine (pfoldl_clock ?_ _ _).trans ?_)
        | (with_reducible refine (when_clock ?_).trans ?_) | simp [ite_clock, when_clock] | (with_reducible rfl) | rfl)
@[simp] theorem Dev.spanDrain_clock (d : Dev) (b : Nat) : (Dev.spanDrain d b).cad.clock = d.cad.clock := by
  unfold Dev.spanDrain
  first
    | (simp [ite_clock, when_clock]; done)
    | ((try simp only []); repeat' first
        | (simp [ite_clock, when_clock]; done) | split | intro _
        | (with_reducible refine (foldl_clock ?_ _ _).trans ?_) | (with_reducible refine (pfoldl_clock ?_ _ _).trans ?_)
        | (with_reducible refine (when_clock ?_).trans ?_) | simp [ite_clock, when_clock] | (with_reducible rfl) | rfl)
@[simp] theorem Dev.ceTick_clock (d : Dev) : (Dev.ceTick d).cad.clock = d.cad.clock := by
  unfold Dev.ceTick
  first
    | (simp [ite_clock, when_clock]; done)
    | ((try simp only []); repeat' first
        | (simp [ite_clock, when_clock]; done) | split | intro _
        | (with_reducible refine (foldl_clock ?_ _ _).trans ?_) | (with_reducible refine (pfoldl_clock ?_ _ _).trans ?_)
        | (with_reducible refine (when_clock ?_).trans ?_) | simp [ite_clock, when_clock] | (with_reducible rfl) | rfl)
@[simp] theorem Dev.takeSpanShutter_clock (d : Dev) (i : Nat) (content : List Byte) :
    (Dev.takeSpanShutter d i content).cad.clock = d.cad.clock := by
  unfold Dev.takeSpanShutter
  first
    | (simp [ite_clock, when_clock]; done)
    | ((try simp only []); repeat' first
        | (simp [ite_clock, when_clock]; done) | split | intro _
        | (with_reducible refine (foldl_clock ?_ _ _).trans ?_) | (with_reducible refine (pfoldl_clock ?_ _ _).trans ?_)
        | (with_reducible refine (when_clock ?_).trans ?_) | simp [ite_clock, when_clock] | (with_reducible rfl) | rfl)
@[simp] theorem Dev.spanShutter_clock (i : Nat) (line : Line) (d : Dev) : (Dev.spanShutter i line d).cad.clock = d.cad.clock := by
  unfold Dev.spanShutter
  first
    | (simp [ite_clock, when_clock]; done)
    | ((try simp only []); repeat' first
        | (simp [ite_clock, when_clock]; done) | split | intro _
        | (with_reducible refine (foldl_clock ?_ _ _).trans ?_) | (with_reducible refine (pfoldl_clock ?_ _ _).trans ?_)
        | (with_reducible refine (when_clock ?_).trans ?_) | simp [ite_clock, when_clock] | (with_reducible rfl) | rfl)
@[simp] theorem Dev.laneTrainUpd_clock (d : Dev) (i : Nat) (f : LaneTrain → LaneTrain) :
    (Dev.laneTrainUpd d i f).cad.clock = d.cad.clock := by
  unfold Dev.laneTrainUpd
  first
    | (simp [ite_clock, when_clock]; done)
    | ((try simp only []); repeat' first
        | (simp [ite_clock, when_clock]; done) | split | intro _
        | (with_reducible refine (foldl_clock ?_ _ _).trans ?_) | (with_reducible refine (pfoldl_clock ?_ _ _).trans ?_)
        | (with_reducible refine (when_clock ?_).trans ?_) | simp [ite_clock, when_clock] | (with_reducible rfl) | rfl)
@[simp] theorem Dev.ulDrain_clock (d : Dev) (i : Nat) : (Dev.ulDrain d i).cad.clock = d.cad.clock := by
  unfold Dev.ulDrain
  first
    | (simp [ite_clock, when_clock]; done)
    | ((try simp only []); repeat' first
        | (simp [ite_clock, when_clock]; done) | split | intro _
        | (with_reducible refine (foldl_clock ?_ _ _).trans ?_) | (with_reducible refine (pfoldl_clock ?_ _ _).trans ?_)
        | (with_reducible refine (when_clock ?_).trans ?_) | simp [ite_clock, when_clock] | (with_reducible rfl) | rfl)
@[simp] theorem Dev.ulQueue_clock (d : Dev) (i ty : Nat) (words : List Nat) : (Dev.ulQueue d i ty words).cad.clock = d.cad.clock := by
  unfold Dev.ulQueue
  first
    | (simp [ite_clock, when_clock]; done)
    | ((try simp only []); repeat' first
        | (simp [ite_clock, when_clock]; done) | split | intro _
        | (with_reducible refine (foldl_clock ?_ _ _).trans ?_) | (with_reducible refine (pfoldl_clock ?_ _ _).trans ?_)
        | (with_reducible refine (when_clock ?_).trans ?_) | simp [ite_clock, when_clock] | (with_reducible rfl) | rfl)
@[simp] theorem Dev.uplink_clock (d : Dev) (ty : Nat) (words : List Nat) : (Dev.uplink d ty words).cad.clock = d.cad.clock := by
  unfold Dev.uplink
  first
    | (simp [ite_clock, when_clock]; done)
    | ((try simp only []); repeat' first
        | (simp [ite_clock, when_clock]; done) | split | intro _
        | (with_reducible refine (foldl_clock ?_ _ _).trans ?_) | (with_reducible refine (pfoldl_clock ?_ _ _).trans ?_)
        | (with_reducible refine (when_clock ?_).trans ?_) | simp [ite_clock, when_clock] | (with_reducible rfl) | rfl)
@[simp] theorem Dev.showSpan_clock (d : Dev) : (Dev.showSpan d).cad.clock = d.cad.clock := by
  unfold Dev.showSpan
  first
    | (simp [ite_clock, when_clock]; done)
    | ((try simp only []); repeat' first
        | (simp [ite_clock, when_clock]; done) | split | intro _
        | (with_reducible refine (foldl_clock ?_ _ _).trans ?_) | (with_reducible refine (pfoldl_clock ?_ _ _).trans ?_)
        | (with_reducible refine (when_clock ?_).trans ?_) | simp [ite_clock, when_clock] | (with_reducible rfl) | rfl)
@[simp] theorem Dev.laneLeft_clock (d : Dev) (i : Nat) : (Dev.laneLeft d i).cad.clock = d.cad.clock := by
  unfold Dev.laneLeft
  first
    | (simp [ite_clock, when_clock]; done)
    | ((try simp only []); repeat' first
        | (simp [ite_clock, when_clock]; done) | split | intro _
        | (with_reducible refine (foldl_clock ?_ _ _).trans ?_) | (with_reducible refine (pfoldl_clock ?_ _ _).trans ?_)
        | (with_reducible refine (when_clock ?_).trans ?_) | simp [ite_clock, when_clock] | (with_reducible rfl) | rfl)
@[simp] theorem Dev.laneReached_clock (d : Dev) (i : Nat) : (Dev.laneReached d i).cad.clock = d.cad.clock := by
  unfold Dev.laneReached
  first
    | (simp [ite_clock, when_clock]; done)
    | ((try simp only []); repeat' first
        | (simp [ite_clock, when_clock]; done) | split | intro _
        | (with_reducible refine (foldl_clock ?_ _ _).trans ?_) | (with_reducible refine (pfoldl_clock ?_ _ _).trans ?_)
        | (with_reducible refine (when_clock ?_).trans ?_) | simp [ite_clock, when_clock] | (with_reducible rfl) | rfl)
@[simp] theorem Dev.attempt_clock (d : Dev) (i st : Nat) : (Dev.attempt d i st).cad.clock = d.cad.clock := by
  unfold Dev.attempt
  first
    | (simp [ite_clock, when_clock]; done)
    | ((try simp only []); repeat' first
        | (simp [ite_clock, when_clock]; done) | split | intro _
        | (with_reducible refine (foldl_clock ?_ _ _).trans ?_) | (with_reducible refine (pfoldl_clock ?_ _ _).trans ?_)
        | (with_reducible refine (when_clock ?_).trans ?_) | simp [ite_clock, when_clock] | (with_reducible rfl) | rfl)
@[simp] theorem Dev.laneTo_clock (d : Dev) (i st : Nat) : (Dev.laneTo d i st).cad.clock = d.cad.clock := by
  unfold Dev.laneTo
  first
    | (simp [ite_clock, when_clock]; done)
    | ((try simp only []); repeat' first
        | (simp [ite_clock, when_clock]; done) | split | intro _
        | (with_reducible refine (foldl_clock ?_ _ _).trans ?_) | (with_reducible refine (pfoldl_clock ?_ _ _).trans ?_)
        | (with_reducible refine (when_clock ?_).trans ?_) | simp [ite_clock, when_clock] | (with_reducible rfl) | rfl)
@[simp] theorem Dev.miswire_clock (d : Dev) (i : Nat) : (Dev.miswire d i).cad.clock = d.cad.clock := by
  unfold Dev.miswire
  first
    | (simp [ite_clock, when_clock]; done)
    | ((try simp only []); repeat' first
        | (simp [ite_clock, when_clock]; done) | split | intro _
        | (with_reducible refine (foldl_clock ?_ _ _).trans ?_) | (with_reducible refine (pfoldl_clock ?_ _ _).trans ?_)
        | (with_reducible refine (when_clock ?_).trans ?_) | simp [ite_clock, when_clock] | (with_reducible rfl) | rfl)
@[simp] theorem Dev.rateMismatch_clock (d : Dev) (i : Nat) : (Dev.rateMismatch d i).cad.clock = d.cad.clock := by
  unfold Dev.rateMismatch
  first
    | (simp [ite_clock, when_clock]; done)
    | ((try simp only []); repeat' first
        | (simp [ite_clock, when_clock]; done) | split | intro _
        | (with_reducible refine (foldl_clock ?_ _ _).trans ?_) | (with_reducible refine (pfoldl_clock ?_ _ _).trans ?_)
        | (with_reducible refine (when_clock ?_).trans ?_) | simp [ite_clock, when_clock] | (with_reducible rfl) | rfl)
@[simp] theorem Dev.trainCheck_clock (d : Dev) (i role lane rates : Nat) :
    (Dev.trainCheck d i role lane rates).cad.clock = d.cad.clock := by
  unfold Dev.trainCheck
  first
    | (simp [ite_clock, when_clock]; done)
    | ((try simp only []); repeat' first
        | (simp [ite_clock, when_clock]; done) | split | intro _
        | (with_reducible refine (foldl_clock ?_ _ _).trans ?_) | (with_reducible refine (pfoldl_clock ?_ _ _).trans ?_)
        | (with_reducible refine (when_clock ?_).trans ?_) | simp [ite_clock, when_clock] | (with_reducible rfl) | rfl)
@[simp] theorem Dev.takeTrain_clock (d : Dev) (i : Nat) (content : List Byte) (inverted : Bool) :
    (Dev.takeTrain d i content inverted).cad.clock = d.cad.clock := by
  unfold Dev.takeTrain
  first
    | (simp [ite_clock, when_clock]; done)
    | ((try simp only []); repeat' first
        | (simp [ite_clock, when_clock]; done) | split | intro _
        | (with_reducible refine (foldl_clock ?_ _ _).trans ?_) | (with_reducible refine (pfoldl_clock ?_ _ _).trans ?_)
        | (with_reducible refine (when_clock ?_).trans ?_) | simp [ite_clock, when_clock] | (with_reducible rfl) | rfl)
@[simp] theorem Dev.train_clock (i : Nat) (line : Line) (inverted : Bool) (d : Dev) :
    (Dev.train i line inverted d).cad.clock = d.cad.clock := by
  unfold Dev.train
  first
    | (simp [ite_clock, when_clock]; done)
    | ((try simp only []); repeat' first
        | (simp [ite_clock, when_clock]; done) | split | intro _
        | (with_reducible refine (foldl_clock ?_ _ _).trans ?_) | (with_reducible refine (pfoldl_clock ?_ _ _).trans ?_)
        | (with_reducible refine (when_clock ?_).trans ?_) | simp [ite_clock, when_clock] | (with_reducible rfl) | rfl)
@[simp] theorem Dev.engTick_clock (d : Dev) : (Dev.engTick d).cad.clock = d.cad.clock := by
  unfold Dev.engTick
  first
    | (simp [ite_clock, when_clock]; done)
    | ((try simp only []); repeat' first
        | (simp [ite_clock, when_clock]; done) | split | intro _
        | (with_reducible refine (foldl_clock ?_ _ _).trans ?_) | (with_reducible refine (pfoldl_clock ?_ _ _).trans ?_)
        | (with_reducible refine (when_clock ?_).trans ?_) | simp [ite_clock, when_clock] | (with_reducible rfl) | rfl)
@[simp] theorem Dev.avStage_clock (d : Dev) (g target : Nat) (set : SMap Nat) :
    (Dev.avStage d g target set).2.cad.clock = d.cad.clock := by
  unfold Dev.avStage
  first
    | (simp [ite_clock, when_clock]; done)
    | ((try simp only []); repeat' first
        | (simp [ite_clock, when_clock]; done) | split | intro _
        | (with_reducible refine (foldl_clock ?_ _ _).trans ?_) | (with_reducible refine (pfoldl_clock ?_ _ _).trans ?_)
        | (with_reducible refine (when_clock ?_).trans ?_) | simp [ite_clock, when_clock] | (with_reducible rfl) | rfl)
@[simp] theorem Dev.avSend_clock (d : Dev) : (Dev.avSend d).cad.clock = d.cad.clock := by
  unfold Dev.avSend
  first
    | (simp [ite_clock, when_clock]; done)
    | ((try simp only []); repeat' first
        | (simp [ite_clock, when_clock]; done) | split | intro _
        | (with_reducible refine (foldl_clock ?_ _ _).trans ?_) | (with_reducible refine (pfoldl_clock ?_ _ _).trans ?_)
        | (with_reducible refine (when_clock ?_).trans ?_) | simp [ite_clock, when_clock] | (with_reducible rfl) | rfl)
@[simp] theorem Dev.promote_clock (d : Dev) : (Dev.promote d).cad.clock = d.cad.clock := by
  unfold Dev.promote
  first
    | (simp [ite_clock, when_clock]; done)
    | ((try simp only []); repeat' first
        | (simp [ite_clock, when_clock]; done) | split | intro _
        | (with_reducible refine (foldl_clock ?_ _ _).trans ?_) | (with_reducible refine (pfoldl_clock ?_ _ _).trans ?_)
        | (with_reducible refine (when_clock ?_).trans ?_) | simp [ite_clock, when_clock] | (with_reducible rfl) | rfl)
@[simp] theorem Dev.suppTick_clock (d : Dev) : (Dev.suppTick d).cad.clock = d.cad.clock := by
  unfold Dev.suppTick
  first
    | (simp [ite_clock, when_clock]; done)
    | ((try simp only []); repeat' first
        | (simp [ite_clock, when_clock]; done) | split | intro _
        | (with_reducible refine (foldl_clock ?_ _ _).trans ?_) | (with_reducible refine (pfoldl_clock ?_ _ _).trans ?_)
        | (with_reducible refine (when_clock ?_).trans ?_) | simp [ite_clock, when_clock] | (with_reducible rfl) | rfl)
@[simp] theorem Dev.notTakenTick_clock (d : Dev) : (Dev.notTakenTick d).cad.clock = d.cad.clock := by
  unfold Dev.notTakenTick
  first
    | (simp [ite_clock, when_clock]; done)
    | ((try simp only []); repeat' first
        | (simp [ite_clock, when_clock]; done) | split | intro _
        | (with_reducible refine (foldl_clock ?_ _ _).trans ?_) | (with_reducible refine (pfoldl_clock ?_ _ _).trans ?_)
        | (with_reducible refine (when_clock ?_).trans ?_) | simp [ite_clock, when_clock] | (with_reducible rfl) | rfl)
@[simp] theorem Dev.safRaise_clock (d : Dev) (r : Raise) : (Dev.safRaise d r).cad.clock = d.cad.clock := by
  unfold Dev.safRaise
  first
    | (simp [ite_clock, when_clock]; done)
    | ((try simp only []); repeat' first
        | (simp [ite_clock, when_clock]; done) | split | intro _
        | (with_reducible refine (foldl_clock ?_ _ _).trans ?_) | (with_reducible refine (pfoldl_clock ?_ _ _).trans ?_)
        | (with_reducible refine (when_clock ?_).trans ?_) | simp [ite_clock, when_clock] | (with_reducible rfl) | rfl)
@[simp] theorem Dev.safOutputs_clock (d : Dev) : (Dev.safOutputs d).cad.clock = d.cad.clock := by
  unfold Dev.safOutputs
  first
    | (simp [ite_clock, when_clock]; done)
    | ((try simp only []); repeat' first
        | (simp [ite_clock, when_clock]; done) | split | intro _
        | (with_reducible refine (foldl_clock ?_ _ _).trans ?_) | (with_reducible refine (pfoldl_clock ?_ _ _).trans ?_)
        | (with_reducible refine (when_clock ?_).trans ?_) | simp [ite_clock, when_clock] | (with_reducible rfl) | rfl)
@[simp] theorem Dev.safGo_clock (d : Dev) (st : Nat) : (Dev.safGo d st).cad.clock = d.cad.clock := by
  unfold Dev.safGo
  first
    | (simp [ite_clock, when_clock]; done)
    | ((try simp only []); repeat' first
        | (simp [ite_clock, when_clock]; done) | split | intro _
        | (with_reducible refine (foldl_clock ?_ _ _).trans ?_) | (with_reducible refine (pfoldl_clock ?_ _ _).trans ?_)
        | (with_reducible refine (when_clock ?_).trans ?_) | simp [ite_clock, when_clock] | (with_reducible rfl) | rfl)
@[simp] theorem Dev.safFault_clock (code : Nat) (d : Dev) : (Dev.safFault code d).cad.clock = d.cad.clock := by
  unfold Dev.safFault
  first
    | (simp [ite_clock, when_clock]; done)
    | ((try simp only []); repeat' first
        | (simp [ite_clock, when_clock]; done) | split | intro _
        | (with_reducible refine (foldl_clock ?_ _ _).trans ?_) | (with_reducible refine (pfoldl_clock ?_ _ _).trans ?_)
        | (with_reducible refine (when_clock ?_).trans ?_) | simp [ite_clock, when_clock] | (with_reducible rfl) | rfl)
@[simp] theorem Dev.verdictOf_clock (d : Dev) (k : Nat) (bad : Bool) : (Dev.verdictOf d k bad).cad.clock = d.cad.clock := by
  unfold Dev.verdictOf
  first
    | (simp [ite_clock, when_clock]; done)
    | ((try simp only []); repeat' first
        | (simp [ite_clock, when_clock]; done) | split | intro _
        | (with_reducible refine (foldl_clock ?_ _ _).trans ?_) | (with_reducible refine (pfoldl_clock ?_ _ _).trans ?_)
        | (with_reducible refine (when_clock ?_).trans ?_) | simp [ite_clock, when_clock] | (with_reducible rfl) | rfl)
@[simp] theorem Dev.safChecks_clock (d : Dev) (ch m : Nat) : (Dev.safChecks d ch m).cad.clock = d.cad.clock := by
  unfold Dev.safChecks
  first
    | (simp [ite_clock, when_clock]; done)
    | ((try simp only []); repeat' first
        | (simp [ite_clock, when_clock]; done) | split | intro _
        | (with_reducible refine (foldl_clock ?_ _ _).trans ?_) | (with_reducible refine (pfoldl_clock ?_ _ _).trans ?_)
        | (with_reducible refine (when_clock ?_).trans ?_) | simp [ite_clock, when_clock] | (with_reducible rfl) | rfl)
@[simp] theorem Dev.safRestart_clock (d : Dev) : (Dev.safRestart d).cad.clock = d.cad.clock := by
  unfold Dev.safRestart
  first
    | (simp [ite_clock, when_clock]; done)
    | ((try simp only []); repeat' first
        | (simp [ite_clock, when_clock]; done) | split | intro _
        | (with_reducible refine (foldl_clock ?_ _ _).trans ?_) | (with_reducible refine (pfoldl_clock ?_ _ _).trans ?_)
        | (with_reducible refine (when_clock ?_).trans ?_) | simp [ite_clock, when_clock] | (with_reducible rfl) | rfl)
@[simp] theorem Dev.slvWindow_clock (d : Dev) : (Dev.slvWindow d).cad.clock = d.cad.clock := by
  unfold Dev.slvWindow
  first
    | (simp [ite_clock, when_clock]; done)
    | ((try simp only []); repeat' first
        | (simp [ite_clock, when_clock]; done) | split | intro _
        | (with_reducible refine (foldl_clock ?_ _ _).trans ?_) | (with_reducible refine (pfoldl_clock ?_ _ _).trans ?_)
        | (with_reducible refine (when_clock ?_).trans ?_) | simp [ite_clock, when_clock] | (with_reducible rfl) | rfl)
@[simp] theorem Dev.slrWindow_clock (d : Dev) : (Dev.slrWindow d).cad.clock = d.cad.clock := by
  unfold Dev.slrWindow
  first
    | (simp [ite_clock, when_clock]; done)
    | ((try simp only []); repeat' first
        | (simp [ite_clock, when_clock]; done) | split | intro _
        | (with_reducible refine (foldl_clock ?_ _ _).trans ?_) | (with_reducible refine (pfoldl_clock ?_ _ _).trans ?_)
        | (with_reducible refine (when_clock ?_).trans ?_) | simp [ite_clock, when_clock] | (with_reducible rfl) | rfl)
@[simp] theorem Dev.sldWindow_clock (d : Dev) : (Dev.sldWindow d).cad.clock = d.cad.clock := by
  unfold Dev.sldWindow
  first
    | (simp [ite_clock, when_clock]; done)
    | ((try simp only []); repeat' first
        | (simp [ite_clock, when_clock]; done) | split | intro _
        | (with_reducible refine (foldl_clock ?_ _ _).trans ?_) | (with_reducible refine (pfoldl_clock ?_ _ _).trans ?_)
        | (with_reducible refine (when_clock ?_).trans ?_) | simp [ite_clock, when_clock] | (with_reducible rfl) | rfl)
@[simp] theorem Dev.safWindow_clock (d : Dev) : (Dev.safWindow d).cad.clock = d.cad.clock := by
  unfold Dev.safWindow
  first
    | (simp [ite_clock, when_clock]; done)
    | ((try simp only []); repeat' first
        | (simp [ite_clock, when_clock]; done) | split | intro _
        | (with_reducible refine (foldl_clock ?_ _ _).trans ?_) | (with_reducible refine (pfoldl_clock ?_ _ _).trans ?_)
        | (with_reducible refine (when_clock ?_).trans ?_) | simp [ite_clock, when_clock] | (with_reducible rfl) | rfl)
@[simp] theorem Dev.safSend_clock (d : Dev) : (Dev.safSend d).cad.clock = d.cad.clock := by
  unfold Dev.safSend
  first
    | (simp [ite_clock, when_clock]; done)
    | ((try simp only []); repeat' first
        | (simp [ite_clock, when_clock]; done) | split | intro _
        | (with_reducible refine (foldl_clock ?_ _ _).trans ?_) | (with_reducible refine (pfoldl_clock ?_ _ _).trans ?_)
        | (with_reducible refine (when_clock ?_).trans ?_) | simp [ite_clock, when_clock] | (with_reducible rfl) | rfl)
@[simp] theorem Dev.safTick_clock (last : Nat) (d : Dev) : (Dev.safTick last d).cad.clock = d.cad.clock := by
  unfold Dev.safTick
  first
    | (simp [ite_clock, when_clock]; done)
    | ((try simp only []); repeat' first
        | (simp [ite_clock, when_clock]; done) | split | intro _
        | (with_reducible refine (foldl_clock ?_ _ _).trans ?_) | (with_reducible refine (pfoldl_clock ?_ _ _).trans ?_)
        | (with_reducible refine (when_clock ?_).trans ?_) | simp [ite_clock, when_clock] | (with_reducible rfl) | rfl)
@[simp] theorem Dev.portTick_clock (d : Dev) : (Dev.portTick d).cad.clock = d.cad.clock := by
  unfold Dev.portTick
  first
    | (simp [ite_clock, when_clock]; done)
    | ((try simp only []); repeat' first
        | (simp [ite_clock, when_clock]; done) | split | intro _
        | (with_reducible refine (foldl_clock ?_ _ _).trans ?_) | (with_reducible refine (pfoldl_clock ?_ _ _).trans ?_)
        | (with_reducible refine (when_clock ?_).trans ?_) | simp [ite_clock, when_clock] | (with_reducible rfl) | rfl)
@[simp] theorem Dev.legTick_clock (d : Dev) : (Dev.legTick d).cad.clock = d.cad.clock := by
  unfold Dev.legTick
  first
    | (simp [ite_clock, when_clock]; done)
    | ((try simp only []); repeat' first
        | (simp [ite_clock, when_clock]; done) | split | intro _
        | (with_reducible refine (foldl_clock ?_ _ _).trans ?_) | (with_reducible refine (pfoldl_clock ?_ _ _).trans ?_)
        | (with_reducible refine (when_clock ?_).trans ?_) | simp [ite_clock, when_clock] | (with_reducible rfl) | rfl)
@[simp] theorem Dev.redTick_clock (d : Dev) : (Dev.redTick d).cad.clock = d.cad.clock := by
  unfold Dev.redTick
  first
    | (simp [ite_clock, when_clock]; done)
    | ((try simp only []); repeat' first
        | (simp [ite_clock, when_clock]; done) | split | intro _
        | (with_reducible refine (foldl_clock ?_ _ _).trans ?_) | (with_reducible refine (pfoldl_clock ?_ _ _).trans ?_)
        | (with_reducible refine (when_clock ?_).trans ?_) | simp [ite_clock, when_clock] | (with_reducible rfl) | rfl)

end Sys2Proof.Machine
end

