-- ==== Sys2Proof/Laws/Otp.lean ====
section
/-! SUPPORT. Laws of the one-time-programmable memory (R482): programming only sets bits, in the words that it names; the lifecycle bits
depend on words 4 to 12 alone. -/
set_option Elab.async false
namespace Sys2Proof.Machine

theorem otpWord_otpSet (o : SMap Nat) (i v j : Nat) :
    otpWord (otpSet o i v) j = if j = i then otpWord o i ||| v % 2 ^ 32 else otpWord o j := by
  unfold otpWord otpSet; rw [mget_mset]

/-- Every bit set in `o` is set in `p`. -/
def otpLe (o p : SMap Nat) : Prop := ∀ i b, (otpWord o i).testBit b = true → (otpWord p i).testBit b = true

theorem otpLe_refl (o : SMap Nat) : otpLe o o := fun _ _ h => h
theorem otpLe_trans {a b c : SMap Nat} (h : otpLe a b) (k : otpLe b c) : otpLe a c := fun i j x => k i j (h i j x)

theorem otpLe_otpSet (o : SMap Nat) (i v : Nat) : otpLe o (otpSet o i v) := by
  intro j b h
  rw [otpWord_otpSet]
  split
  · rename_i hj; subst hj; simp [Nat.testBit_or, h]
  · exact h

theorem otpLe_otpSetAll (o : SMap Nat) (i : Nat) (vs : List Nat) : otpLe o (otpSetAll o i vs) := by
  induction vs generalizing o i with
  | nil => exact otpLe_refl o
  | cons v r ih => exact otpLe_trans (otpLe_otpSet o i v) (ih _ _)

theorem otpLe_tripleSet (o : SMap Nat) (i : Nat) : otpLe o (tripleSet o i) :=
  otpLe_trans (otpLe_trans (otpLe_otpSet _ _ _) (otpLe_otpSet _ _ _)) (otpLe_otpSet _ _ _)

theorem otpLe_lifeSet (o : SMap Nat) (st : Nat) : otpLe o (lifeSet o st) := by
  unfold lifeSet
  simp only [List.foldl_cons, List.foldl_nil]
  have one : ∀ (o : SMap Nat) (k : Nat), otpLe o (if st.testBit k then tripleSet o (lifeAt k) else o) := by
    intro o k
    split
    · exact otpLe_tripleSet _ _
    · exact otpLe_refl _
  exact otpLe_trans (otpLe_trans (one _ _) (one _ _)) (one _ _)

/-- Programming words from an index on leaves the words outside them. -/
theorem otpWord_otpSetAll_out (o : SMap Nat) (i : Nat) (vs : List Nat) (j : Nat) (h : j < i ∨ i + vs.length ≤ j) :
    otpWord (otpSetAll o i vs) j = otpWord o j := by
  induction vs generalizing o i with
  | nil => rfl
  | cons v r ih =>
    rw [otpSetAll, ih _ _ (by simp at h; omega), otpWord_otpSet, if_neg (by simp at h; omega)]

theorem otpWord_tripleSet (o : SMap Nat) (i j : Nat) :
    otpWord (tripleSet o i) j = if j = i ∨ j = i + 1 ∨ j = i + 2 then otpWord o j ||| 1 else otpWord o j := by
  unfold tripleSet
  simp only [otpWord_otpSet]
  by_cases h0 : j = i <;> by_cases h1 : j = i + 1 <;> by_cases h2 : j = i + 2 <;>
    first | omega | simp_all

theorem triple_congr {o p : SMap Nat} {unc : List Nat} {i : Nat} (h : ∀ j, i ≤ j → j ≤ i + 2 → otpWord p j = otpWord o j) :
    triple p unc i = triple o unc i := by
  have : ∀ k, k ∈ [i, i + 1, i + 2].filter (fun k => !unc.contains k) → (otpWord p k).testBit 0 = (otpWord o k).testBit 0 := by
    intro k hk
    have := (List.mem_filter.mp hk).1
    simp at this
    rw [h k (by omega) (by omega)]
  unfold triple
  simp only []
  rw [List.filter_congr this]

/-- The lifecycle bits depend on their nine words alone. -/
theorem lifeBits_congr {o p : SMap Nat} (h : ∀ j, 4 ≤ j → j ≤ 12 → otpWord p j = otpWord o j) : lifeBits p = lifeBits o := by
  unfold lifeBits lifecycle
  rw [triple_congr (o := o) (p := p) (i := lifeAt 0) (fun j a b => h j (by simp [lifeAt] at a; omega) (by simp [lifeAt] at b; omega)),
    triple_congr (o := o) (p := p) (i := lifeAt 1) (fun j a b => h j (by simp [lifeAt] at a; omega) (by simp [lifeAt] at b; omega)),
    triple_congr (o := o) (p := p) (i := lifeAt 2) (fun j a b => h j (by simp [lifeAt] at a; omega) (by simp [lifeAt] at b; omega))]

theorem filter3_length (p : Nat → Bool) (a b c : Nat) : ([a, b, c].filter p).length = bit (p a) + bit (p b) + bit (p c) := by
  simp only [List.filter]
  cases p a <;> cases p b <;> cases p c <;> rfl

/-- Read without errors every triple decodes: to its majority. -/
theorem triple_all (o : SMap Nat) (i : Nat) :
    triple o [] i = some (decide (2 ≤ bit ((otpWord o i).testBit 0) + bit ((otpWord o (i + 1)).testBit 0) +
      bit ((otpWord o (i + 2)).testBit 0))) := by
  unfold triple
  have h : [i, i + 1, i + 2].filter (fun k => !([] : List Nat).contains k) = [i, i + 1, i + 2] := rfl
  simp only [h, filter3_length, List.length_cons, List.length_nil]
  generalize (otpWord o i).testBit 0 = a
  generalize (otpWord o (i + 1)).testBit 0 = b
  generalize (otpWord o (i + 2)).testBit 0 = c
  cases a <;> cases b <;> cases c <;> rfl

end Sys2Proof.Machine
end

