-- ==== Sys2Proof/Laws/Port.lean ====
section
/-! SUPPORT. The host port: what a request that it performs at once comes to, and what reads leave alone. -/
set_option Elab.async false
namespace Sys2Proof.Machine

theorem hrpParse_cmd {cmd rest : Nat} {segs : List Nat} (hc : cmd < 256) (h : rest < 2 ^ 72) :
    (hrpParse (hrpHeader cmd rest) segs).cmd = cmd := by
  have : bits (hrpHeader cmd rest) 79 72 = cmd := by simp [bits, hrpHeader]; omega
  unfold hrpParse; simp only; split <;> simp [this]

theorem hrpStatus_segsGood {d : Dev} {r : HrpReq} (h : d.hrpStatus r = hsOk) : r.segsBad = false := by
  cases hb : r.segsBad
  · rfl
  · unfold Dev.hrpStatus at h
    simp only [hb] at h
    revert h
    repeat' split
    all_goals simp [hsOk, hsCmd, hsAlign, hsAddress, hsBoundary, hsWindow, hsCrc] at *

theorem hrpStatus_known {d : Dev} {r : HrpReq} (h : d.hrpStatus r = hsOk) : r.known = true := by
  cases hb : r.known
  · unfold Dev.hrpStatus at h; simp [hb, hsOk, hsCmd] at h
  · rfl

/-- A request that the port performs at once is performed and answered, and nothing waits after it. -/
theorem hrpRequest_runs {s : State} {hdr : Nat} {segs : List Nat} (h : s.portTakes hdr segs) :
    Chip.hrpRequest hdr segs ⟨s.otp, s.dev.fresh⟩ =
      (Chip.hrpPerform ⟨s.otp, s.dev.taking (hrpParse hdr segs)⟩ (hrpParse hdr segs)).2.on
        (Dev.hrpFinish (hrpParse hdr segs)
          (Chip.hrpPerform ⟨s.otp, s.dev.taking (hrpParse hdr segs)⟩ (hrpParse hdr segs)).1.1
          (Chip.hrpPerform ⟨s.otp, s.dev.taking (hrpParse hdr segs)⟩ (hrpParse hdr segs)).1.2) := by
  obtain ⟨hu, hq, hg, hl, hst, hb⟩ := h
  have hbad := hrpStatus_segsGood hst
  have hz : (if (hrpParse hdr segs).bursts = true then
      ((segs.take (hrpParse hdr segs).len).filter (fun s => !segGood s)).length else 0) = 0 := by
    split
    · rename_i hbu
      rw [List.length_eq_zero_iff, List.filter_eq_nil_iff]
      revert hbad hbu
      unfold hrpParse
      simp only
      split
      · intro hbad _ a ha
        simp at hbad
        simp at ha
        simp [hbad a ha]
      · intro _ h; contradiction
    · rfl
  have hnb : ((hrpParse hdr segs).bursts && decide (segs.length < (hrpParse hdr segs).len)) = false := by
    cases hbu : (hrpParse hdr segs).bursts
    · rfl
    · have := hl hbu; simp; omega
  have e1 : (s.dev.taking (hrpParse hdr segs)).hrp.reqs = [hrpParse hdr segs] := rfl
  have e2 : (s.dev.taking (hrpParse hdr segs)).hrpStatus (hrpParse hdr segs) = hsOk := hst
  have e3 : (hrpParse hdr segs).cmd = hcNop ∨ inRb (blockOf (hrpParse hdr segs).addr) = true ∧
      (s.dev.taking (hrpParse hdr segs)).hrpServed (hrpParse hdr segs) = true := by
    rcases hb with h | h
    · exact .inl h
    · refine .inr ⟨h.1, ?_⟩
      have e : (s.dev.taking (hrpParse hdr segs)).hrpServed (hrpParse hdr segs) = s.dev.hrpServed (hrpParse hdr segs) := rfl
      rw [e]; simp [Dev.hrpServed, h.2]
  unfold Chip.hrpRequest
  simp only [hg, hnb, hz, Chip.on, Dev.fresh_hrp, hq]
  change Chip.hrpRun 1 ⟨s.otp, s.dev.taking (hrpParse hdr segs)⟩ = _
  unfold Chip.hrpRun
  simp only [e1, e2, if_pos e3]
  rfl

/-! ## Reads -/

theorem Dev.busRead_keep {β : Type} (π : Dev → β) (h1 : ∀ d m f, π (d.mbUpd m f) = π d) (h2 : ∀ d f v, π (Dev.p d f v) = π d)
    (a : Nat) (d : Dev) : π (d.busRead a).2 = π d := by
  unfold Dev.busRead
  split
  · split
    · rfl
    · unfold Dev.mbxRead
      simp only
      split
      · rfl
      · rw [Dev.when_keep π (h2 _ _ _), h1]
  · simp only
    unfold Dev.dwRead
    simp only
    split
    · rfl
    · split
      · exact h2 _ _ _
      · exact h2 _ _ _
  · rfl

theorem Dev.hrpReads_keep {β : Type} (π : Dev → β) (h1 : ∀ d m f, π (d.mbUpd m f) = π d) (h2 : ∀ d f v, π (Dev.p d f v) = π d)
    (as : List Nat) (d : Dev) : π (d.hrpReads as).2 = π d := by
  unfold Dev.hrpReads
  have h : ∀ (l : List Nat) (x : (List Nat × Bool) × Dev), π (l.foldl (fun acc a =>
      (((acc.1.1 ++ [(acc.2.busRead a).1.1]), acc.1.2 || (acc.2.busRead a).1.2), (acc.2.busRead a).2)) x).2 = π x.2 := by
    intro l
    induction l with
    | nil => intro x; rfl
    | cons a r ih => intro x; rw [List.foldl_cons, ih]; exact Dev.busRead_keep π h1 h2 a x.2
  exact h as (([], false), d)

/-! ## The end of a request -/

theorem hrpParse_lost (hdr : Nat) (segs : List Nat) : (hrpParse hdr segs).lost = false := by
  unfold hrpParse; simp only; split <;> rfl

theorem hrpCommand_eq {c rest : Nat} {segs : List Nat} (hr : rest < 2 ^ 72) :
    Chip.hrpCommand c rest segs = Chip.hrpRequest (hrpHeader c rest) segs := by
  funext x; unfold Chip.hrpCommand hrpHeader; rw [Nat.mod_eq_of_lt hr]

theorem Dev.hrpFinish_status (d : Dev) (r : HrpReq) (st : Nat) (ws : List Nat) (h : d.boot.held = false) :
    (d.hrpFinish r st ws).g F.HRP_LAST_STATUS_STATUS = st % 256 := by
  unfold Dev.hrpFinish
  simp only [h, Bool.false_eq_true, if_false]
  split
  · rw [Dev.g_inc_ne _ (by decide), Dev.when_keep (fun d => d.g F.HRP_LAST_STATUS_STATUS) (Dev.g_inc_ne _ (by decide))]
    simp [F.HRP_LAST_STATUS_STATUS]
  · rw [Dev.emit_g, Dev.when_keep (fun d => d.g F.HRP_LAST_STATUS_STATUS) (Dev.g_inc_ne _ (by decide))]
    simp [F.HRP_LAST_STATUS_STATUS]

theorem Dev.hrpFinish_reqs (d : Dev) (r : HrpReq) (st : Nat) (ws : List Nat) (h : d.boot.held = false) :
    (d.hrpFinish r st ws).hrp.reqs = d.hrp.reqs.drop 1 := by
  unfold Dev.hrpFinish
  simp only [h, Bool.false_eq_true, if_false]
  split <;> simp [Dev.when_eq] <;> split <;> simp

theorem Dev.hrpFinish_out (d : Dev) (r : HrpReq) (st : Nat) (ws : List Nat) (h : d.boot.held = false) (hl : r.lost = false) :
    (d.hrpFinish r st ws).out = d.out ++ [hrpResponse st (respWords r st ws)] := by
  unfold Dev.hrpFinish
  simp [h, hl, hrpResponse]
  rw [Dev.when_keep (fun d => d.out) (by simp)]
  simp

end Sys2Proof.Machine
end

