-- ==== Sys2Proof/Laws/Span.lean ====
section
/-! SUPPORT. What taking a span message comes to when the head acts on it. -/
set_option Elab.async false
namespace Sys2Proof.Machine

/-- A message that waits for a bundle changes only the queues of the span lanes and the count of what they lose (R459). -/
theorem Dev.spanWait_keep {β : Type} (π : Dev → β) (hq : ∀ (d : Dev) q, π { d with fab := { d.fab with spanq := q } } = π d)
    (hi : ∀ d : Dev, π (d.inc F.SPAN_QUEUE_DROP_COUNT) = π d) (d : Dev) (b : Nat) (o : Out) : π (d.spanWait b o) = π d := by
  unfold Dev.spanWait
  split
  · unfold Dev.spanQueue
    simp only
    split
    · exact hq _ _
    · split
      · rfl
      · split
        · exact (hq _ _).trans (hi _)
        · exact hi _
  · rfl

/-- A relay sends, and changes nothing beyond what a message that waits changes (R457, R459). -/
theorem Dev.relay_keep {β : Type} (π : Dev → β) (ho : ∀ (d : Dev) o, π (d.emit o) = π d)
    (hq : ∀ (d : Dev) q, π { d with fab := { d.fab with spanq := q } } = π d)
    (hi : ∀ d : Dev, π (d.inc F.SPAN_QUEUE_DROP_COUNT) = π d) (d : Dev) (ty : Nat) (h : SpanHdr) : π (d.relay ty h) = π d := by
  unfold Dev.relay
  split
  · rfl
  · simp only
    rw [Dev.spanWait_keep π hq hi, ho]

theorem Dev.spanTake_acts {d : Dev} {ty : Nat} {h : SpanHdr} (ha : d.actsOn ty h = true) : d.spanTake ty h = (true, d.spanHeard ty h) := by
  simp only [Dev.actsOn, Bool.and_eq_true, Bool.not_eq_true'] at ha
  have h1 : (d.relay ty h).isLead = d.isLead := Dev.relay_keep (fun d => d.isLead) (fun _ _ => rfl) (fun _ _ => rfl)
    (fun d => by simp only [Dev.isLead, Dev.pos]; rw [Dev.g_inc_ne _ (by decide)]) d ty h
  have h2 : (d.relay ty h).spectator = d.spectator := Dev.relay_keep (fun d => d.spectator) (fun _ _ => rfl) (fun _ _ => rfl)
    (fun d => by simp only [Dev.spectator, Dev.b]; rw [Dev.g_inc_ne _ (by decide)]) d ty h
  have h3 : (d.relay ty h).firstCopy ty h = d.firstCopy ty h :=
    Dev.relay_keep (fun d => d.firstCopy ty h) (fun _ _ => rfl) (fun _ _ => rfl) (fun _ => rfl) d ty h
  have h4 : (d.relay ty h).spanSeq = d.spanSeq := Dev.relay_keep Dev.spanSeq (fun _ _ => rfl) (fun _ _ => rfl) (fun _ => rfl) d ty h
  unfold Dev.spanTake Dev.spanHeard
  simp [h1, h2, h3, h4, ha.1.1.1, ha.1.1.2, ha.1.2, ha.2]

/-- What a head that acts on a message keeps while it takes it. -/
theorem Dev.spanHeard_keep {β : Type} (π : Dev → β) (ho : ∀ (d : Dev) o, π (d.emit o) = π d)
    (hq : ∀ (d : Dev) q, π { d with fab := { d.fab with spanq := q } } = π d)
    (hi : ∀ d : Dev, π (d.inc F.SPAN_QUEUE_DROP_COUNT) = π d) (hs : ∀ (d : Dev) m, π { d with spanSeq := m } = π d)
    (d : Dev) (ty : Nat) (h : SpanHdr) : π (d.spanHeard ty h) = π d := by
  unfold Dev.spanHeard
  exact (hs _ _).trans (Dev.relay_keep π ho hq hi d ty h)

end Sys2Proof.Machine
end

