-- ==== Sys2Proof/Laws/Ways.lean ====
section
/-! SUPPORT. The five ways in which a command acts, for every command at once: proofs over all commands split into these five and not
into the arms of the dispatch. -/
set_option Elab.async false
namespace Sys2Proof.Machine

/-- Every command acts in one of five ways: at a head out of reset; at a head in every state; at such a head with its OTP; at the cell
node; at the cell node, sending something. -/
theorem exec_ways (i : Instr) (s : State) :
    (i.atCell = false ∧ ∃ f, exec i s = onHead i f s) ∨ (i.atCell = false ∧ i.inReset = true ∧ ∃ f, exec i s = onHeadAlways i f s) ∨
    (i.atCell = false ∧ ∃ f, exec i s = onChip i f s) ∨ (i.atCell = true ∧ ∃ f, exec i s = onNode i f s) ∨
    (i.atCell = true ∧ ∃ f, exec i s = onNodeOut i f s) := by
  cases i with
  | rd rest segs => exact .inr (.inr (.inl ⟨rfl, _, exec_rd rest segs s⟩))
  | wr rest segs => exact .inr (.inr (.inl ⟨rfl, _, exec_wr rest segs s⟩))
  | rdInc rest segs => exact .inr (.inr (.inl ⟨rfl, _, exec_rdInc rest segs s⟩))
  | wrInc rest segs => exact .inr (.inr (.inl ⟨rfl, _, exec_wrInc rest segs s⟩))
  | rdPort rest segs => exact .inr (.inr (.inl ⟨rfl, _, exec_rdPort rest segs s⟩))
  | wrPort rest segs => exact .inr (.inr (.inl ⟨rfl, _, exec_wrPort rest segs s⟩))
  | nop hdr segs => exact .inr (.inr (.inl ⟨rfl, _, exec_nop hdr segs s⟩))
  | accessComplete t => exact .inr (.inr (.inl ⟨rfl, _, exec_accessComplete t s⟩))
  | domainOff t => exact .inr (.inr (.inl ⟨rfl, _, exec_domainOff t s⟩))
  | hrpAbort complete => exact .inl ⟨rfl, _, exec_hrpAbort complete s⟩
  | plainRegisterWrite a w bm => exact .inl ⟨rfl, _, exec_plainRegisterWrite a w bm s⟩
  | commit g => exact .inl ⟨rfl, _, exec_commit g s⟩
  | commitCutoff => exact .inl ⟨rfl, _, exec_commitCutoff s⟩
  | commitOutcome => exact .inl ⟨rfl, _, exec_commitOutcome s⟩
  | avCommit k => exact .inl ⟨rfl, _, exec_avCommit k s⟩
  | stage h k target set => exact .inl ⟨rfl, _, exec_stage h k target set s⟩
  | verdict h k target reason => exact .inl ⟨rfl, _, exec_verdict h k target reason s⟩
  | avCommitApply => exact .inl ⟨rfl, _, exec_avCommitApply s⟩
  | mbxRequest m item atFrame => exact .inl ⟨rfl, _, exec_mbxRequest m item atFrame s⟩
  | mbxCapture m t => exact .inl ⟨rfl, _, exec_mbxCapture m t s⟩
  | mbxDataRead m => exact .inl ⟨rfl, _, exec_mbxDataRead m s⟩
  | snapPart h frame words => exact .inl ⟨rfl, _, exec_snapPart h frame words s⟩
  | snapshotTimeout => exact .inl ⟨rfl, _, exec_snapshotTimeout s⟩
  | dwDataWrite k w => exact .inl ⟨rfl, _, exec_dwDataWrite k w s⟩
  | dwResultRead k => exact .inl ⟨rfl, _, exec_dwResultRead k s⟩
  | todArm => exact .inl ⟨rfl, _, exec_todArm s⟩
  | ppsEdge t => exact .inl ⟨rfl, _, exec_ppsEdge t s⟩
  | ppsLocked => exact .inl ⟨rfl, _, exec_ppsLocked s⟩
  | ppsLockLost => exact .inl ⟨rfl, _, exec_ppsLockLost s⟩
  | holdover t => exact .inl ⟨rfl, _, exec_holdover t s⟩
  | holdoverLimit t => exact .inl ⟨rfl, _, exec_holdoverLimit t s⟩
  | frameTick codes => exact .inl ⟨rfl, _, exec_frameTick codes s⟩
  | probeInterval ln => exact .inl ⟨rfl, _, exec_probeInterval ln s⟩
  | timeProbe ln t => exact .inl ⟨rfl, _, exec_timeProbe ln t s⟩
  | timeEcho ln t line => exact .inl ⟨rfl, _, exec_timeEcho ln t line s⟩
  | probeAverageRestart ln => exact .inl ⟨rfl, _, exec_probeAverageRestart ln s⟩
  | alignCell l => exact .inl ⟨rfl, _, exec_alignCell l s⟩
  | alignHead => exact .inl ⟨rfl, _, exec_alignHead s⟩
  | echoLost ln => exact .inl ⟨rfl, _, exec_echoLost ln s⟩
  | cePass corr uncorr => exact .inl ⟨rfl, _, exec_cePass corr uncorr s⟩
  | nonfiniteLimit inst => exact .inl ⟨rfl, _, exec_nonfiniteLimit inst s⟩
  | init => exact .inl ⟨rfl, _, exec_init s⟩
  | ceInitialise => exact .inl ⟨rfl, _, exec_ceInitialise s⟩
  | spanOut h frame vals => exact .inl ⟨rfl, _, exec_spanOut h frame vals s⟩
  | gatherDeadline => exact .inl ⟨rfl, _, exec_gatherDeadline s⟩
  | sortEnd => exact .inl ⟨rfl, _, exec_sortEnd s⟩
  | quotaCompute => exact .inl ⟨rfl, _, exec_quotaCompute s⟩
  | quotaLate => exact .inl ⟨rfl, _, exec_quotaLate s⟩
  | ceOverrun => exact .inl ⟨rfl, _, exec_ceOverrun s⟩
  | cellSelection => exact .inl ⟨rfl, _, exec_cellSelection s⟩
  | dsfLaunch => exact .inl ⟨rfl, _, exec_dsfLaunch s⟩
  | launchLate => exact .inl ⟨rfl, _, exec_launchLate s⟩
  | missLimit code pos => exact .inl ⟨rfl, _, exec_missLimit code pos s⟩
  | tbUnlock => exact .inl ⟨rfl, _, exec_tbUnlock s⟩
  | usf l line => exact .inl ⟨rfl, _, exec_usf l line s⟩
  | suspectLimit l => exact .inl ⟨rfl, _, exec_suspectLimit l s⟩
  | cellLost l => exact .inl ⟨rfl, _, exec_cellLost l s⟩
  | suspectClear l => exact .inl ⟨rfl, _, exec_suspectClear l s⟩
  | go => exact .inl ⟨rfl, _, exec_go s⟩
  | convOpen l => exact .inl ⟨rfl, _, exec_convOpen l s⟩
  | convSegTimeout l => exact .inl ⟨rfl, _, exec_convSegTimeout l s⟩
  | convWholeTimeout slot => exact .inl ⟨rfl, _, exec_convWholeTimeout slot s⟩
  | convAbort slot => exact .inl ⟨rfl, _, exec_convAbort slot s⟩
  | convRelease slot => exact .inl ⟨rfl, _, exec_convRelease slot s⟩
  | rediscover l => exact .inl ⟨rfl, _, exec_rediscover l s⟩
  | discoveryDefer l => exact .inl ⟨rfl, _, exec_discoveryDefer l s⟩
  | discRetry l => exact .inl ⟨rfl, _, exec_discRetry l s⟩
  | summary h r => exact .inl ⟨rfl, _, exec_summary h r s⟩
  | quota h q => exact .inl ⟨rfl, _, exec_quota h q s⟩
  | suppressEnd arm => exact .inl ⟨rfl, _, exec_suppressEnd arm s⟩
  | suppressTimeout arm => exact .inl ⟨rfl, _, exec_suppressTimeout arm s⟩
  | testFail k => exact .inl ⟨rfl, _, exec_testFail k s⟩
  | testFailClear k => exact .inl ⟨rfl, _, exec_testFailClear k s⟩
  | metGo c t => exact .inl ⟨rfl, _, exec_metGo c t s⟩
  | metIntegrationStart c => exact .inl ⟨rfl, _, exec_metIntegrationStart c s⟩
  | metConversionEnd c t x ovr => exact .inl ⟨rfl, _, exec_metConversionEnd c t x ovr s⟩
  | lsyncEdge t => exact .inl ⟨rfl, _, exec_lsyncEdge t s⟩
  | lsyncLoss t => exact .inl ⟨rfl, _, exec_lsyncLoss t s⟩
  | noref c t => exact .inl ⟨rfl, _, exec_noref c t s⟩
  | capArm => exact .inl ⟨rfl, _, exec_capArm s⟩
  | capTrigger => exact .inl ⟨rfl, _, exec_capTrigger s⟩
  | capDone => exact .inl ⟨rfl, _, exec_capDone s⟩
  | hardOc k code t => exact .inl ⟨rfl, _, exec_hardOc k code t s⟩
  | softOc k code t => exact .inl ⟨rfl, _, exec_softOc k code t s⟩
  | pendingEvaluate k code t => exact .inl ⟨rfl, _, exec_pendingEvaluate k code t s⟩
  | spanShutter x => exact .inl ⟨rfl, _, exec_spanShutter x s⟩
  | release => exact .inl ⟨rfl, _, exec_release s⟩
  | releaseApply => exact .inl ⟨rfl, _, exec_releaseApply s⟩
  | hostShutter => exact .inl ⟨rfl, _, exec_hostShutter s⟩
  | avHostShutter => exact .inl ⟨rfl, _, exec_avHostShutter s⟩
  | f4Reset => exact .inl ⟨rfl, _, exec_f4Reset s⟩
  | unpin => exact .inl ⟨rfl, _, exec_unpin s⟩
  | unpinAll => exact .inl ⟨rfl, _, exec_unpinAll s⟩
  | clearBypass => exact .inl ⟨rfl, _, exec_clearBypass s⟩
  | faultEngineTake => exact .inl ⟨rfl, _, exec_faultEngineTake s⟩
  | sensorSubst k => exact .inl ⟨rfl, _, exec_sensorSubst k s⟩
  | sensorTimeout k => exact .inl ⟨rfl, _, exec_sensorTimeout k s⟩
  | sensorRestore k => exact .inl ⟨rfl, _, exec_sensorRestore k s⟩
  | blockEnd l => exact .inl ⟨rfl, _, exec_blockEnd l s⟩
  | dxNoRes l => exact .inl ⟨rfl, _, exec_dxNoRes l s⟩
  | tempConversion k x => exact .inl ⟨rfl, _, exec_tempConversion k x s⟩
  | sensorBroken k => exact .inl ⟨rfl, _, exec_sensorBroken k s⟩
  | brokenClear k => exact .inl ⟨rfl, _, exec_brokenClear k s⟩
  | safetyCycle t found ecc => exact .inr (.inl ⟨rfl, rfl, _, exec_safetyCycle t found ecc s⟩)
  | limitedFunctionDemand k => exact .inr (.inl ⟨rfl, rfl, _, exec_limitedFunctionDemand k s⟩)
  | inputDemand k => exact .inr (.inl ⟨rfl, rfl, _, exec_inputDemand k s⟩)
  | inputClear k => exact .inr (.inl ⟨rfl, rfl, _, exec_inputClear k s⟩)
  | testPulse k low touched => exact .inr (.inl ⟨rfl, rfl, _, exec_testPulse k low touched s⟩)
  | hardwareMonitorFault clock => exact .inr (.inl ⟨rfl, rfl, _, exec_hardwareMonitorFault clock s⟩)
  | islandWatchdog => exact .inr (.inl ⟨rfl, rfl, _, exec_islandWatchdog s⟩)
  | ackStuck => exact .inr (.inl ⟨rfl, rfl, _, exec_ackStuck s⟩)
  | safeAck t ms => exact .inr (.inl ⟨rfl, rfl, _, exec_safeAck t ms s⟩)
  | safArm w => exact .inl ⟨rfl, _, exec_safArm w s⟩
  | armedExpiry t => exact .inr (.inl ⟨rfl, rfl, _, exec_armedExpiry t s⟩)
  | selectionConfirm w => exact .inl ⟨rfl, _, exec_selectionConfirm w s⟩
  | hostBlock => exact .inl ⟨rfl, _, exec_hostBlock s⟩
  | startWindow => exact .inr (.inl ⟨rfl, rfl, _, exec_startWindow s⟩)
  | selftestDone => exact .inr (.inl ⟨rfl, rfl, _, exec_selftestDone s⟩)
  | permitInEdge t high => exact .inr (.inl ⟨rfl, rfl, _, exec_permitInEdge t high s⟩)
  | closingAttempt t => exact .inr (.inl ⟨rfl, rfl, _, exec_closingAttempt t s⟩)
  | chainClosed t => exact .inr (.inl ⟨rfl, rfl, _, exec_chainClosed t s⟩)
  | closingAttemptTimeout t => exact .inr (.inl ⟨rfl, rfl, _, exec_closingAttemptTimeout t s⟩)
  | safety t h bytes => exact .inr (.inl ⟨rfl, rfl, _, exec_safety t h bytes s⟩)
  | msgLoss t p => exact .inr (.inl ⟨rfl, rfl, _, exec_msgLoss t p s⟩)
  | chain t => exact .inr (.inl ⟨rfl, rfl, _, exec_chain t s⟩)
  | darkPulse so good => exact .inr (.inl ⟨rfl, rfl, _, exec_darkPulse so good s⟩)
  | establishEnd t => exact .inl ⟨rfl, _, exec_establishEnd t s⟩
  | coldWake t => exact .inl ⟨rfl, _, exec_coldWake t s⟩
  | relinquish => exact .inl ⟨rfl, _, exec_relinquish s⟩
  | handover => exact .inl ⟨rfl, _, exec_handover s⟩
  | standby => exact .inl ⟨rfl, _, exec_standby s⟩
  | take => exact .inl ⟨rfl, _, exec_take s⟩
  | wake => exact .inl ⟨rfl, _, exec_wake s⟩
  | claimNotTaken => exact .inl ⟨rfl, _, exec_claimNotTaken s⟩
  | leadLost => exact .inl ⟨rfl, _, exec_leadLost s⟩
  | lockstep => exact .inl ⟨rfl, _, exec_lockstep s⟩
  | notice bytes => exact .inl ⟨rfl, _, exec_notice bytes s⟩
  | hatchBlock bytes => exact .inl ⟨rfl, _, exec_hatchBlock bytes s⟩
  | checkpointCapture => exact .inl ⟨rfl, _, exec_checkpointCapture s⟩
  | checkpointSent => exact .inl ⟨rfl, _, exec_checkpointSent s⟩
  | settingsSend => exact .inl ⟨rfl, _, exec_settingsSend s⟩
  | checkpointWatchdog t => exact .inl ⟨rfl, _, exec_checkpointWatchdog t s⟩
  | wakeBeacon => exact .inl ⟨rfl, _, exec_wakeBeacon s⟩
  | restoreDone t crcOk => exact .inl ⟨rfl, _, exec_restoreDone t crcOk s⟩
  | openDone t => exact .inl ⟨rfl, _, exec_openDone t s⟩
  | timeDone t => exact .inl ⟨rfl, _, exec_timeDone t s⟩
  | loadDone t => exact .inl ⟨rfl, _, exec_loadDone t s⟩
  | wakePhaseTimeout t => exact .inl ⟨rfl, _, exec_wakePhaseTimeout t s⟩
  | loaded h gen => exact .inl ⟨rfl, _, exec_loaded h gen s⟩
  | claimNameTimeout t => exact .inl ⟨rfl, _, exec_claimNameTimeout t s⟩
  | claimTick => exact .inl ⟨rfl, _, exec_claimTick s⟩
  | resume => exact .inl ⟨rfl, _, exec_resume s⟩
  | resumeLate => exact .inl ⟨rfl, _, exec_resumeLate s⟩
  | lanePower ln w => exact .inl ⟨rfl, _, exec_lanePower ln w s⟩
  | pllLock ln => exact .inl ⟨rfl, _, exec_pllLock ln s⟩
  | signalDetect ln => exact .inl ⟨rfl, _, exec_signalDetect ln s⟩
  | alignLock ln => exact .inl ⟨rfl, _, exec_alignLock ln s⟩
  | train ln line inverted => exact .inl ⟨rfl, _, exec_train ln line inverted s⟩
  | trainAttemptLimit ln => exact .inl ⟨rfl, _, exec_trainAttemptLimit ln s⟩
  | laneDown ln errors => exact .inl ⟨rfl, _, exec_laneDown ln errors s⟩
  | laneEqWrite ln w => exact .inl ⟨rfl, _, exec_laneEqWrite ln w s⟩
  | modeWrite ln mode => exact .inl ⟨rfl, _, exec_modeWrite ln mode s⟩
  | injectOne ln => exact .inl ⟨rfl, _, exec_injectOne ln s⟩
  | injectBurst ln => exact .inl ⟨rfl, _, exec_injectBurst ln s⟩
  | checkerLock ln inverted => exact .inl ⟨rfl, _, exec_checkerLock ln inverted s⟩
  | checkerLoss ln wrong kbits => exact .inl ⟨rfl, _, exec_checkerLoss ln wrong kbits s⟩
  | enumSend => exact .inl ⟨rfl, _, exec_enumSend s⟩
  | enum h admitted ring full spectator => exact .inl ⟨rfl, _, exec_enum h admitted ring full spectator s⟩
  | enumReply h position => exact .inl ⟨rfl, _, exec_enumReply h position s⟩
  | station => exact .inl ⟨rfl, _, exec_station s⟩
  | ulShutter ln line => exact .inl ⟨rfl, _, exec_ulShutter ln line s⟩
  | ulShutterClear => exact .inl ⟨rfl, _, exec_ulShutterClear s⟩
  | porAon t => exact .inr (.inl ⟨rfl, rfl, _, exec_porAon t s⟩)
  | porCore t => exact .inr (.inl ⟨rfl, rfl, _, exec_porCore t s⟩)
  | porSafe t => exact .inr (.inl ⟨rfl, rfl, _, exec_porSafe t s⟩)
  | resetN t => exact .inr (.inl ⟨rfl, rfl, _, exec_resetN t s⟩)
  | soft => exact .inl ⟨rfl, _, exec_soft s⟩
  | supWdt t => exact .inl ⟨rfl, _, exec_supWdt t s⟩
  | resetRelease t position unit => exact .inr (.inl ⟨rfl, rfl, _, exec_resetRelease t position unit s⟩)
  | otpStage corr unc => exact .inr (.inr (.inl ⟨rfl, _, exec_otpStage corr unc s⟩))
  | refStage t locked => exact .inl ⟨rfl, _, exec_refStage t locked s⟩
  | bistStage pass => exact .inl ⟨rfl, _, exec_bistStage pass s⟩
  | slotsStage t => exact .inr (.inr (.inl ⟨rfl, _, exec_slotsStage t s⟩))
  | configurationComplete t => exact .inl ⟨rfl, _, exec_configurationComplete t s⟩
  | load => exact .inr (.inr (.inl ⟨rfl, _, exec_load s⟩))
  | loadComplete t => exact .inr (.inr (.inl ⟨rfl, _, exec_loadComplete t s⟩))
  | programSlot => exact .inr (.inr (.inl ⟨rfl, _, exec_programSlot s⟩))
  | programSlotComplete good => exact .inl ⟨rfl, _, exec_programSlotComplete good s⟩
  | token => exact .inr (.inr (.inl ⟨rfl, _, exec_token s⟩))
  | attest => exact .inr (.inr (.inl ⟨rfl, _, exec_attest s⟩))
  | attestComplete => exact .inr (.inr (.inl ⟨rfl, _, exec_attestComplete s⟩))
  | advanceSvn => exact .inr (.inr (.inl ⟨rfl, _, exec_advanceSvn s⟩))
  | provision => exact .inr (.inr (.inl ⟨rfl, _, exec_provision s⟩))
  | provisionComplete => exact .inr (.inr (.inl ⟨rfl, _, exec_provisionComplete s⟩))
  | deploy => exact .inr (.inr (.inl ⟨rfl, _, exec_deploy s⟩))
  | lock => exact .inr (.inr (.inl ⟨rfl, _, exec_lock s⟩))
  | unlockExpiry t => exact .inl ⟨rfl, _, exec_unlockExpiry t s⟩
  | start => exact .inl ⟨rfl, _, exec_start s⟩
  | confirm => exact .inl ⟨rfl, _, exec_confirm s⟩
  | abort => exact .inl ⟨rfl, _, exec_abort s⟩
  | discharged => exact .inl ⟨rfl, _, exec_discharged s⟩
  | engStepTimeout => exact .inl ⟨rfl, _, exec_engStepTimeout s⟩
  | submit => exact .inl ⟨rfl, _, exec_submit s⟩
  | energyStart q t => exact .inl ⟨rfl, _, exec_energyStart q t s⟩
  | energyStop q => exact .inl ⟨rfl, _, exec_energyStop q s⟩
  | metCheck q zero ref => exact .inl ⟨rfl, _, exec_metCheck q zero ref s⟩
  | fwDistribute q => exact .inl ⟨rfl, _, exec_fwDistribute q s⟩
  | logFaults q good => exact .inl ⟨rfl, _, exec_logFaults q good s⟩
  | logCheckpoint q good => exact .inl ⟨rfl, _, exec_logCheckpoint q good s⟩
  | logRead q => exact .inl ⟨rfl, _, exec_logRead q s⟩
  | logErase q good => exact .inl ⟨rfl, _, exec_logErase q good s⟩
  | serviceEnd q => exact .inl ⟨rfl, _, exec_serviceEnd q s⟩
  | next => exact .inl ⟨rfl, _, exec_next s⟩
  | cancel ticket => exact .inl ⟨rfl, _, exec_cancel ticket s⟩
  | monHelp => exact .inl ⟨rfl, _, exec_monHelp s⟩
  | monInfo => exact .inl ⟨rfl, _, exec_monInfo s⟩
  | monRd a n => exact .inl ⟨rfl, _, exec_monRd a n s⟩
  | monState => exact .inl ⟨rfl, _, exec_monState s⟩
  | monFaults n => exact .inl ⟨rfl, _, exec_monFaults n s⟩
  | monLanes => exact .inl ⟨rfl, _, exec_monLanes s⟩
  | monWr a w bm => exact .inr (.inr (.inl ⟨rfl, _, exec_monWr a w bm s⟩))
  | monSvc code args => exact .inl ⟨rfl, _, exec_monSvc code args s⟩
  | monReset => exact .inl ⟨rfl, _, exec_monReset s⟩
  | errLine => exact .inl ⟨rfl, _, exec_errLine s⟩
  | cellDsf t p dsf bulk rest => exact .inr (.inr (.inr (.inl ⟨rfl, _, exec_cellDsf t p dsf bulk rest s⟩)))
  | cellTargetTick => exact .inr (.inr (.inr (.inl ⟨rfl, _, exec_cellTargetTick s⟩)))
  | cellEdge => exact .inr (.inr (.inr (.inl ⟨rfl, _, exec_cellEdge s⟩)))
  | cellShutter t p line => exact .inr (.inr (.inr (.inl ⟨rfl, _, exec_cellShutter t p line s⟩)))
  | cellProbe t t3 p line => exact .inr (.inr (.inr (.inr ⟨rfl, _, exec_cellProbe t t3 p line s⟩)))
  | cellGap => exact .inr (.inr (.inr (.inl ⟨rfl, _, exec_cellGap s⟩)))
  | cellSimmerEnd => exact .inr (.inr (.inr (.inl ⟨rfl, _, exec_cellSimmerEnd s⟩)))
  | cellFloorClear t => exact .inr (.inr (.inr (.inl ⟨rfl, _, exec_cellFloorClear t s⟩)))
  | cellUsfSend vcap temp res faults => exact .inr (.inr (.inr (.inr ⟨rfl, _, exec_cellUsfSend vcap temp res faults s⟩)))
  | cellSegment p bytes => exact .inr (.inr (.inr (.inl ⟨rfl, _, exec_cellSegment p bytes s⟩)))
  | cellRetxTimeout p => exact .inr (.inr (.inr (.inl ⟨rfl, _, exec_cellRetxTimeout p s⟩)))
  | cellIdleTimeout p => exact .inr (.inr (.inr (.inl ⟨rfl, _, exec_cellIdleTimeout p s⟩)))
  | cellWorkDone p status value stored version => exact .inr (.inr (.inr (.inl ⟨rfl, _, exec_cellWorkDone p status value stored version s⟩)))
  | spanTimeProbe ln t t3 shift t0 line => exact .inl ⟨rfl, _, exec_spanTimeProbe ln t t3 shift t0 line s⟩
  | ticksResume => exact .inl ⟨rfl, _, exec_ticksResume s⟩
  | cellNodeBoot setup => exact .inr (.inr (.inr (.inl ⟨rfl, _, exec_cellNodeBoot setup s⟩)))
  | capLevelTrigger x => exact .inl ⟨rfl, _, exec_capLevelTrigger x s⟩

end Sys2Proof.Machine
end

