-- ==== Sys2Proof/Tests/Slice0.lean ====
section
/-! SUPPORT. The package's own tests: for each check of WellFormed a command that it refuses; values that the spec works out; one step of some
commands; and for every statement a concrete state and operands that meet its hypotheses, clause by clause (the `witness_` theorems).
The expected values come from the spec or from hand calculation with its rules. -/
set_option Elab.async false
set_option maxRecDepth 20000
namespace Sys2Proof.Tests
open Sys2Proof Sys2Proof.Machine

/-! ## Small states -/

/-- A head with these register fields and everything else zero. -/
def dv (fs : List (Fld × Nat)) : Dev := { (default : Dev) with rf := fs.foldl (fun m x => mset m x.1.key x.2) [] }

/-- A state with this head. -/
def st (d : Dev) : State := ⟨[], [], Cell.reset, d⟩

/-- A state with this cell node. -/
def stc (c : Cell) : State := ⟨[], [], c, default⟩

/-- A head in service: configuration is complete. -/
def dvs (fs : List (Fld × Nat)) : Dev := dv ((F.GLB_BOOT_STATUS_STAGE, 7) :: fs)

/-- The 72 bits of a header after its command code, with its CRC. -/
def restOf (cmd addr bm len w : Nat) : Nat :=
  let b := ((addr * 16 + bm) * 16 + len) * 2 ^ 32 + w
  b * 256 + crc8 (be 9 (cmd * 2 ^ 64 + b))

/-- A continuation segment. -/
def contOf (w : Nat) : Nat := w * 256 + crc8 (be 4 w)

/-- An ordered set on a line of a rate, and a frame with the IDLE behind it. -/
def ol (rate ty : Nat) (content : List Byte) : Line := setLine rate ty content
def fr (rate : Nat) (bytes : List Byte) : Line := (frameLine rate bytes).then (idleLine rate)

/-- Nothing on a line. -/
def nl : Line := .chars []

/-- The header of a span message from position `o`, its CRC good. -/
def hd (o : Nat) : SpanHdr := ⟨o, 0, 1, 0, true, true⟩

/-! ## WellFormed: for each check a command with that operand just out of its range, which is refused -/

theorem test_ill_formed_1 :
    ([
    .rd (2 ^ 72) [], .rd 0 [2 ^ 40], .wr (2 ^ 72) [], .wr 0 [2 ^ 40], .rdInc (2 ^ 72) [], .rdInc 0 [2 ^ 40], .wrInc (2 ^ 72) [],
    .wrInc 0 [2 ^ 40], .rdPort (2 ^ 72) [], .rdPort 0 [2 ^ 40], .wrPort (2 ^ 72) [], .wrPort 0 [2 ^ 40], .nop (2 ^ 80) [], .nop 0 [2 ^ 40],
    .plainRegisterWrite busEnd 0 0, .plainRegisterWrite 0 (2 ^ 32) 0, .plainRegisterWrite 0 0 16, .commit 13, .avCommit 5,
    .stage (hd 0) 5 0 [], .stage (hd 0) 0 (2 ^ 32) [], .stage ⟨8, 0, 1, 0, true, true⟩ 0 0 [], .stage (hd 0) 0 0 [(1, 0)],
    .verdict (hd 0) 5 0 0, .verdict (hd 0) 0 (2 ^ 32) 0, .verdict (hd 0) 0 0 256, .verdict ⟨8, 0, 1, 0, true, true⟩ 0 0 0,
    .mbxRequest 5 0 false, .mbxRequest 0 256 false, .mbxCapture 5 0, .mbxDataRead 5, .snapPart (hd 0) (2 ^ 32) [],
    .snapPart (hd 0) 0 [2 ^ 32], .snapPart ⟨8, 0, 1, 0, true, true⟩ 0 [], .dwDataWrite 4 0, .dwDataWrite 0 (2 ^ 32), .dwResultRead 4,
    .probeInterval 72, .timeProbe 72 0, .timeEcho 72 0 nl, .probeAverageRestart 72, .alignCell 64, .echoLost 72, .nonfiniteLimit 256,
    .spanOut (hd 0) (2 ^ 32) [], .spanOut (hd 0) 0 [2 ^ 32], .spanOut ⟨8, 0, 1, 0, true, true⟩ 0 [], .missLimit 16 0, .missLimit 0 8,
    .usf 64 nl, .suspectLimit 64, .cellLost 64, .suspectClear 64, .convOpen 64, .convSegTimeout 64, .convWholeTimeout 128, .convAbort 128,
    .convRelease 128, .rediscover 64, .discoveryDefer 64] : List Instr).all (fun i => !i.wellFormed) = true := by decide +kernel

theorem test_ill_formed_2 :
    ([
    .discRetry 64, .summary ⟨8, 0, 1, 0, true, true⟩ default, .quota ⟨8, 0, 1, 0, true, true⟩ default, .suppressEnd 2, .suppressTimeout 2,
    .testFail 16, .testFailClear 16, .metGo 4 0, .metIntegrationStart 4, .metConversionEnd 4 0 0 false, .noref 4 0, .hardOc 16 0 0,
    .softOc 16 0 0, .pendingEvaluate 16 0 0, .sensorSubst 16, .sensorTimeout 16, .sensorRestore 16, .blockEnd 64, .dxNoRes 64,
    .tempConversion 16 0, .sensorBroken 16, .brokenClear 16, .limitedFunctionDemand 3, .inputDemand 12, .inputClear 12, .testPulse 4 0 0,
    .testPulse 0 16 0, .testPulse 0 0 16, .safArm (2 ^ 32), .selectionConfirm (2 ^ 32), .safety 0 ⟨8, 0, 1, 0, true, true⟩ [],
    .msgLoss 0 8, .darkPulse 4 false, .loaded (hd 0) (2 ^ 24), .loaded ⟨8, 0, 1, 0, true, true⟩ 0, .lanePower 72 0, .lanePower 0 (2 ^ 32),
    .pllLock 72, .signalDetect 72, .alignLock 72, .train 72 nl false, .trainAttemptLimit 72, .laneDown 72 0, .laneEqWrite 72 0,
    .laneEqWrite 0 (2 ^ 32), .modeWrite 72 0, .modeWrite 0 4, .injectOne 72, .injectBurst 72, .checkerLock 72 false, .checkerLoss 72 0 0,
    .enum (hd 0) 256 0 false false, .enum (hd 0) 0 (2 ^ 32) false false, .enum ⟨8, 0, 1, 0, true, true⟩ 0 0 false false,
    .enumReply (hd 0) 8, .enumReply ⟨8, 0, 1, 0, true, true⟩ 0, .ulShutter 72 nl, .spanShutter ⟨72, nl⟩, .resetRelease 0 8 0, .resetRelease 0 0 2,
    .energyStart 16 0] : List Instr).all (fun i => !i.wellFormed) = true := by decide +kernel

theorem test_ill_formed_3 :
    ([
    .energyStop 16, .metCheck 16 0 0, .fwDistribute 16, .logFaults 16 false, .logCheckpoint 16 false, .logRead 16, .logErase 16 false,
    .serviceEnd 16, .cancel (2 ^ 16), .monRd (2 ^ 32) 0, .monWr (2 ^ 32) 0 0, .monWr 0 (2 ^ 32) 0, .monWr 0 0 16, .monSvc 0 [2 ^ 32],
    .cellDsf 0 2 nl nl nl, .cellShutter 0 2 nl, .cellProbe 0 0 2 nl, .cellUsfSend (2 ^ 32) 0 0 0, .cellUsfSend 0 (2 ^ 16) 0 0,
    .cellUsfSend 0 0 (2 ^ 16) 0, .cellUsfSend 0 0 0 64, .cellSegment 2 (List.replicate 28 0#8), .cellSegment 0 [], .cellRetxTimeout 2,
    .cellIdleTimeout 2, .cellWorkDone 2 0 [] false 0, .cellWorkDone 0 256 [] false 0, .cellWorkDone 0 0 [] false (2 ^ 32),
    .spanTimeProbe 72 0 0 0 none nl] : List Instr).all (fun i => !i.wellFormed) = true := by decide +kernel

/-- The other fields of a span header (R455). -/
theorem test_ill_formed_header :
    [(⟨0, 256, 0, 0, true, true⟩ : SpanHdr), ⟨0, 0, 2 ^ 16, 0, true, true⟩, ⟨0, 0, 0, 2 ^ 16, true, true⟩].all (fun h => !hdrOk h) = true ∧
      hdrOk (hd 7) = true := by decide +kernel

/-- An ill-formed command is refused by name, and the same one in range is not. -/
theorem test_ill_formed_refused :
    exec (.injectOne 72) State.reset = .refused .illFormed ∧ (Instr.injectOne 71).wellFormed = true ∧
      (Instr.cellSegment 1 (List.replicate 28 0#8)).wellFormed = true := ⟨rfl, by decide +kernel, by decide +kernel⟩

/-! ## Worked values of the spec -/

/-- The state after a command. -/
def after (i : Instr) (s : State) : State := match exec i s with
  | .next t => t
  | _ => s

/-- The ASCII bytes 1 to 9. -/
def digits : List Byte := [0x31#8, 0x32#8, 0x33#8, 0x34#8, 0x35#8, 0x36#8, 0x37#8, 0x38#8, 0x39#8]

/-- R41 and R118: the two CRCs of the nine digits. -/
theorem test_crc_check_values : crc8 digits = 0x20 ∧ crc32 digits = 0xCBF43926 := by decide +kernel

/-- The first worked frame (chapter *System architecture*, and case A of R102): four heads, 10.3125 Gb/s, 200 ns of fibre, a pass of 3,200
lane-cycles: gather 290 ns, quotas 500 ns, launch 600 ns, downstream 310 ns, and 1.000 us is within budget. -/
theorem test_budget_example :
    let d : Dev := { dvs [(F.HCL_PORT_CTRL_ENABLE 63, 1), (F.LANE_CFG_RATE 63, 3), (F.LANE_SPAN_STATE_SPAN_RATE, 3)] with
                     conf := { (default : Conf) with heads := 4, cost := 3200, maxDelay := 800 } }
    d.budget 0 (fun _ => 0) = ⟨1160 * fine, 2000 * fine, 2400 * fine, 1240 * fine⟩ ∧ d.budgetReason (d.budget 0 (fun _ => 0)) 100 = 0 := by
  decide +kernel

/-- The worked selection (chapter *Balancing*): six cells, keys in 0.1 V, ranked with the penalty of 20 keys and without. -/
theorem test_swap_penalty_ranking :
    let cell (lane key : Nat) (prev : Bool) : Entry := { (default : Entry) with lane := lane, key := key, prev := prev }
    let cells := [cell 0 43000 true, cell 1 42965 false, cell 2 43010 true, cell 3 42990 false, cell 4 43050 true, cell 5 42982 false]
    let order (pen : Nat) : List Nat := (sortBy (rankBefore true) (cells.map (ranked true false 0 pen))).map Ranked.idx
    order 20 = [1, 0, 5, 2, 3, 4] ∧ order 0 = [1, 5, 3, 0, 2, 4] := by
  decide +kernel

/-- The worked window of DC energy (chapter *Measurement*): 10 ms at codes 7,046,431 and 5,326,100 import 19,999,999 J. The fraction is that of
the exact product, 0.60 J by hand; the example prints 0.64, which its own codes do not give. -/
theorem test_energy_window :
    let d := dvs [(F.MET_SCALE_V_VOLTS, 0x3E189680), (F.MET_SCALE_I_AMPS, 0x39BB8000)]
    let acc := (d.energyPair ⟨0, 40000000, 40000000, 7046431, false⟩ ⟨0, 40000000, 40000000, 5326100, false⟩).met.accImport
    acc / 2 ^ 32 = 19999999 ∧ acc % 2 ^ 32 * 100 / 2 ^ 32 = 60 := by
  decide +kernel

/-- R115, R116: the line bits of a USF and of a DSF in each coding. -/
theorem test_line_bits :
    [(frameLine 0 (List.replicate 64 0#8)).bitCount, (frameLine 2 (List.replicate 96 0#8)).bitCount, (frameLine 3 (List.replicate 64 0#8)).bitCount,
      (frameLine 3 (List.replicate 96 0#8)).bitCount] = [650, 970, 528, 792] := by decide +kernel

/-- R113: the two control characters of the 8b/10b code at negative running disparity, 0011111010 and 1101101000, and characters that come back from
their bits; a word of the code that no character has is invalid. -/
theorem test_line_code :
    charBits false [.k285] = [0b0011111010] ∧ charBits false [.k277] = [0b1101101000] ∧
      (let x : List LChar := [.k277, .data 0x00#8, .data 0xF1#8, .data 0xEB#8, .data 0xFF#8, .k285, .data 0x07#8]
       readBits false (charBits false x) = x) ∧ readBits false [0] = [.bad] := by decide +kernel

/-- R15: an event counter wraps. -/
theorem test_counter_wraps : ((dvs [(F.GLB_RESET_COUNT, 0xFFFFFFFF)]).inc F.GLB_RESET_COUNT).g F.GLB_RESET_COUNT = 0 := by decide +kernel

/-! ## One step of some commands -/

/-- A head that has left reset with every register at its reset value. -/
def released : State := st { State.reset.dev with boot := { State.reset.dev.boot with held := false } }

/-- R42: a read of GLB_ID answers status 0 and the part number. -/
theorem test_read_glb_id :
    (after (.rd (restOf hcRd 0 0 0 0) []) released).dev.out = [.response 0 [0x6472] (crc8 (be 1 0 ++ be 4 0x6472))] := by decide +kernel

/-- R44, R45: the same with one bit of the header wrong gets no response; the failure is counted, and the last status is CRC. -/
theorem test_read_bad_crc :
    let d := (after (.rd (restOf hcRd 0 0 0 0 ^^^ 1) []) released).dev
    d.out = [] ∧ d.g F.HRP_CRC_ERR_COUNT = 1 ∧ d.g F.HRP_LAST_STATUS_STATUS = 1 := by decide +kernel

/-- R499: RESET without the key counts one refusal and resets nothing; with the key the head is in reset, with cause SOFT. -/
theorem test_soft_reset :
    (after .soft (st (dvs []))).dev.g F.GLB_RESET_REFUSE_COUNT = 1 ∧ (after .soft (st (dvs []))).dev.boot.held = false ∧
      (after .soft (st (dvs [(F.GLB_RESET_KEY_KEY, 0x5E7A)]))).dev.boot.held = true ∧
      (after .soft (st (dvs [(F.GLB_RESET_KEY_KEY, 0x5E7A)]))).dev.g F.GLB_RESET_CAUSE_CAUSE = 16 := by
  decide +kernel

/-- R327, R324: the host's Shutter latches both arms, shows HOST_HELD, and trips nothing. -/
theorem test_host_shutter :
    let d := (after .hostShutter (st (dvs [(F.RED_STATE_STATE, 3)]))).dev
    d.b F.PROT_STATUS_LATCHED0 = true ∧ d.b F.PROT_STATUS_LATCHED1 = true ∧ d.b F.PROT_STATUS_HOST_HELD = true ∧ d.b F.PROT_STATUS_TRIPPED = false := by
  decide +kernel

/-- R400, R403: in BOLTED the acknowledge needs ARMED, and is decided in the safety cycle; without it the refusal is counted. -/
theorem test_acknowledge_bolted :
    (after (.safeAck 0 500) (st (dvs [(F.SAF_STATE_STATE, 5)]))).dev.g F.SAF_ACK_REFUSE_COUNT = 1 ∧
      (after (.safetyCycle 0 0 0) (after (.safeAck 0 500) (st (dvs [(F.SAF_STATE_STATE, 5), (F.SAF_STATE_ARMED, 1)])))).dev.saf = stSelftest := by
  decide +kernel

/-- R144: an on edge while the other switch of the leg is on turns both off and counts INTERLOCK; a different leg is not touched. -/
theorem test_cell_interlock :
    let c : Cell := { (default : Cell) with sw := 0x05, pend := [⟨10, 10, true, 1⟩], offAt := List.replicate 8 none }
    let n := (after .cellEdge (stc c)).node
    n.sw = 0x04 ∧ n.interlock = 1 := by
  decide +kernel

/-- R145: a SHUTTER of the claim obeyed turns every switch off and latches; a lower claim changes nothing. -/
theorem test_cell_shutter :
    let c : Cell := { (default : Cell) with sw := 0x55, running := true, obeyed := some (0, 0x200), offAt := List.replicate 8 none }
    let n (claim : Nat) := (after (.cellShutter 0 0 (ol 0 0xE1 (sealOrdered 0xE1 (be 4 claim ++ be 1 0)))) (stc c)).node
    (n 0x200).sw = 0 ∧ (n 0x200).shutter = true ∧ (n 0x100).sw = 0x55 ∧ (n 0x100).shutter = false := by
  decide +kernel

/-- R484, R488: a token of OTP bits only goes up: PROVISION's end sets PROVISIONED, and DEPLOY then DEPLOYED. -/
theorem test_lifecycle_steps :
    let d : Dev := { dvs [(F.THM_STATUS_NV_OK, 1)] with sec := { (default : Sec) with running := some 5 } }
    let s := after .provisionComplete (st d)
    let t := after .deploy { s with dev := { s.dev with sec := { s.dev.sec with key := 0x9E3D } } }
    lifeBits s.otp = 1 ∧ lifeBits t.otp = 3 ∧ t.dev.g F.SEC_LIFECYCLE_STATE = 3 := by
  decide +kernel

/-- An empty queue idles, and a command at the front is taken off it. -/
theorem test_queue :
    (match step { State.reset with pending := [.lockstep] } with | .next t => t.pending | _ => [.soft]) = [] ∧
      (match step State.reset with | .next t => decide (t = State.reset) | _ => false) = true := by
  decide +kernel

/-! ## Witnesses: states and operands that meet the hypotheses of each statement, clause by clause -/

/-- O1: RD of GLB_ID; RD_INC of two words; RD_PORT of MBX0. -/
theorem witness_HostReads :
    (restOf hcRd 0 0 0 0 < 2 ^ 72 ∧ below (2 ^ 40) [] = true ∧ (st default).portTakes (hrpHeader hcRd (restOf hcRd 0 0 0 0)) []) ∧
    (restOf hcRdInc 0 0 1 0 < 2 ^ 72 ∧ below (2 ^ 40) [contOf 0] = true ∧
      (st default).portTakes (hrpHeader hcRdInc (restOf hcRdInc 0 0 1 0)) [contOf 0]) ∧
    (restOf hcRdPort 0x010410 0 0 0 < 2 ^ 72 ∧ (st default).portTakes (hrpHeader hcRdPort (restOf hcRdPort 0x010410 0 0 0)) []) := by
  unfold State.portTakes State.up; decide +kernel

/-- O2: WR of GLB_SHD_VIEW; WR_INC of the two words of CAD_TOD_LOAD; WR_PORT of window 0. -/
theorem witness_HostWrites :
    (st default).portTakes (hrpHeader hcWr (restOf hcWr 0x000054 15 0 1)) [] ∧
    (st default).portTakes (hrpHeader hcWrInc (restOf hcWrInc 0x010404 15 1 7)) [contOf 8] ∧
    (st default).portTakes (hrpHeader hcWrPort (restOf hcWrPort 0x010604 15 1 7)) [contOf 8] ∧
    ((Chip.hrpWrites ⟨[], (default : Dev).taking (hrpParse (hrpHeader hcWr (restOf hcWr 0x000054 15 0 1)) [])⟩
      (hrpParse (hrpHeader hcWr (restOf hcWr 0x000054 15 0 1)) [])).dev.boot.held = false) := by
  unfold State.portTakes State.up; decide +kernel

/-- O3: NOP; an access that is served; one that is not, and one whose domain went off; aborts of both kinds; a header that fails its CRC. -/
theorem witness_HostPort :
    (st default).portTakes (hrpHeader hcNop (restOf hcNop 0 0 0 0)) [] ∧
    (let r : HrpReq := ⟨hcRd, 0x020000, 0, 0, [], false, false⟩
     let d : Dev := { dvs [] with hrp := ⟨[r], false, false, true⟩ }
     (st d).up ∧ d.hrp.reqs = [r] ∧ d.hrp.off = false ∧ d.hrpServed r = true) ∧
    (let r : HrpReq := ⟨hcRd, 0x020000, 0, 0, [], false, false⟩
     let d : Dev := { dv [] with hrp := ⟨[r], true, false, true⟩ }
     (st d).up ∧ d.hrp.reqs = [r] ∧ d.hrpServed r = false ∧ d.hrp.off = true ∧ r.lost = false ∧ d.hrp.answered = false ∧ d.hrp.reqs = [] ++ [r]) ∧
    (let d : Dev := { dv [] with hrp := ⟨[], false, true, true⟩ }
     (st d).up ∧ d.hrp.answered = true) ∧
    (headerGood 0 = false ∧ (0 : Nat) < 2 ^ 80) := by
  unfold State.portTakes State.up; decide +kernel

/-- O4: a CFG register of the cadence block, and an SHD register; a range that fails; a windowed parameter; a write that no byte enables. -/
theorem witness_PlainWrite :
    (let d := dvs []
     (st d).up ∧ d.plainTakes 0x020008 0x9C40 15 ∧ d.plainTakes 0x02000C 60 15 ∧ d.rangeOk 0x020008 0x9C40 = true ∧ d.windowed 0x020008 = none ∧
      d.plainTakes 0x08411C 0 15 ∧ d.rangeOk 0x08411C (mergeWord (d.regStored 0x08411C) 0 15) = false ∧
      d.plainTakes 0x160440 1 15 ∧ d.windowed 0x160440 = some (some (F.ceSet 0 0)) ∧ ¬ d.plainTakes 0x020009 0 15) := by
  unfold Dev.plainTakes State.up; decide +kernel

/-- O5, O6, O7: the first and the last group; a group taken and rejected, and taken and applied. -/
theorem witness_Commit :
    ((dvs []).hostMay 0x010000 1 = true ∧ (dvs []).hostMay (0x010000 + 0x20 * 12) 1 = true ∧ (dvs []).hostMay 0x160000 1 = true ∧
      (dvs []).hostMay (0x160000 + 0x20 * 4) 1 = true) ∧
    (let d : Dev := { dvs [(F.CMT_STATUS_PENDING 12, 1), (F.AV_CMT_STATUS_PENDING 4, 1), (F.CAD_SYNC_STATE_TICKS, 1)] with cad := { (default : Cad) with t0Set := true } }
     (st d).up ∧ d.ticking = true ∧ d.b (F.CMT_STATUS_PENDING 12) = true ∧ d.isLead = true ∧ d.b (F.AV_CMT_STATUS_PENDING 4) = true ∧
      mget d.cmt.av 17 = none) ∧
    (let c : Cmt := { (default : Cmt) with taken := [(12, true)], verdict := [(12, 0x83)] }
     (∀ j, j < 13 → mget c.taken j = decide (j = 12)) ∧ mget c.verdict 12 ≠ 0) ∧
    (let c : Cmt := { (default : Cmt) with taken := [(0, true)] }
     (∀ j, j < 13 → mget c.taken j = decide (j = 0)) ∧ mget c.verdict 0 = 0) := by
  unfold State.up; decide +kernel

/-- O8: a set staged at position 1, by the lead's own copy not; a verdict heard at the lead, and one for no commit. -/
theorem witness_ArmView :
    (let d := dvs [(F.GLB_BOOT_STATUS_POSITION, 1)]
     (st d).up ∧ hdrOk (hd 0) = true ∧ mwf ([] : SMap Nat) = true ∧ d.isLead = false ∧ d.actsOn spStage (hd 0) = true ∧
      (dvs []).isLead = true) ∧
    (let c : AvCommit := { (default : AvCommit) with target := 3 }
     let d : Dev := { dvs [] with cmt := { (default : Cmt) with av := [(17, some c)] } }
     (st d).up ∧ d.isLead = true ∧ d.actsOn spVerdict (hd 7) = true ∧ mget d.cmt.av 17 = some c ∧ c.target = 3 ∧ c.decided = none ∧
      c.target ≠ 4) := by
  unfold State.up; decide +kernel

/-- O8: the set that is due in the present frame, applied, cancelled and of unknown outcome; the commit that ends with it at the lead. -/
theorem witness_ArmViewApply :
    (∀ o ∈ [some true, some false, none],
      let x : AvStaged := ⟨0, [], o, none⟩
      let d : Dev := { dvs [] with cmt := { (default : Cmt) with staged := [(13, some x)] } }
      (st d).up ∧ d.avDue = [13 + 0] ∧ mget d.cmt.av 13 = none ∧ mget d.cmt.staged 13 = some x ∧ x.target = d.cad.frame ∧ x.outcome = o) ∧
    (let c : AvCommit := { (default : AvCommit) with decided := some true }
     let d : Dev := { dvs [] with cmt := { (default : Cmt) with av := [(17, some c)] } }
     mget d.cmt.av 17 = some c ∧ c.target = d.cad.frame ∧ c.decided = some true ∧ (default : AvCommit).decided ≠ some true) := by
  unfold State.up; decide +kernel

/-- O9: a request at a local mailbox and at the arm view's; captures of a local item, of CAPTURE, at the lead and at another head; a read; a part;
a timeout. -/
theorem witness_Mailbox :
    ((dvs []).hostMay (mbxReqAddr 3) (1 + 256 * bit false) = true ∧ mbServes 3 0x01 = true ∧ (dvs []).mbArgOk 0x01 ((dvs []).g (mbArg 3)) = true ∧
      (dvs []).hostMay (mbxReqAddr 4) (0x40 + 256 * bit true) = true ∧ mbServes 3 0x40 = false) ∧
    (let d : Dev := { dvs [(mbBusy 0, 1)] with mbx := [(0, { (default : Mbx) with item := 0x01, due := some 0 })] }
     d.b (mbBusy 0) = true ∧ (d.mb 0).item ≠ 0x08 ∧ d.frameCome (d.mb 0).due = true ∧ ((st d).dev.fresh.at 5).mbArgOk (d.mb 0).item (d.mb 0).arg = true) ∧
    (let d : Dev := { dvs [(mbBusy 3, 1)] with mbx := [(3, { (default : Mbx) with item := 0x08, at_ := some (7, 0) })] }
     d.b (mbBusy 3) = true ∧ (d.mb 3).item = 0x08 ∧ (d.mb 3).at_ = some (7, 0)) ∧
    (let d : Dev := { dvs [(mbBusy 4, 1)] with mbx := [(4, { (default : Mbx) with item := 0x40, due := some 0 })] }
     d.isLead = true ∧ d.b (mbBusy 4) = true ∧ (d.mb 4).at_ = none ∧ d.frameCome (d.mb 4).due = true ∧ (d.mb 4).item = 0x40) ∧
    (let d : Dev := { dvs [(F.GLB_BOOT_STATUS_POSITION, 1)] with red := { (default : Red) with snapPart := some (0, 0x40, 0) } }
     d.isLead = false ∧ d.red.snapPart = some (0, 0x40, 0) ∧ later 0 d.cad.frame = false) ∧
    (let d : Dev := { dvs [(mbValid 0, 1)] with mbx := [(0, { (default : Mbx) with words := [1, 2], ptr := 1 })] }
     d.served (blockOf (mbxDataAddr 0)) = true ∧ d.b (mbValid 0) = true ∧ (dvs []).b (mbValid 0) = false) ∧
    (let d : Dev := { dvs [(mbBusy 4, 1)] with mbx := [(4, { (default : Mbx) with item := 0x40, due := some 9 })] }
     d.actsOn spSnapPart (hd 7) = true ∧ d.b (mbBusy 4) = true ∧ (d.mb 4).item = 0x40 ∧ (d.mb 4).due = some 9 ∧ 1 ≤ (hd 7).origin ∧
      (List.replicate 128 0).length = 128 ∧ (d.mb 4).at_ = none) ∧
    (let d : Dev := { dvs [(mbBusy 4, 1)] with mbx := [(4, { (default : Mbx) with item := 0x40, due := some 9, at_ := some (9, 0), wait := 64 })] }
     d.b (mbBusy 4) = true ∧ (d.mb 4).at_ = some (9, 0) ∧ 64 ≤ (d.mb 4).wait) := by
  decide +kernel

/-- O10: the last word of window 1, the first beyond it, the last of window 3; a window that is in use. -/
theorem witness_Windows :
    (let d := dvs [(F.DW_PTR_PTR 1, 1023)]
     d.hostMay (dwAddr 1) 0 = true ∧ d.dwUsed 1 = false ∧ d.g (F.DW_PTR_PTR 1) < dwSize 1) ∧
    (let d := dvs [(F.DW_PTR_PTR 1, 1024)]
     d.hostMay (dwAddr 1) 0 = true ∧ dwSize 1 ≤ d.g (F.DW_PTR_PTR 1) ∧ d.served (blockOf (dwAddr 1)) = true) ∧
    (let d := dvs [(F.DW_PTR_PTR 3, 1023)]
     d.served (blockOf (dwAddr 3)) = true ∧ d.hostMay (dwAddr 3) 0 = true ∧ d.g (F.DW_PTR_PTR 3) < dwSize 3) ∧
    (let d : Dev := { dvs [] with sec := { (default : Sec) with running := some 0 } }
     d.dwUsed 0 = true ∧ d.hostMay (dwAddr 0) 0 = true) := by
  decide +kernel

/-- O11: a whole second at the lead and one that is not; an armed edge with each; edges taken and not in each state; the four moves of the state,
at the lead; an edge at another head, and with PPS_EN 0. -/
theorem witness_Pps :
    (let d := dvs [(F.CAD_TOD_LOAD_LO_TOD, 4000000000)]
     (st d).up ∧ d.hostMay 0x020018 1 = true ∧ d.b F.CAD_TOD_ARM_ARM = false ∧ d.isLead = true ∧ d.todValue % secQ = 0 ∧
      (dvs [(F.CAD_TOD_LOAD_LO_TOD, 1)]).todValue % secQ ≠ 0 ∧ (dvs [(F.CAD_TOD_LOAD_LO_TOD, 1)]).hostMay 0x020018 1 = true ∧
      (dvs [(F.CAD_TOD_ARM_ARM, 1)]).b F.CAD_TOD_ARM_ARM = true ∧ (dvs [(F.GLB_BOOT_STATUS_POSITION, 1)]).isLead = false) ∧
    (let d (lo : Nat) := dvs [(F.CAD_CONFIG_PPS_EN, 1), (F.CAD_TOD_ARM_ARM, 1), (F.CAD_TOD_LOAD_LO_TOD, lo)]
     (d 0).b F.CAD_CONFIG_PPS_EN = true ∧ (d 0).isLead = true ∧ (d 0).b F.CAD_TOD_ARM_ARM = true ∧ (d 0).todValue % secQ = 0 ∧
      (d 4).todValue % secQ ≠ 0 ∧ (dvs []).b F.CAD_CONFIG_PPS_EN = false) ∧
    (let d (state : Nat) : Dev := { dvs [(F.CAD_CONFIG_PPS_EN, 1), (F.CAD_SYNC_STATE_STATE, state), (F.CAD_PPS_WINDOW_WINDOW, 40000)] with
                                    cad := { (default : Cad) with lastEdge := some 40000, accepted := some 40000, runLen := 2 } }
     (d 2).b F.CAD_TOD_ARM_ARM = false ∧ (d 2).isLead = true ∧
      (phaseError ((d 2).at 4000040000).global).natAbs ≤ (d 2).g F.CAD_PPS_WINDOW_WINDOW ∧
      (d 2).g F.CAD_PPS_WINDOW_WINDOW < (phaseError ((d 2).at 4000040001).global).natAbs ∧
      (d 1).clockAt 3996040000 = 40000 + 3996000000 ∧ (d 1).clockAt 3996039999 < 40000 + 3996000000 ∧
      (d 3).g F.CAD_SYNC_STATE_STATE = 3 ∧ (d 3).clockAt 4004040000 ≤ 40000 + 4004000000 ∧ (d 4).cad.runLen + 1 = 3) ∧
    (let d : Dev := { dvs [(F.CAD_SYNC_STATE_STATE, 1)] with cad := { (default : Cad) with tight := 4 } }
     d.isLead = true ∧ d.g F.CAD_SYNC_STATE_STATE = 1 ∧ 4 ≤ d.cad.tight ∧ d.cad.accepted.getD 0 + 10000000000 ≤ d.clockAt 10000000000) ∧
    (let d : Dev := { dvs [(F.CAD_SYNC_STATE_STATE, 2)] with cad := { (default : Cad) with loose := 3 } }
     d.isLead = true ∧ d.g F.CAD_SYNC_STATE_STATE = 2 ∧ 3 ≤ d.cad.loose) ∧
    (let d := dvs [(F.CAD_SYNC_STATE_STATE, 3), (F.CAD_HOLDOVER_LIMIT_SECONDS, 60)]
     d.isLead = true ∧ d.g F.CAD_SYNC_STATE_STATE = 3 ∧ d.cad.holdSince + d.g F.CAD_HOLDOVER_LIMIT_SECONDS * secQ ≤ d.clockAt (60 * secQ)) := by
  unfold State.up; decide +kernel

/-- O12: a head that ticks on, one at its first tick, one that begins again late, one whose PLL is unlocked. -/
theorem witness_Tick :
    (let d : Dev := { dvs [(F.CAD_SYNC_STATE_TICKS, 1), (F.RED_STATE_STATE, 3)] with cad := { (default : Cad) with t0Set := true, started := true, tbLocked := true } }
     (st d).up ∧ d.mayTick = true ∧ d.ticking = true ∧ d.cad.started = true) ∧
    (let d : Dev := { dvs [(F.RED_STATE_STATE, 3)] with cad := { (default : Cad) with t0Set := true, tbLocked := true } }
     d.mayTick = true ∧ d.cad.started = false) ∧
    (let d : Dev := { dvs [(F.RED_STATE_STATE, 3), (F.CAD_FRAME_PERIOD_PERIOD, 200000)] with
                      cad := { (default : Cad) with t0Set := true, tbLocked := true, started := true, now := 4000000 } }
     d.mayTick = true ∧ d.ticking = false ∧ d.cad.started = true ∧ 1 ≤ d.periodQ ∧ d.cad.tickAt + d.periodQ ≤ d.cad.now) ∧
    (default : Dev).cad.tbLocked = false := by
  unfold State.up; decide +kernel

/-- O13: probes, echoes good and bad, alignment, and a probe over the span by which time comes and by which it does not, at the lead and at
another head. -/
theorem witness_Probes :
    (let d : Dev := { dvs [(F.LANE_STATE_LANE_UP 0, 1), (F.CAD_PROBE_INTERVAL_FRAMES, 64)] with cad := { (default : Cad) with probe := [(0, { (default : Probe) with count := 64 })] } }
     probeLane 0 = true ∧ d.laneUp 0 = true ∧ d.g F.CAD_PROBE_INTERVAL_FRAMES ≤ (d.probeOf 0).count) ∧
    (let d : Dev := { dvs [(F.LANE_STATE_LANE_UP 63, 1)] with cad := { (default : Cad) with lQ := 4000, probe := [(63, { (default : Probe) with due := true, busy := 7 })] } }
     (d.probeOf 63).due = true ∧ (d.probeOf 63).pending = none ∧ d.laneUp 63 = true ∧ (d.probeOf 63).busy ≤ d.clockAt 7 ∧
      d.clockAt 7 + probeTime (d.g (F.LANE_CFG_RATE 63)) + 80 ≤ d.nextLaunch (d.clockAt 7)) ∧
    (let d : Dev := { dvs [] with cad := { (default : Cad) with probe := [(0, { (default : Probe) with pending := some (0x10007, 0) })] } }
     let c := sealOrdered 0x4B (be 5 0x10010 ++ be 3 0x10020 ++ be 2 0 ++ be 2 7)
     d.got 0 (ol 0 0x4B c) = .ordered 0x4B c ∧ c.length = 13 ∧ orderedOk 0x4B c = true ∧ (d.probeOf 0).pending = some (0x10007, 0) ∧
      beAt c 10 2 = 0x10007 % 2 ^ 16 ∧ (dvs []).got 63 (ol 0 0x4B (List.replicate 13 0#8)) = .ordered 0x4B (List.replicate 13 0#8)) ∧
    orderedOk 0x4B (List.replicate 13 0#8) = false ∧
    (let d : Dev := { dvs [] with cad := { (default : Cad) with headOutside := 3, probe := [(0, { (default : Probe) with rejects := 16, outside := 3, pending := some (1, 4) })] } }
     16 ≤ (d.probeOf 0).rejects ∧ (d.probeOf 0).pending = some (1, 4) ∧ 3 ≤ (d.probeOf 0).outside ∧ 3 ≤ d.cad.headOutside) ∧
    (let d : Dev := { dvs [(F.GLB_BOOT_STATUS_POSITION, 1), (F.LANE_CFG_RATE 64, 3), (F.LANE_CFG_RATE 67, 3)] with conf := { (default : Conf) with heads := 4 } }
     let c := sealOrdered 0x2D (be 5 100 ++ be 2 20)
     d.isLead = false ∧ c.length = 8 ∧ orderedOk 0x2D c = true ∧ d.got 67 (ol 3 0x2D c) = .ordered 0x2D c ∧ 67 = d.timeLane ∧
      d.got 64 (ol 3 0x2D c) = .ordered 0x2D c ∧ 64 ≠ d.timeLane ∧ (dvs []).isLead = true ∧ (dvs []).got 71 (ol 0 0x2D c) = .ordered 0x2D c ∧
      d.ticking = false) := by
  decide +kernel

/-- O14: a pass that may run, at the lead and at another head, the second with a FOLLOW; a run of non-finite frames at its limit; an
initialisation that is due; values of a head's sinks, acted on and not. -/
theorem witness_ControlEngine :
    (let d : Dev := { dvs [(F.CAD_SYNC_STATE_TICKS, 1), (F.RED_STATE_STATE, 3)] with
                      cad := { (default : Cad) with started := true }, conf := { (default : Conf) with ce := [default] } }
     (st d).up ∧ d.ceRuns = true ∧ d.isLead = true ∧ d.hostMay 0x0C000C 1 = true ∧ (∀ i ∈ d.cePrimary, (d.ceInst i).ty ≠ tFollow)) ∧
    (let d : Dev := { dvs [(F.CAD_SYNC_STATE_TICKS, 1), (F.RED_STATE_STATE, 3), (F.GLB_BOOT_STATUS_POSITION, 7)] with
                      cad := { (default : Cad) with started := true }, conf := { (default : Conf) with ce := [default] } }
     d.ceRuns = true ∧ d.isLead = false) ∧
    (let d : Dev := { dvs [(F.CE_NONFINITE_LIMIT_FRAMES, 8)] with ce := { (default : Ce) with inst := [(255, { (default : CeState) with nfRun := 8 })] } }
     d.g F.CE_NONFINITE_LIMIT_FRAMES ≤ (mget d.ce.inst 255).nfRun ∧ 1 ≤ (mget d.ce.inst 255).nfRun) ∧
    (let d : Dev := { dvs [(F.CAD_SYNC_STATE_TICKS, 1)] with cad := { (default : Cad) with started := true }, ce := { (default : Ce) with initDue := true } }
     d.ce.initDue = true ∧ d.cad.started = true ∧ d.ticking = true) ∧
    (hdrOk (hd 7) = true ∧ below (2 ^ 32) [1, 2, 3, 4] = true ∧ (dvs []).actsOn spSpanOut (hd 7) = true ∧ 1 ≤ (hd 7).origin ∧
      (dvs [(F.GLB_BOOT_STATUS_POSITION, 3)]).actsOn spSpanOut (hd 7) = false) := by
  unfold State.up; decide +kernel

/-- O15: each stage of a frame at the lead, with lane 63 enabled, configured and UP; a head whose RELINQUISH has come, and one whose claim copies
differ; a run of misses at its limit; a head that is not the lead; a late launch; a locked PLL. -/
theorem witness_FrameStages :
    (let f : List (Fld × Nat) := [(F.CAD_SYNC_STATE_TICKS, 1), (F.RED_STATE_STATE, 3), (F.HCL_PORT_CTRL_ENABLE 63, 1), (F.LANE_CFG_USED 63, 1),
      (F.LANE_STATE_LANE_UP 63, 1), (F.CAD_MISS_LIMIT_LIMIT, 3)]
     let w : FrameWork := default
     let d := fun (w : FrameWork) => ({ dvs f with cad := { (default : Cad) with work := w } } : Dev)
     (d w).cad.work.gathered = false ∧ (d w).ticking = true ∧ (d w).b (F.HCL_PORT_CTRL_ENABLE 63) = true ∧
      ((d w).port! 63).usable = false ∧ ((d w).port! 63).got = false ∧ (d w).laneUp 63 = true ∧
     (d { w with gathered := true }).cad.work.gathered = true ∧ (d { w with gathered := true }).cad.work.sorted = false ∧
     (d w).spectator = false ∧ (d w).isLead = true ∧
     (d { w with cePass := true }).cad.work.cePass = true ∧ (d { w with ceOver := true }).cad.work.quotas = false ∧
     (d { w with sorted := true, quotaLate := true }).cad.work.quotaLate = true ∧ (d { w with sorted := true, quotas := true }).cad.work.selected = false ∧
     (d { w with selected := true }).cad.work.launched = false ∧ 2 ≤ (d w).redState ∧ (d w).red.relqNext = false ∧
     (d w).claimDiffers = false ∧ (d w).cad.work.launchLate = false ∧ ({ d w with red := { (default : Red) with relqNext := true } } : Dev).red.relqNext = true ∧
     (dvs [(F.RED_CLAIM_CLAIM, 0x100)]).claimDiffers = true ∧
     (d w).enabledLanes.filter (fun l => (d w).configured l && (d w).laneUp l) = [63]) ∧
    (let d : Dev := { dvs [(F.CAD_MISS_LIMIT_LIMIT, 3), (F.RED_STATE_STATE, 3)] with cad := { (default : Cad) with miss := [(missKey 1 7, 3), (missKey 2 0, 3)], tbLocked := true } }
     d.g F.CAD_MISS_LIMIT_LIMIT ≤ mget d.cad.miss (missKey 1 7) ∧ 1 ≤ mget d.cad.miss (missKey 1 7) ∧ d.redState = 3 ∧
      mget d.cad.missRaised (missKey 1 7) = false ∧ d.cad.tbLocked = true ∧ d.relqMask 0 = false ∧ 3 ≤ mget d.cad.miss (missKey 2 0) ∧
      (dvs [(F.RED_START_RELQ_MASK, 1)]).relqMask 0 = true) ∧
    (let d := dvs [(F.CAD_SYNC_STATE_TICKS, 1), (F.GLB_BOOT_STATUS_POSITION, 1)]
     d.isLead = false ∧ d.ticking = true ∧ d.spectator = false ∧ d.cad.work.quotas = false ∧ d.cad.work.quotaLate = false) := by
  decide +kernel

/-- O16: summaries at the lead, of the present frame and another, and one not acted on; quotas at another head, fresh, late, that sends the group
to DORMANT, and not acted on; a suppression at its last frame, and at its time with and without zero current. -/
theorem witness_Summaries :
    (hdrOk (hd 7) = true ∧ (dvs []).actsOn spSummary (hd 7) = true ∧ (dvs []).isLead = true ∧ 1 ≤ (hd 7).origin ∧
      (default : Report).frame = (dvs []).cad.frame ∧ ({ (default : Report) with frame := 9 } : Report).frame ≠ (dvs []).cad.frame ∧
      (dvs [(F.GLB_BOOT_STATUS_POSITION, 1)]).actsOn spSummary (hd 7) = false) ∧
    (let d := dvs [(F.CAD_SYNC_STATE_TICKS, 1), (F.GLB_BOOT_STATUS_POSITION, 1), (F.RED_STATE_STATE, 2), (F.RED_STATE_PHASE, 5)]
     let q : QuotaMsg := { (default : QuotaMsg) with dormant := true }
     d.actsOn spQuota (hd 0) = true ∧ d.isLead = false ∧ d.ticking = true ∧ (default : QuotaMsg).frame = d.cad.frame ∧
      (default : QuotaMsg).dormant = false ∧ d.cad.work.quotaLate = false ∧ d.cad.work.quotas = false ∧ q.dormant = true ∧ d.redState = 2 ∧
      d.g F.RED_STATE_PHASE = 5 ∧ ({ q with frame := 9 } : QuotaMsg).frame ≠ d.cad.frame ∧
      (dvs [(F.LANE_ENUM_SPECTATOR, 1)]).actsOn spQuota (hd 0) = false) ∧
    (let d (z : Nat) : Dev := { dvs [(F.AV_DCF_HOLD_FRAMES, 8), (F.AV_DCF_TMAX_MS, 1)] with
                      cad := { (default : Cad) with now := msQ }, bal := { (default : Bal) with supp := [(1, { (default : Supp) with active := true, zero := z })] } }
     (mget (d 8).bal.supp 1).active = true ∧ (mget (d 8).bal.supp 1).last = false ∧ 1 ≤ (mget (d 8).bal.supp 1).zero ∧
      (d 8).g F.AV_DCF_HOLD_FRAMES ≤ (mget (d 8).bal.supp 1).zero ∧ ¬ (d 7).g F.AV_DCF_HOLD_FRAMES ≤ (mget (d 7).bal.supp 1).zero ∧
      (mget (d 8).bal.supp 1).since + (d 8).g F.AV_DCF_TMAX_MS * msQ ≤ (d 8).cad.now) := by
  decide +kernel

/-- O17: a frame that fails its CRC; the sample of the present frame, a stale one and another; values of another type, another claim, another
boot and another frame echo; a lane that has its frame, a frame after the gather deadline, one cut short, and lanes that take nothing. -/
theorem witness_Usf :
    (usfDecode (List.replicate 64 0#8) = none ∧ (List.replicate 64 0#8).length = 64 ∧
      (dvs []).got 63 (fr 0 (List.replicate 64 0#8)) = .run (List.replicate 64 0#8) ∧
      (dvs [(F.LANE_CFG_RATE 63, 3)]).got 63 (fr 3 (List.replicate 64 0#8)) = .run (List.replicate 64 0#8)) ∧
    (let d := dvs [(F.HCL_PORT_CTRL_ENABLE 63, 1), (F.LANE_STATE_LANE_UP 63, 1), (F.HCL_VCAP_MAX_VOLTS, 0x45000000)]
     let u : Usf := { (default : Usf) with sampleFrame := 0, vcap := 0x44800000, segment := List.replicate 28 0#8 }
     (st d).up ∧ d.b (F.HCL_PORT_CTRL_ENABLE 63) = true ∧ d.laneUp 63 = true ∧ d.cad.work.gathered = false ∧ (d.port! 63).got = false ∧
      d.got 63 (fr 0 u.encode) = .run u.encode ∧ u.encode.length = 64 ∧ usfDecode u.encode = some u ∧ u.sampleFrame = d.cad.frame ∧
      u.sampleEpoch = d.cad.epoch ∧ (d.port! 63).boot = none ∧ u.status / 16 % 4 = d.g (F.HCL_PORT_CTRL_CELL_TYPE 63) ∧
      u.claimEcho = d.g F.RED_CLAIM_CLAIM ∧ later u.frameEcho d.cad.frame = false ∧ d.implausible 63 u = false ∧
      ({ u with status := 0x10 } : Usf).status / 16 % 4 ≠ d.g (F.HCL_PORT_CTRL_CELL_TYPE 63) ∧
      ({ u with sampleFrame := 2 ^ 32 - 1 } : Usf).sampleFrame = (d.cad.frame + 2 ^ 32 - 1) % 2 ^ 32 ∧
      claimHigher ({ u with claimEcho := 0x100 } : Usf).claimEcho (d.g F.RED_CLAIM_CLAIM) = true ∧
      claimHigher 0x100 0x200 = false ∧ (0x100 : Nat) ≠ 0x200 ∧ later 1 d.cad.frame = true ∧ later d.cad.frame (2 ^ 32 - 1) = true ∧
      d.implausible 63 { u with vcap := 0x45800000 } = true ∧
      (∃ b, ({ (default : Port) with boot := some 3 } : Port).boot = some b ∧ b ≠ u.status % 16)) ∧
    (let d : Dev := { dvs [(F.HCL_PORT_CTRL_ENABLE 63, 1), (F.LANE_STATE_LANE_UP 63, 1)] with port := [(63, { (default : Port) with got := true })] }
     (d.port! 63).got = true ∧ d.cad.work.gathered = false) ∧ (dvs []).laneUp 63 = false ∧ (dvs []).b (F.HCL_PORT_CTRL_ENABLE 63) = false ∧
    (dvs []).got 63 (fr 0 [1#8]) = .run [1#8] ∧ [1#8].length ≠ 64 := by
  unfold State.up
  refine ⟨by decide +kernel, ⟨by decide +kernel, by decide +kernel, by decide +kernel, by decide +kernel, by decide +kernel, by decide +kernel,
    by decide +kernel, by decide +kernel, by decide +kernel, by decide +kernel, by decide +kernel, by decide +kernel, by decide +kernel,
    by decide +kernel, by decide +kernel, by decide +kernel, by decide +kernel, by decide +kernel, by decide +kernel, by decide +kernel,
    by decide +kernel, by decide +kernel, by decide +kernel, ⟨3, by decide +kernel⟩⟩, by decide +kernel⟩

/-- O18: bad frames at each limit; a SUSPECT action with its 1,024 good frames. -/
theorem witness_Cells :
    (let d : Dev := { dvs [(F.HCL_PORT_CTRL_ENABLE 0, 1), (F.LANE_STATE_LANE_UP 0, 1), (F.HCL_SUSPECT_LIMIT_LIMIT, 3), (F.HCL_LOST_LIMIT_LIMIT, 64)] with
                      port := [(0, { (default : Port) with bad := 64, ever := true })] }
     d.laneUp 0 = true ∧ d.b (F.HCL_PORT_CTRL_ENABLE 0) = true ∧ (d.port! 0).suspectRaised = false ∧ 1 ≤ (d.port! 0).bad ∧
      d.g F.HCL_SUSPECT_LIMIT_LIMIT ≤ (d.port! 0).bad ∧ (d.port! 0).lostRaised = false ∧ d.g F.HCL_LOST_LIMIT_LIMIT ≤ (d.port! 0).bad ∧
      ((d.port! 0).ever || d.eng.cellsUp) = true ∧ d.redState ≠ 1) ∧
    (let d : Dev := { dvs [] with port := [(63, { (default : Port) with suspects := [⟨0x0204, 1023, 0⟩, ⟨0x0202, 1024, 0⟩] })] }
     (d.port! 63).suspects.any (fun a => decide (1024 ≤ a.good)) = true) := by
  decide +kernel

/-- O19: an open that passes and one for a lane that is not UP; an active slot whose segment is due, at the limit and below it; a request to
abort; a lane that may be discovered, one disabled and one being discovered; the rest. -/
theorem witness_Conversations :
    (let d := dvs [(F.HCL_PORT_CTRL_ENABLE 0, 1), (F.LANE_STATE_LANE_UP 0, 1), (F.HCL_CONV_SLOTS_FREE, 128), (F.HCL_CONV_SLOTS_POOL_FREE, 1024),
       (F.HCL_CONV_REQ_KIND, 6)]
     d.hostMay 0x084110 1 = true ∧
      d.openCheck (d.g F.HCL_CONV_REQ_LANE) (d.g F.HCL_CONV_REQ_KIND) (d.g F.HCL_CONV_ARG0_ARG0) (d.g F.HCL_CONV_ARG1_ARG1) = 0 ∧
      d.freeSlots ≠ [] ∧ (d.cl 0).queue.length < 16 ∧ d.g F.HCL_CONV_SLOTS_POOL_FREE ≠ 0) ∧
    (dvs [(F.HCL_CONV_REQ_KIND, 6)]).openCheck 0 6 0 0 = 2 ∧
    (let d : Dev := { dvs [] with conv := [(63, { (default : ConvLane) with queue := [127] })] }
     d.activeSlot 63 = none ∧ (d.cl 63).queue = [127]) ∧
    (let d : Dev := { dvs [(F.HCL_SEG_TIMEOUT_FRAMES, 3), (F.HCL_RETX_LIMIT_COUNT, 8), (F.HCL_CONV_LANE_ACTIVE 63, 1),
                           (F.HCL_CONV_LANE_ACTIVE_SLOT 63, 127), (F.HCL_CONV_STATUS_STATE 127, 3), (F.HCL_CONV_STATUS_LANE 127, 63),
                           (F.HCL_CONV_AGE_FRAMES 127, 10)] with
                      slot := [(127, { (default : Slot) with unacked := [⟨1, 3, 8, false⟩], sndNext := 2, timeout := 10 })] }
     d.activeSlot 63 = some 127 ∧ d.slotLane 127 = 63 ∧
      (d.slotOf 127).unacked.any (fun u => decide (d.g F.HCL_SEG_TIMEOUT_FRAMES ≤ u.since) && !u.due && decide (d.g F.HCL_RETX_LIMIT_COUNT ≤ u.resends)) = true ∧
      d.slotActive 127 = true ∧ 1 ≤ (d.slotOf 127).sndNext ∧ (d.slotOf 127).timeout ≤ d.g (F.HCL_CONV_AGE_FRAMES 127) ∧
      d.b (F.HCL_CONV_STATUS_ABORT 127) = false ∧ d.hostMay (0x085000 + 4 * 127) (2 ^ 30) = true ∧ d.slotState 127 ≠ 0 ∧ d.slotState 127 ≠ 5 ∧
      (dvs [(F.HCL_CONV_STATUS_ABORT 127, 1)]).b (F.HCL_CONV_STATUS_ABORT 127) = true) ∧
    (let d : Dev := { dvs [(F.HCL_SEG_TIMEOUT_FRAMES, 3), (F.HCL_RETX_LIMIT_COUNT, 8)] with
                      slot := [(0, { (default : Slot) with unacked := [⟨1, 3, 7, false⟩] })] }
     (d.slotOf 0).unacked.any (fun u => decide (d.g F.HCL_SEG_TIMEOUT_FRAMES ≤ u.since) && !u.due && decide (d.g F.HCL_RETX_LIMIT_COUNT ≤ u.resends)) = false) ∧
    (let d := dvs [(F.HCL_CONV_STATUS_STATE 127, 5)]
     d.hostMay (0x085000 + 4 * 127) (2 ^ 31) = true ∧ d.slotState 127 = 5) ∧
    (let d := dvs [(F.HCL_PORT_CTRL_ENABLE 63, 1), (F.LANE_STATE_LANE_UP 63, 1), (F.HCL_CONV_LANE_DISC_STATE 63, 1)]
     d.hostMay (0x080084 + 0x100 * 63) 1 = true ∧ d.b (F.HCL_PORT_CTRL_ENABLE 63) = true ∧ d.laneUp 63 = true ∧ d.disc 63 ≠ 2 ∧
      (d.cl 63).deferred = false ∧ d.disc 63 = 1 ∧ (d.cl 63).retry = 0 ∧ (dvs []).b (F.HCL_PORT_CTRL_ENABLE 63) = false ∧
      (dvs [(F.HCL_CONV_LANE_DISC_STATE 63, 2)]).disc 63 = 2) ∧
    (let d : Dev := { dvs [(F.HCL_CONV_LANE_DISC_STATE 63, 1)] with conv := [(63, { (default : ConvLane) with deferred := true })] }
     (d.cl 63).deferred = true ∧ d.disc 63 = 1 ∧ d.freeSlots ≠ []) ∧
    (dv ((List.range 128).map (fun k => (F.HCL_CONV_STATUS_STATE k, 1)))).freeSlots = [] := by
  decide +kernel

/-- O20: failures at the limit and four passes. -/
theorem witness_ChannelTests :
    (let d : Dev := { dvs [(F.FS_TEST_RESULT_CONSEC 15, 3), (F.FS_TEST_FAIL_LIMIT_COUNT, 3)] with fs := { (default : Fs) with passRun := [(15, 668)] } }
     1 ≤ d.g (F.FS_TEST_RESULT_CONSEC 15) ∧ d.g F.FS_TEST_FAIL_LIMIT_COUNT ≤ d.g (F.FS_TEST_RESULT_CONSEC 15) ∧ fourLevels (mget d.fs.passRun 15) = true) := by
  decide +kernel

/-- O21: an idle and a busy converter; an edge that starts, none, and a window that ends, with and without CONT; no reference; the line-sync edges
at both bounds, and the first. -/
theorem witness_Metrology :
    ((dvs []).hostMay 0x101024 (2 ^ 3) = true ∧ (dvs []).metBusy 3 = false) ∧
    (let d : Dev := { dvs [(F.MET_STATUS_BUSY, 8), (F.MET_STATUS_LSYNC_OK, 1)] with met := { (default : Met) with lsyncAccepted := some 5 } }
     d.metBusy 3 = true ∧ (d.metOf 3).start = none ∧ d.metRefEdge (d.metOf 3) = some 5 ∧ (dvs []).metRefEdge (d.metOf 3) = none) ∧
    (let d (cont : Bool) : Dev := { dvs [(F.MET_STATUS_BUSY, 8), (F.MET_CTRL_CONT 3, bit cont)] with
        met := { (default : Met) with conv := [(3, { (default : MetConv) with mem := ⟨0, 2, 1, cont, 200⟩, start := some 5 })] } }
     (d false).metBusy 3 = true ∧ ((d false).metOf 3).start = some 5 ∧ metEndOf ((d false).metOf 3) ((d false).clockAt 80000005) = some 80000005 ∧
      ((d true).metOf 3).mem.cont = true ∧ ((d true).metOf 3).next = none ∧ (d true).b (F.MET_CTRL_CONT 3) = true ∧ (d true).met.stopping = false ∧
      metEndOf ((d true).metOf 3) ((d true).clockAt 80000005) = some 80000005 ∧ ((d false).metOf 3).mem.cont = false) ∧
    (let d : Dev := dvs [(F.MET_STATUS_BUSY, 8)]
     d.metBusy 3 = true ∧ (d.metOf 3).mem.refsel = 0 ∧ (d.metOf 3).idle = false ∧ d.b F.MET_STATUS_LSYNC_OK = false ∧ d.met.lsyncPrev = none ∧
      max (d.met.lsyncAccepted.getD 0) (d.metOf 3).goAt + 100000000 < d.clockAt 100000001) ∧
    (let d : Dev := { dvs [(F.MET_STATUS_BUSY, 8), (F.MET_CTRL_CONT 3, 1)] with met := { (default : Met) with conv := [(3, { (default : MetConv) with mem := ⟨0, 0, 1, true, 200⟩ })] } }
     (d.metOf 3).mem.refsel = 0 ∧ (d.metOf 3).mem.cont = true ∧ d.b (F.MET_CTRL_CONT 3) = true ∧ d.met.stopping = false ∧ (d.metOf 3).idle = false) ∧
    (let d : Dev := { dvs [] with met := { (default : Met) with lsyncPrev := some 0, lsyncRun := 1 } }
     (61520000 ≤ d.clockAt 61520000 - 0 ∧ d.clockAt 88880000 - 0 ≤ 88880000) ∧ d.clockAt 61519999 - 0 < 61520000 ∧
      88880000 < d.clockAt 88880001 - 0 ∧ 1 ≤ d.met.lsyncRun) ∧
    (let d := dvs [(F.MET_STATUS_LSYNC_OK, 1)]
     d.b F.MET_STATUS_LSYNC_OK = true ∧ d.met.lsyncAccepted.getD 0 + 100000000 ≤ d.clockAt 100000000) := by
  decide +kernel

/-- O22: a recorder that is idle, armed, triggered; a delivered code of its channel that meets the level on each side, and one that does not; a
code of another channel. -/
theorem witness_Recorder :
    ((dvs []).hostMay 0x102008 1 = true ∧ (dvs []).b F.CAP_CMD_ARM = false ∧ (dvs [(F.CAP_CMD_ARM, 1)]).b F.CAP_CMD_ARM = true ∧
      (dvs []).hostMay 0x102008 2 = true ∧ (dvs []).g F.CAP_STATE_STATE ≠ 1 ∧ (dvs [(F.CAP_STATE_STATE, 1)]).g F.CAP_STATE_STATE = 1) ∧
    (let d (above level state : Nat) := dvs [(F.CAP_CTRL_TRIG_LEVEL, 1), (F.CAP_STATE_STATE, state), (F.CAP_LEVEL_ABOVE, above), (F.CAP_LEVEL_LEVEL, level),
       (F.CAP_LEVEL_CHANNEL, 15), (F.CAD_SYNC_STATE_TICKS, 1), (F.CAD_FRAME_PERIOD_PERIOD, 5000)]
     (d 1 0x7FFF 1).b F.CAP_CTRL_TRIG_LEVEL = true ∧ 15 = (d 1 0x7FFF 1).g F.CAP_LEVEL_CHANNEL ∧ (d 1 0x7FFF 1).b (F.PROT_CH_STATE_SUBST 15) = false ∧
      (d 1 0x7FFF 1).slotAt ((d 1 0x7FFF 1).clockAt 400) = some 1 ∧ (d 1 0x7FFF 1).injectedSlot 15 1 = false ∧ (d 1 0x7FFF 1).injectedSlot 15 0 = false ∧
      (d 1 0x7FFF 1).b F.CAP_LEVEL_ABOVE = true ∧ sgn 16 ((d 1 0x7FFF 1).g F.CAP_LEVEL_LEVEL) ≤ 0x7FFF ∧ ¬ sgn 16 ((d 1 0x7FFF 1).g F.CAP_LEVEL_LEVEL) ≤ 0x7FFE ∧
      (d 0 0x8000 2).b F.CAP_LEVEL_ABOVE = false ∧ (-0x8000 : Int) ≤ sgn 16 ((d 0 0x8000 2).g F.CAP_LEVEL_LEVEL) ∧ 2 ≤ (d 0 0x8000 2).g F.CAP_STATE_STATE ∧
      14 ≠ (d 1 0x7FFF 1).g F.CAP_LEVEL_CHANNEL ∧ (dvs []).b F.CAP_CTRL_TRIG_LEVEL = false) ∧
    ((dvs [(F.CAP_STATE_STATE, 2)]).g F.CAP_STATE_STATE = 2 ∧ (dvs [(F.CAP_STATE_STATE, 2)]).cap.left = 0) := by
  decide +kernel

/-- Does a command answer a next state? -/
def goesOn (i : Instr) (s : State) : Bool := match exec i s with
  | .next _ => true
  | _ => false

/-- O23: an F4 and an F1 at a head that is not DORMANT; a queue that is full; a DORMANT head. -/
theorem witness_Raise :
    (let d := dvs [(F.RED_STATE_STATE, 3)]
     d.redState ≠ 1 ∧ ({ src := 0x0201, cls := 4 } : Raise).cls ≤ 4 ∧ 3 ≤ ({ src := 0x0201, cls := 4 } : Raise).cls ∧ 2 ≤ d.redState ∧
      ({ src := 0x0201, cls := 1 } : Raise).cls < 3 ∧ (mget d.prot.fq (queueOf 0x0201)).length < 8) ∧
    (let d : Dev := { dvs [] with prot := { (default : Prot) with fq := [(queueOf 0x0201, List.replicate 8 default)] } }
     d.redState ≠ 1 ∧ 8 ≤ (mget d.prot.fq (queueOf 0x0201)).length) ∧ (dvs [(F.RED_STATE_STATE, 1)]).redState = 1 := by
  decide +kernel

/-- A clamped tolerance is at most its bound. -/
theorem clamp_at_most (x : Int) : clampInt x (-128) 128 ≤ 128 := by
  unfold clampInt; split
  · decide
  · split <;> omega

/-- O24: a code beyond the hard window whatever the tolerance, as it goes beyond and while it stays; a comparator that is off. -/
theorem witness_HardComparator :
    (let d := dvs [(F.PROT_HARD_HI 15, 100), (F.PROT_HARD_LO 15, 0x8000), (F.RED_STATE_STATE, 3)]
     (st d).up ∧ (15 : Nat) < 16 ∧ d.redState ≠ 1 ∧ d.beyondHard 15 229 = some true ∧ d.b (F.PROT_CH_STATE_HARD 15) = false ∧ 2 ≤ d.redState ∧
      (d.pb (F.PROT_CH_STATE_HARD 15) true).b (F.PROT_CH_STATE_HARD 15) = true ∧ (d.pb (F.PROT_CH_STATE_HARD 15) true).gs (F.PROT_HARD_HI 15) = 100) ∧
    (let d := dvs [(F.PROT_HARD_HI 0, 0x7FFF), (F.PROT_HARD_LO 0, 0x8000)]
     (st d).up ∧ d.beyondHard 0 32767 = none) := by
  refine ⟨⟨rfl, by decide, by decide +kernel, ?_, by decide +kernel, by decide +kernel, by decide +kernel, by decide +kernel⟩, rfl, by decide +kernel⟩
  have h : (dvs [(F.PROT_HARD_HI 15, 100), (F.PROT_HARD_LO 15, 0x8000), (F.RED_STATE_STATE, 3)]).hardHi 15 =
      some (100 + clampInt (Config.hardTol 15 true) (-128) 128) := by
    unfold Dev.hardHi
    rw [show (dvs [(F.PROT_HARD_HI 15, 100), (F.PROT_HARD_LO 15, 0x8000), (F.RED_STATE_STATE, 3)]).gs (F.PROT_HARD_HI 15) = 100 from by decide +kernel]
    rfl
  have hb := clamp_at_most (Config.hardTol 15 true)
  unfold Dev.beyondHard
  rw [h]
  have : decide (100 + clampInt (Config.hardTol 15 true) (-128) 128 < (229 : Int)) = true := decide_eq_true (by omega)
  simp only [this]; rfl

/-- O24: a soft detection on a delivered code at its filter count, outside and inside blanking, and one short of the count; a substituted channel
that has compared; a pending one that waits, is confirmed, and is dropped. -/
theorem witness_SoftComparator :
    (let d := dvs [(F.PROT_SOFT_HI 15, 100), (F.PROT_SOFT_CTRL_FILTER 15, 1), (F.CAD_SYNC_STATE_TICKS, 1), (F.CAD_FRAME_PERIOD_PERIOD, 5000)]
     (st d).up ∧ d.redState ≠ 1 ∧ d.b (F.PROT_CH_STATE_SUBST 15) = false ∧ d.beyondSoft 15 101 = some true ∧ (d.chan 15).taken = false ∧
      d.g (F.PROT_SOFT_CTRL_FILTER 15) ≤ (d.chan 15).beyond + 1 ∧ d.blanked 15 0 = false ∧ (d.chan 15).pend = none ∧
      d.slotAt (d.clockAt 0) = some 0 ∧ d.injectedSlot 15 0 = false ∧
      ¬ (dvs [(F.PROT_SOFT_CTRL_FILTER 15, 2)]).g (F.PROT_SOFT_CTRL_FILTER 15) ≤ (d.chan 15).beyond + 1) ∧
    (let d : Dev := { dvs [(F.PROT_SOFT_HI 0, 100), (F.PROT_SOFT_CTRL_FILTER 0, 2), (F.PROT_SOFT_CTRL_ROLE 0, 1), (F.PROT_SOFT_CTRL_BLANK 0, 10),
                           (F.CAD_SYNC_STATE_TICKS, 1), (F.CAD_FRAME_PERIOD_PERIOD, 5000)] with
                      prot := { (default : Prot) with chan := [(0, { (default : Chan) with beyond := 1, changes := [1000] })] } }
     d.beyondSoft 0 (-1) = some false ∧ d.g (F.PROT_SOFT_CTRL_FILTER 0) ≤ (d.chan 0).beyond + 1 ∧ d.blanked 0 1000 = true ∧ d.blanked 0 1399 = true ∧
      d.blanked 0 1400 = false ∧ d.slotAt 1000 = some 2 ∧ d.injectedSlot 0 2 = false ∧ d.injectedSlot 0 1 = false) ∧
    (let d : Dev := { dvs [(F.PROT_CH_STATE_SUBST 0, 1)] with prot := { (default : Prot) with chan := [(0, { (default : Chan) with estAt := some 0 })] } }
     d.b (F.PROT_CH_STATE_SUBST 0) = true ∧ (d.chan 0).estAt = some d.cad.tickAt) ∧
    (let d : Dev := { dvs [(F.PROT_SOFT_HI 0, 100), (F.PROT_SOFT_CTRL_ROLE 0, 1), (F.PROT_SOFT_CTRL_BLANK 0, 10), (F.CAD_SYNC_STATE_TICKS, 1),
                           (F.CAD_FRAME_PERIOD_PERIOD, 5000)] with
                      prot := { (default : Prot) with chan := [(0, { (default : Chan) with pend := some ⟨0, true⟩, changes := [800] })] } }
     d.b (F.PROT_CH_STATE_SUBST 0) = false ∧ (d.chan 0).pend = some ⟨0, true⟩ ∧ d.blanked 0 16000 = false ∧ 0 + 16000 ≤ 16000 ∧
      d.slotAt 16000 = some 40 ∧ d.injectedSlot 0 40 = false ∧ d.injectedSlot 0 39 = false ∧ d.blanked 0 800 = true ∧ 800 < 0 + 16000 ∧
      d.slotAt 800 = some 2 ∧ d.injectedSlot 0 2 = false ∧ d.injectedSlot 0 1 = false ∧ d.beyondSoft 0 100 = none ∧ (d.beyondSoft 0 101).isSome = true) := by
  unfold State.up; decide +kernel

/-- O25: the first copy of a Shutter, its second by the other bundle, a bad one and no Shutter; the host's Shutters, RELEASE, a release at its
frame in force and void, F4_RESET with ticks and without, UNPIN, UNPIN_ALL, CLEAR_BYPASS of the last lane. -/
theorem witness_ShutterRelease :
    (let c := sealOrdered 0xE1 (be 4 7 ++ be 1 0x20)
     let d : Dev := { dvs [] with prot := { (default : Prot) with copies := [⟨7, 0x20, some false, 0⟩] } }
     c.length = 6 ∧ orderedOk 0xE1 c = true ∧ (dvs []).got 71 (ol 0 0xE1 c) = .ordered 0xE1 c ∧
      (dvs []).prot.copies.any (fun y => y.matches ⟨beAt c 0 4, beAt c 4 1, some true, 0⟩) = false ∧
      d.prot.copies.any (fun y => y.matches ⟨beAt c 0 4, beAt c 4 1, some (decide (67 ≤ 71)), d.cad.frame⟩) = true ∧
      orderedOk 0xE1 (List.replicate 6 0#8) = false ∧ (dvs []).got 64 nl ≠ .ordered 0xE1 c) ∧
    (let d := dvs [(F.PROT_RESET_KEY_KEY, 0xF4A5), (F.PROT_SEL_LANE, 63)]
     (st d).up ∧ d.redState ≠ 1 ∧ d.hostMay 0x103444 1 = true ∧ d.hostMay 0x160608 2 = true ∧ d.hostMay 0x160608 1 = true ∧
      d.hostMay 0x103444 2 = true ∧ d.g F.PROT_RESET_KEY_KEY = 0xF4A5 ∧ d.ticking = false ∧ d.hostMay 0x103444 4 = true ∧
      d.hostMay 0x103444 8 = true ∧ d.hostMay 0x103444 16 = true ∧ (d.port! (d.g F.PROT_SEL_LANE)).status.testBit 9 = false ∧
      ({ d with port := [(63, { (default : Port) with status := 512 })] } : Dev).port! 63 = { (default : Port) with status := 512 } ∧ (512 : Nat).testBit 9 = true) ∧
    (let d := dvs [(F.PROT_RESET_KEY_KEY, 0xF4A5), (F.CAD_SYNC_STATE_TICKS, 1)]
     d.hostMay 0x103444 2 = true ∧ d.ticking = true) ∧
    (let d : Dev := { dvs [] with cad := { (default : Cad) with frame := 9 }, prot := { (default : Prot) with relF := some 9, relInit := true, lastShutter := some 5 } }
     d.prot.relF = some d.cad.frame ∧ d.releaseVoid d.cad.frame = false ∧ d.prot.relInit = true) ∧
    (let d : Dev := { dvs [] with cad := { (default : Cad) with frame := 9 }, prot := { (default : Prot) with relF := some 9, lastShutter := some 6 } }
     d.prot.relF = some d.cad.frame ∧ d.releaseVoid d.cad.frame = true) := by
  unfold State.up; decide +kernel

/-- O26: an entry in queue 7 behind empty ones, one of class 4 at a head whose claim copies differ; a failed channel, one at its limit, one that
agrees again; a BLOCK that ends; a lane with no resonant current. -/
theorem witness_FaultEngine :
    (let d : Dev := { dvs [(F.RED_STATE_STATE, 3), (F.RED_CLAIM_CLAIM, 0x100)] with prot := { (default : Prot) with fq := [(7, [{ (default : FqEntry) with cls := 4 }])] } }
     nextQueue d.prot.fq d.prot.fqNext = some 7 ∧ mget d.prot.fq 7 = { (default : FqEntry) with cls := 4 } :: [] ∧ d.claimDiffers = true ∧ d.redState = 3) ∧
    (let d := dvs [(F.PROT_SOFT_CTRL_ROLE 15, 2), (F.FS_STATUS_TEST_FAIL, 0x8000)]
     (st d).up ∧ d.role 15 = 2 ∧ (d.g F.FS_STATUS_TEST_FAIL).testBit 15 = true ∧ d.b (F.PROT_CH_STATE_SUBST 15) = false ∧ d.redState ≠ 1) ∧
    (let d : Dev := { dvs [(F.PROT_CH_STATE_SUBST 0, 1), (F.PROT_EST_LIMIT_FRAMES, 100)] with
                      prot := { (default : Prot) with chan := [(0, { (default : Chan) with substFrames := 100, agree := 1024 })] } }
     d.b (F.PROT_CH_STATE_SUBST 0) = true ∧ d.g F.PROT_EST_LIMIT_FRAMES ≤ (d.chan 0).substFrames ∧ d.hasCause 0x0605 0 = false ∧
      (d.g F.FS_STATUS_TEST_FAIL).testBit 0 = false ∧ 1024 ≤ (d.chan 0).agree) ∧
    (let d : Dev := { dvs [(F.PROT_DX_IMIN_FRAMES, 8)] with port := [(63, { (default : Port) with blocks := [⟨0x0301, 1024, 0⟩], dxLow := 8 })] }
     (d.port! 63).blocks.any (fun a => decide (1024 ≤ a.good)) = true ∧ 1 ≤ (d.port! 63).dxLow ∧ d.g F.PROT_DX_IMIN_FRAMES ≤ (d.port! 63).dxLow) := by
  unfold State.up; decide +kernel

/-- O27: the ends of the range of a die input; bad conversions of both kinds; three bad ones; sixteen good ones. -/
theorem witness_Temperatures :
    ((dvs []).converted 7 3200 = some 3200 ∧ (dvs []).converted 0 (-800) = some (-800) ∧ (dvs []).broken 7 = false ∧
      (dvs []).converted 0 3201 = none ∧ (dvs []).converted 15 1999 = none ∧ (dvs []).converted 8 2000001 = none) ∧
    (let d : Dev := { dvs [] with thm := { (default : Thm) with bad := [(15, 3)] } }
     (st d).up ∧ 3 ≤ mget d.thm.bad 15 ∧ d.broken 15 = false) ∧
    (let d : Dev := { dvs [(F.THM_STATUS_BROKEN, 0x8000)] with thm := { (default : Thm) with good := [(15, 16)] } }
     16 ≤ mget d.thm.good 15 ∧ d.broken 15 = true) := by
  unfold State.up; decide +kernel

/-- O28: a failing diagnostic; SLD at its filter; the last input; test pulses good and bad; an output that is on; doors that have not cycled, with
the window past and not; a self-test from power-on and from BOLTED. -/
theorem witness_Island :
    ((2 ^ 13 : Nat).testBit 13 = true) ∧
    (let d : Dev := { dvs [(F.CAD_SYNC_STATE_TICKS, 1), (F.RED_STATE_STATE, 3), (F.SAF_STATE_STATE, 4)] with
                      conf := { (default : Conf) with saf := { (default : SafConf) with sldFilter := 2 } }, isl := { (default : Isl) with viol := [(2, 2)] } }
     d.safSuspended = false ∧ d.b (limBit 2) = false ∧ mget d.isl.viol 2 ≠ 0 ∧ d.conf.saf.sldFilter ≤ mget d.isl.viol 2 ∧ d.limAction 2 ≠ 2 ∧
      d.saf = stPermit ∧ ({ d with conf := { d.conf with saf := { d.conf.saf with sldAction := 2 } } } : Dev).limAction 2 = 2) ∧
    (let d : Dev := { dvs [(F.SAF_STATE_STATE, 1), (F.SAF_DEMAND_INPUT, 0x80)] with
                      conf := { (default : Conf) with saf := { (default : SafConf) with enable := 0x8C1, startWindow := 1 } }, isl := { (default : Isl) with have_ := true } }
     d.conf.saf.enable.testBit 11 = true ∧ (d.g F.SAF_DEMAND_INPUT).testBit 11 = false ∧ d.conf.saf.enable.testBit 7 = true ∧ d.saf = stStart ∧
      (d.g F.SAF_DEMAND_INPUT).testBit 7 = true ∧
      [0, 1, 2, 3].filter (fun j => d.conf.saf.enable.testBit (8 + j) && (if j = 3 then !(8 : Nat).testBit j else (0 : Nat).testBit j)) = [] ∧
      [0, 1, 2, 3].filter (fun j => d.conf.saf.enable.testBit (8 + j) && (if j = 0 then !(1 : Nat).testBit j else (8 : Nat).testBit j)) = [3] ∧
      [0, 1, 2, 3, 4, 5, 6, 7].filter (fun k => d.conf.saf.enable.testBit k && !(d.g F.SAF_DOORS_CYCLED).testBit k) = [0, 6, 7] ∧
      d.isl.have_ = true ∧ d.engineRuns = true ∧ d.isl.startAt + d.conf.saf.startWindow * 60 * secQ ≤ (d.at (60 * secQ)).cad.now ∧
      (d.at (60 * secQ - 1)).cad.now < d.isl.startAt + d.conf.saf.startWindow * 60 * secQ) ∧
    (let d := dvs [(F.SAF_IO_SO, 8)]
     (d.g F.SAF_IO_SO).testBit 3 = true ∧ d.saf ≠ stBolted ∧ d.saf = stSelftest ∧ d.isl.again = false) ∧
    (let d (dem : Nat) : Dev := { dvs [(F.SAF_DEMAND_INPUT, dem)] with isl := { (default : Isl) with again := true } }
     (d 0).saf = stSelftest ∧ (d 0).isl.again = true ∧ (d 0).stopPresent = false ∧ (d 1).stopPresent = true) := by
  decide +kernel

/-- O29: pulses at both ends in STOPPED and in BOLTED armed; pulses refused; a pulse that waits, decided with and without a demand in its cycle,
and outside its conditions; the arming word and another; an expiry; a selection confirmed and one refused; HOST_BLOCK. -/
theorem witness_Acknowledge :
    (let d := dvs [(F.SAF_STATE_STATE, 2)]
     d.saf = stStopped ∧ (d.at 5).mayAck = true ∧ 200 ≤ 200 ∧ (2000 : Nat) ≤ 2000 ∧ (199 : Nat) < 200) ∧
    (let d := dvs [(F.SAF_STATE_STATE, 5), (F.SAF_STATE_ARMED, 1)]
     d.saf = stBolted ∧ (d.at 5).mayAck = true ∧ (d.at (10 * secQ - 1)).armed = true ∧ (d.at (10 * secQ)).armed = false ∧
      (d.at (10 * secQ)).mayAck = false ∧ d.isl.armedAt + 10 * secQ ≤ d.clockAt (10 * secQ)) ∧
    ((dvs [(F.SAF_STATE_STATE, 1)]).saf = stStart ∧ ((dvs [(F.SAF_STATE_STATE, 1), (F.SAF_DEMAND_INPUT, 1)]).at 5).mayAck = false) ∧
    (let d (p : SafPulse) (f : List (Fld × Nat)) : Dev := { dvs ((F.SAF_STATE_STATE, 2) :: f) with isl := { (default : Isl) with ack := some p } }
     (d ⟨false, false, false⟩ []).isl.ack = some ⟨false, false, false⟩ ∧ (∀ c ∈ [1, 2, 3, 4, 5, 7, 13], (0 : Nat).testBit c = false) ∧
      (d ⟨false, false, false⟩ []).confDone = true ∧ ((d ⟨false, false, false⟩ []).at 5).mayAck = true ∧ (d ⟨false, true, true⟩ []).saf = stStopped ∧
      (d ⟨true, false, false⟩ []).isl.ack = some ⟨true, false, false⟩ ∧ ((d ⟨false, false, false⟩ [(F.SAF_DEMAND_INPUT, 1)]).at 5).mayAck = false ∧
      (d ⟨false, false, false⟩ [(F.SAF_DEMAND_NOTCONFIG, 1)]).b F.SAF_DEMAND_NOTCONFIG = true) ∧
    (let d := dvs [(F.SAF_STATE_STATE, 2), (F.SAF_STATE_ARMED, 1), (F.SAF_SELECT_SLV_SET, 3), (F.SAF_SELECT_SLD_DIR, 2)]
     (st d).up ∧ d.hostTakesWord 0x120010 armingWord ∧ d.hostTakesWord 0x120010 0 ∧ armingWord < 2 ^ 32 ∧ d.hostTakesWord 0x12001C 0xFFFFFFDC ∧
      d.armed = true ∧ 0xFFFFFFDC = 0xFFFFFFFF - d.selectWord ∧ d.saf ≠ stSelftest ∧ d.saf ≠ stBolted ∧ d.g F.SAF_SELECT_SLD_DIR ≠ 3 ∧
      d.isl.windowed = false ∧ d.hostTakesWord 0x12001C 0xFFFFFFDD ∧ 0xFFFFFFDD ≠ 0xFFFFFFFF - d.selectWord) ∧
    ((dvs []).hostMay 0x120014 1 = true ∧ (dvs []).b F.SAF_CMD_HOST_BLOCK = false ∧ (dvs []).b F.SAF_DEMAND_HOST = false ∧
      (dvs [(F.SAF_DEMAND_HOST, 1)]).b F.SAF_DEMAND_HOST = true ∧ (dvs [(F.SAF_CMD_HOST_BLOCK, 1)]).b F.SAF_CMD_HOST_BLOCK = true) := by
  unfold State.up Dev.hostTakesWord; decide +kernel

/-- O30: PERMIT_IN high and low; an attempt that may begin, one that closes and one at its end; messages failing and good; a position whose
message is late; a disagreement of 2 ms. -/
theorem witness_PermitChain :
    ((dvs [(F.SAF_IO_PERMIT_IN, 1)]).b F.SAF_IO_PERMIT_IN = true ∧ (dvs []).b F.SAF_IO_PERMIT_IN = false) ∧
    (let d := dvs [(F.SAF_STATE_STATE, 3)]
     d.isLead = true ∧ d.saf = stClosing ∧ d.isl.attempt = none ∧ d.isl.lowUntil ≤ d.clockAt 0) ∧
    (let d : Dev := { dvs [(F.SAF_STATE_STATE, 3), (F.SAF_IO_PERMIT_IN, 1)] with isl := { (default : Isl) with attempt := some 0, highSince := some 7 } }
     d.isLead = true ∧ d.saf = stClosing ∧ d.isl.attempt = some 0 ∧ d.isl.highSince = some 7 ∧ 7 + 100 * usQ ≤ d.clockAt 400007 ∧
      d.b F.SAF_DEMAND_NOTCONFIG = false ∧ d.isl.lost = 0 ∧ d.b F.SAF_IO_PERMIT_IN = true ∧ 0 + 10 * msQ ≤ d.clockAt 40000000) ∧
    (let d : Dev := { dvs [] with conf := { (default : Conf) with heads := 8, saf := { (default : SafConf) with groupId := 0x1234 } } }
     let b : List Byte := [1#8, 7#8, 0#8, 1#8, 4#8, 3#8, 0#8, 0#8, 0#8, 0#8, 0#8, 9#8]
     let m := b ++ be 4 (safCrc 0x1234 b)
     hdrOk (hd 7) = true ∧ m.length = 16 ∧ d.actsOn spSafety (hd 7) = true ∧ safCrc d.conf.saf.groupId (m.take 12) = beAt m 12 4 ∧
      beAt m 1 1 % 8 < d.conf.heads ∧ beAt m 1 1 % 8 ≠ d.pos ∧ mget d.isl.msgs (beAt m 1 1 % 8) = none ∧
      safCrc d.conf.saf.groupId ((List.replicate 16 0#8).take 12) ≠ beAt (List.replicate 16 0#8) 12 4) ∧
    (let d : Dev := { dvs [(F.LANE_ENUM_ADMITTED, 0x80)] with
                      conf := { (default : Conf) with heads := 8, saf := { (default : SafConf) with msgTimeout := 20 } } }
     (7 : Nat) ≠ d.pos ∧ 7 < d.conf.heads ∧ d.redState ≠ 1 ∧ (d.g F.LANE_ENUM_ADMITTED).testBit 7 = true ∧ d.isl.lost.testBit 7 = false ∧
      max d.red.wakeAt ((mget d.isl.msgs 7).elim 0 SafMsg.at_) + d.conf.saf.msgTimeout * 40000 ≤ d.clockAt 800000) ∧
    (let d : Dev := { dvs [(F.SAF_IO_PERMIT_IN, 1)] with
                      conf := { (default : Conf) with heads := 2 }, isl := { (default : Isl) with disagree := some 0, msgs := [(1, some default)] } }
     d.isl.disagree = some 0 ∧ (d.at (2 * msQ)).permitDisagrees = true ∧ 0 + 2 * msQ ≤ d.clockAt (2 * msQ) ∧ d.saf ≠ stBolted) := by
  decide +kernel

/-- O31: an island in PERMIT with SO0 on, and commands of it that go on. -/
theorem witness_PermitSound :
    let d := dvs [(F.SAF_STATE_STATE, 4), (F.SAF_IO_PERMIT_IN, 1), (F.SAF_IO_SO, 1)]
    (d.g F.SAF_IO_SO).testBit 0 = true ∧ d.permitSound ∧
      [Instr.permitInEdge 3 false, .ackStuck, .inputDemand 0, .safetyCycle 0 0 0, .darkPulse 0 false].all (fun i => i.island && goesOn i (st d)) = true := by
  unfold Dev.permitSound; decide +kernel

/-- O32: heads ACTIVE and WAKING, and one that holds no claim; each cause at its limit. -/
theorem witness_Relinquish :
    ((dvs [(F.RED_STATE_STATE, 3)]).redState = 3 ∧ (dvs [(F.RED_STATE_STATE, 2)]).redState = 2 ∧ (dvs [(F.RED_STATE_STATE, 4)]).redState ≠ 2 ∧
      (dvs [(F.RED_STATE_STATE, 4)]).redState ≠ 3) ∧
    (let d : Dev := { dvs [(F.GLB_BOOT_STATUS_POSITION, 1), (F.RED_STATE_STATE, 3), (F.RED_KEY_KEY, 0x7A4E)] with
                      red := { (default : Red) with noQuota := 16, notTaken := some 64 } }
     (st d).up ∧ d.isLead = false ∧ 16 ≤ d.red.noQuota ∧ d.red.notTaken = some 64 ∧ d.redState = 3 ∧ d.hostMay 0x130014 1 = true ∧
      d.g F.RED_KEY_KEY = 0x7A4E) := by
  unfold State.up; decide +kernel

/-- O33: HANDOVER, STANDBY, TAKE and WAKE in their states, a further HANDOVER, and each refused: without the key, in another state, without or
with an old checkpoint, and with a cause that lasts. -/
theorem witness_RedCommands :
    (let d (h : Nat) := dvs [(F.RED_STATE_STATE, 3), (F.RED_KEY_KEY, 0x7A4E), (F.RED_CMD_HANDOVER, h)]
     (st (d 0)).up ∧ (d 0).hostMay 0x130014 2 = true ∧ (d 0).g F.RED_KEY_KEY = 0x7A4E ∧ (d 0).redState = 3 ∧ (d 0).isLead = true ∧
      (d 0).b F.RED_CMD_HANDOVER = false ∧ (d 1).b F.RED_CMD_HANDOVER = true) ∧
    (let d : Dev := { dvs [(F.RED_STATE_STATE, 4), (F.RED_KEY_KEY, 0x7A4E)] with cad := { (default : Cad) with tbLocked := true }, red := { (default : Red) with lastValid := some 0, retained := true } }
     d.hostMay 0x130014 4 = true ∧ d.hostMay 0x130014 8 = true ∧ d.redState = 4 ∧ d.red.lastValid = some 0 ∧
      d.cad.now ≤ 0 + 3 * d.g F.RED_CKPT_INTERVAL_UNITS * 10 * usQ ∧ d.causesPresent = [] ∧
      ({ d with cad := { d.cad with now := 1 } } : Dev).cad.now = 1 ∧ 0 + 3 * d.g F.RED_CKPT_INTERVAL_UNITS * 10 * usQ < 1 ∧
      ({ d with cad := { d.cad with tbLocked := false } } : Dev).causesPresent = [relqTbUnlock]) ∧
    (let d := dvs [(F.RED_STATE_STATE, 1), (F.RED_KEY_KEY, 0x7A4E)]
     d.hostMay 0x130014 16 = true ∧ d.g F.RED_KEY_KEY = 0x7A4E ∧ d.redState = 1) ∧
    (let d := dvs []
     [1, 2, 4, 8, 16].all (fun m => d.hostMay 0x130014 m) = true ∧ d.g F.RED_KEY_KEY ≠ 0x7A4E ∧ d.redState ≠ 4 ∧ d.redState ≠ 2 ∧ d.redState ≠ 3 ∧
      d.redState ≠ 1 ∧ d.red.lastValid = none ∧ d.b F.RED_CMD_HANDOVER = false) := by
  unfold State.up; decide +kernel

/-- A block of Hatch with its CRC (R422). -/
def hatchOf (seq cnt : Nat) (data : List Byte) : List Byte :=
  let b := [1#8] ++ be 1 seq ++ be 2 cnt ++ data
  b ++ be 4 (crc32 b)

/-- The first 252 bytes and the rest of a checkpoint of 300 bytes by the other unit (R421). -/
def ckBytes : List Byte := [1#8, 8#8, 0#8, 0#8] ++ be 4 300 ++ be 4 0 ++ be 4 0x200 ++ List.replicate 280 0#8
def ckItem : List Byte := ckBytes ++ be 4 (crc32 ckBytes) ++ List.replicate 212 0#8

/-- O34: a capture with the line idle and busy, and one for a HANDOVER; a checkpoint and a settings message to send; blocks bad, good and last;
notices good, bad and cut short. -/
theorem witness_Hatch :
    (let d : Dev := dvs [(F.RED_STATE_STATE, 3), (F.CAD_SYNC_STATE_TICKS, 1), (F.RED_CKPT_INTERVAL_UNITS, 5), (F.CAD_FRAME_PERIOD_PERIOD, 200000)]
     d.redState = 3 ∧ d.ticking = true ∧ d.red.captured = false ∧ d.red.ticks % d.ckptEvery = 0 ∧ d.red.sending = [] ∧
      ({ d with red := { d.red with handoverAt := some 0 } } : Dev).handoverDue = true) ∧
    (let d : Dev := { dvs [(F.RED_STATE_STATE, 3)] with red := { (default : Red) with sending := [[1#8]] } }
     (st d).up ∧ d.red.sending ≠ [] ∧ d.red.before = 0 ∧ d.red.handing = false ∧ d.redState = 3 ∧
      ({ d with red := { d.red with handing := true } } : Dev).red.handing = true) ∧
    (let d : Dev := { dvs [] with red := { (default : Red) with settings := [[1#8], [2#8]] } }
     d.red.settings = [1#8] :: [[2#8]] ∧ d.red.sending = [] ∧ 0 < ({ d.red with before := 1 } : Red).before) ∧
    ((List.replicate 264 0#8).length = 264 ∧ crc32 ((List.replicate 264 0#8).take 260) ≠ beAt (List.replicate 264 0#8) 260 4) ∧
    (let m := hatchOf 0 (2 ^ 15 - 1) (List.replicate 256 7#8)
     m.length = 264 ∧ crc32 (m.take 260) = beAt m 260 4 ∧ beAt m 0 1 = 1 ∧ 0 < beAt m 2 2 ∧ beAt m 2 2 < 2 ^ 15) ∧
    (let m := hatchOf 5 (2 ^ 15 + 1) (ckItem.drop 256)
     let d : Dev := { dvs [(F.RED_STATE_STATE, 3), (F.RED_CLAIM_CLAIM, 0x100)] with
                      red := { (default : Red) with arriving := [(1, ⟨5, [ckItem.take 256], true⟩)] } }
     let it := mget d.red.arriving 1
     let all := (it.blocks ++ [(m.drop 4).take 256]).flatten
     m.length = 264 ∧ crc32 (m.take 260) = beAt m 260 4 ∧ beAt m 0 1 = 1 ∧ 2 ^ 15 < beAt m 2 2 ∧ it.good = true ∧ it.seqLow = beAt m 1 1 ∧
      it.blocks.length = beAt m 2 2 - 2 ^ 15 ∧ all = ckItem ∧ beAt all 4 4 = 300 ∧ all.length < 300 + 256 ∧
      crc32 (all.take 296) = beAt all 296 4 ∧ (all.drop 44).take 8 = d.configId ∧ beAt all 1 1 / 8 % 2 ≠ d.unit ∧ d.redState = 3 ∧
      claimHigher (beAt all 12 4) (d.g F.RED_CLAIM_CLAIM) = true) ∧
    (let m := noticeBytes 9
     m.length = 6 ∧ beAt m 0 1 = 0x5A ∧ crc8 (m.take 5) = beAt m 5 1 ∧ (m.take 5).length ≠ 6 ∧ beAt (List.replicate 6 0#8) 0 1 ≠ 0x5A) ∧
    ((dvs [(F.RED_STATE_STATE, 1)]).redState = 1 ∧ (dvs []).redState ≠ 1) := by
  unfold State.up; decide +kernel

/-- O35: the beacon, the watchdog and START_WAIT at their times; each phase; a checkpoint to load, one of another configuration, and none; each
bound just passed, and the claim frame. -/
theorem witness_Wakes :
    (let d : Dev := { dvs [(F.RED_STATE_STATE, 1), (F.RED_START_START_WAIT, 2)] with red := { (default : Red) with lastValid := none } }
     (st d).up ∧ d.redState = 1 ∧ d.red.lastValid = none ∧ d.red.dormantAt + d.g F.RED_START_START_WAIT * 10 * msQ ≤ d.clockAt (20 * msQ)) ∧
    (let d : Dev := { dvs [(F.RED_STATE_STATE, 1)] with red := { (default : Red) with lastValid := some 3 } }
     d.redState = 1 ∧ d.red.lastValid = some 3 ∧ 3 + d.watchdogLen ≤ d.clockAt 3) ∧
    ([0, 1, 3, 4, 5].all (fun ph => (dvs [(F.RED_STATE_STATE, 2), (F.RED_STATE_PHASE, ph)]).inPhase ph) = true) ∧
    (let d : Dev := { dvs [(F.RED_STATE_STATE, 2), (F.RED_STATE_PHASE, 4), (F.RED_BUF_INFO0_VALID 1, 1)] with
                      red := { (default : Red) with newest := 1, buf := [(1, List.replicate 64 0#8)] } }
     d.inPhase 4 = true ∧ d.newestBuf = some 1 ∧ ((mget d.red.buf 1).drop 44).take 8 = d.configId ∧ d.isLead = true ∧
      (((List.replicate 64 1#8).drop 44).take 8) ≠ d.configId) ∧
    ((dvs [(F.RED_STATE_STATE, 2), (F.RED_STATE_PHASE, 4)]).newestBuf = none) ∧
    ((0, msQ) ∈ [(0, msQ), (1, 500 * usQ), (3, 200 * usQ), (4, 100 * usQ)] ∧ (4, 100 * usQ) ∈ [(0, msQ), (1, 500 * usQ), (3, 200 * usQ), (4, 100 * usQ)] ∧
      (dvs []).red.phaseAt + 100 * usQ < (dvs []).clockAt (100 * usQ + 1)) ∧
    (let d : Dev := { dvs [(F.RED_STATE_STATE, 2), (F.RED_STATE_PHASE, 5)] with cad := { (default : Cad) with frame := 2 }, red := { (default : Red) with claimAt := some 0 } }
     d.inPhase 5 = true ∧ d.red.claimAt = some 0 ∧ later d.cad.frame (frameAdd 0 1) = true) := by
  unfold State.up; decide +kernel

/-- O36: ESTABLISH at its end at the lead, hearing a claim or none, and at another head; the last LOADED, one before it and one not acted on; the
timeout; the claim tick warm and cold; RESUME; RESUME_LATE at its limit. -/
theorem witness_Claims :
    (let f := [(F.RED_STATE_STATE, 2), (F.RED_STATE_PHASE, 2), (F.CAD_SYNC_STATE_TICKS, 1)]
     let d := dvs f
     let e : Dev := { d with red := { (default : Red) with echoSeen := true } }
     (st d).up ∧ d.inPhase 2 = true ∧ d.ticking = true ∧ d.red.phaseAt + 1100 * msQ ≤ d.clockAt (1100 * msQ) ∧ d.isLead = true ∧
      d.red.echoSeen = false ∧ e.red.echoSeen = true ∧ e.inPhase 2 = true ∧ (dvs ((F.GLB_BOOT_STATUS_POSITION, 7) :: f)).isLead = false) ∧
    (let d : Dev := { dvs [(F.RED_STATE_STATE, 2), (F.LANE_ENUM_ADMITTED, 0x81)] with red := { (default : Red) with loaded := [(0, some 4)] } }
     hdrOk (hd 7) = true ∧ 2 ^ 24 - 1 < 2 ^ 24 ∧ d.actsOn spLoaded (hd 7) = true ∧ d.redState = 2 ∧ d.red.claimAt = none ∧
      (∀ p, p ∈ d.admitted → p ≠ (hd 7).origin → (mget d.red.loaded p).isSome = true) ∧
      (dvs [(F.GLB_BOOT_STATUS_POSITION, 3)]).actsOn spLoaded (hd 7) = false ∧
      (∃ p, p ∈ (dvs [(F.RED_STATE_STATE, 2), (F.LANE_ENUM_ADMITTED, 0x81)]).admitted ∧ p ≠ (hd 7).origin ∧
        mget (dvs [(F.RED_STATE_STATE, 2), (F.LANE_ENUM_ADMITTED, 0x81)]).red.loaded p = none)) ∧
    (let d : Dev := { dvs [(F.RED_STATE_STATE, 2), (F.RED_STATE_PHASE, 5)] with red := { (default : Red) with loaded := [(7, some 4)] } }
     d.isLead = true ∧ d.inPhase 5 = true ∧ d.red.claimAt = none ∧ d.red.wakeAt + 8 * msQ ≤ d.clockAt (8 * msQ) ∧ mget d.red.loaded 7 = some 4) ∧
    (let d : Dev := { dvs [(F.RED_STATE_STATE, 2), (F.CAD_SYNC_STATE_TICKS, 1)] with red := { (default : Red) with claimAt := some 0 } }
     d.redState = 2 ∧ d.ticking = true ∧ d.red.claimAt = some d.cad.frame ∧ d.b F.RED_STATE_COLD = false ∧ (d.pb F.RED_STATE_COLD true).b F.RED_STATE_COLD = true) ∧
    (let d : Dev := { dvs [(F.RED_STATE_STATE, 3), (F.AV_ENG_STATUS_STATE, 2)] with red := { (default : Red) with hold := true, resumeAt := some 0, holdFrames := 1024 } }
     d.redState = 3 ∧ d.red.hold = true ∧ d.red.resumeAt = some d.cad.frame ∧ d.isLead = true ∧ d.red.lateRaised = false ∧ d.engState = 2 ∧
      1024 ≤ d.red.holdFrames) := by
  refine ⟨?_, ⟨?_, ?_, ?_, ?_, ?_, ?_, ?_, ⟨0, ?_⟩⟩, ?_, ?_, ?_⟩ <;> (try unfold State.up) <;> decide +kernel

/-- O37: a lane in each state of its training, a good TRAIN that names lane 7, one that fails, a line with something else, a lane in test and one
that is not OPEN. -/
theorem witness_Training :
    (let c := sealOrdered 0x78 (be 1 2 ++ be 1 7 ++ be 1 4 ++ be 1 15 ++ be 1 0)
     let said := beAt c 0 1 * 2 ^ 16 + beAt c 1 1 * 2 ^ 8 + beAt c 3 1 % 16
     let d : Dev := { dvs [(F.LANE_STATE_TRAIN 63, 3)] with fab := { (default : Fab) with train := [(63, { (default : LaneTrain) with good := 7, said := said, ready := 3 })] } }
     (st d).up ∧ d.got 63 (ol 0 0x78 c) = .ordered 0x78 c ∧ c.length = 6 ∧ orderedOk 0x78 c = true ∧ d.powerOf 63 = 0 ∧ d.tr 63 = trCheck ∧
      isSpan 63 = false ∧ beAt c 0 1 = expectRole 63 ∧ (beAt c 3 1 % 16).testBit (d.g (F.LANE_CFG_RATE 63)) = true ∧ 7 ≤ (d.laneTrain 63).good ∧
      (d.laneTrain 63).said = said ∧ 3 ≤ (d.laneTrain 63).ready ∧ 4 ≤ beAt c 2 1 ∧ orderedOk 0x78 (List.replicate 6 0#8) = false ∧
      d.got 63 (ol 0 0x78 (List.replicate 6 0#8)) = .ordered 0x78 (List.replicate 6 0#8) ∧ d.got 63 nl ≠ .ordered 0x78 c ∧ trCheck ≤ d.tr 63) ∧
    ((dvs [(F.LANE_STATE_TRAIN 71, 4)]).tr 71 = trReady ∧ (dvs [(F.LANE_STATE_TRAIN 71, 5)]).tr 71 = trUp ∧ trCheck ≤ trUp ∧ trUp ≠ trTest ∧
      (dvs [(F.LANE_STATE_TRAIN 71, 2)]).tr 71 = trAlign ∧ (dvs []).powerOf 71 ≠ 2 ∧ mget (dvs []).fab.pll (pllGroup 71) = false ∧
      trDetect ≤ (dvs [(F.LANE_STATE_TRAIN 71, 4)]).tr 71 ∧ (dvs [(F.LANE_STATE_TRAIN 71, 4)]).tr 71 < trUp ∧ (dvs []).tr 71 < trCheck ∧
      (dvs [(F.LANE_STATE_TRAIN 71, 6)]).tr 71 = trTest ∧ (dvs [(F.LANE_STATE_POWER_STATE 71, 2)]).powerOf 71 ≠ 0) := by
  unfold State.up; decide +kernel

/-- O38: power that the rules allow, and both that they refuse; equaliser settings at their limits and beyond; test modes taken, left and refused;
a checker; an error inserted. -/
theorem witness_LaneSettings :
    (let d := dvs [(F.LANE_CFG_USED 71, 1), (F.RED_STATE_STATE, 3)]
     (st d).up ∧ d.hostTakesWord (0x040000 + 0x100 * 71) 0 ∧ d.hostTakesWord (0x040000 + 0x100 * 71) 1 ∧ d.hostTakesWord (0x040000 + 0x100 * 63) 0 ∧
      d.b (F.LANE_CFG_USED 71) = true ∧ d.inService = true ∧ (1 : Nat) % 4 ≠ 0 ∧ d.b (F.LANE_CFG_USED 63) = false ∧ (0 : Nat) % 4 ≠ 2 ∧ (0 : Nat) % 4 ≠ 3 ∧
      (dvs []).inService = false) ∧
    (let d := dvs []
     d.hostTakesWord (0x040008 + 0x100 * 71) 0x10100F0F ∧ bits 0x10100F0F 11 8 + bits 0x10100F0F 20 16 ≤ 32 ∧ bits 0x10100F0F 28 24 ≤ 16 ∧
      d.hostTakesWord (0x040008 + 0x100 * 71) 0x11000000 ∧ 16 < bits 0x11000000 28 24 ∧ d.hostTakesWord (0x040008 + 0x100 * 71) 0x001F0200 ∧
      32 < bits 0x001F0200 11 8 + bits 0x001F0200 20 16) ∧
    (let d := dvs [(F.HCL_PORT_CTRL_ENABLE 0, 1)]
     d.hostMay (0x040010 + 0x100 * 63) 0x18 = true ∧ d.b (F.HCL_PORT_CTRL_ENABLE 63) = false ∧ d.g (F.LANE_TEST_MODE 63) = 0 ∧ d.powerOf 63 = 0 ∧
      d.hostMay (0x040010 + 0x100 * 0) 0x18 = true ∧ d.b (F.HCL_PORT_CTRL_ENABLE 0) = true ∧ d.hostMay (0x040010 + 0x100 * 71) 0x18 = true ∧
      d.inService = false) ∧
    (let d := dvs [(F.LANE_TEST_MODE 71, 2), (F.LANE_STATE_TRAIN 71, 6), (F.LANE_TEST_CHK_LOCK 71, 1)]
     2 ≤ d.g (F.LANE_TEST_MODE 71) ∧ d.tr 71 = trTest ∧ d.b (F.LANE_TEST_CHK_LOCK 71) = true ∧ d.hostMay (0x040010 + 0x100 * 71) (2 ^ 16) = true ∧
      d.hostMay (0x040010 + 0x100 * 71) (2 ^ 17) = true) := by
  unfold State.up Dev.hostTakesWord; decide +kernel

/-- O39: ENUM at the lead with one lane of a bundle; ENUM at another head, and not acted on; a reply that is admitted, refused for each reason,
and one of a place already taken; the frame of a STATION with one lane UP; an uplink Shutter taken, refused for each reason, a frame and IDLE in
its place; its end. -/
theorem witness_Ring :
    (let d := dvs [(F.LANE_STATE_LANE_UP 69, 1)]
     (st d).up ∧ d.isLead = true ∧ d.b F.LANE_ENUM_DONE = false ∧ 1 ≤ d.bundleUp 0 + d.bundleUp 1 ∧ (dvs []).bundleUp 0 + (dvs []).bundleUp 1 = 0 ∧
      (let e := dvs [(F.LANE_STATE_LANE_UP 69, 1), (F.LANE_STATE_LANE_UP 64, 1)]
       e.bundleUp 0 ≠ 0 ∧ e.bundleUp 1 ≠ 0)) ∧
    (let d := dvs [(F.GLB_BOOT_STATUS_POSITION, 7), (F.LANE_ENUM_SPECTATOR, 1)]
     hdrOk (hd 0) = true ∧ d.actsOn spEnum (hd 0) = true ∧ d.isLead = false ∧ ({ hd 0 with good := false } : SpanHdr).good = false ∧
      d.actsOn spEnum { hd 0 with good := false } = false) ∧
    (let d : Dev := { dvs [(F.LANE_ENUM_ADMITTED, 1)] with conf := { (default : Conf) with heads := 7 }, fab := { (default : Fab) with ring := [(1, some (some 3))] } }
     let h6 : SpanHdr := { hd 7 with hops := 6 }
     let h7 : SpanHdr := { hd 7 with hops := 7 }
     hdrOk h6 = true ∧ d.actsOn spEnumReply h6 = true ∧ mget d.fab.ring (h6.hops + 1) = none ∧ 6 < d.conf.heads ∧
      (d.g F.LANE_ENUM_ADMITTED).testBit 6 = false ∧ h6.hops < 7 ∧ d.conf.heads ≤ 7 ∧ (d.g F.LANE_ENUM_ADMITTED).testBit 0 = true ∧
      hdrOk h7 = true ∧ d.actsOn spEnumReply h7 = true ∧ 7 ≤ h7.hops ∧ (mget d.fab.ring (0 + 1)).isSome = true) ∧
    (let d : Dev := { dvs [(F.CAD_SYNC_STATE_TICKS, 1), (F.UL_CTRL_PERIOD, 4), (F.LANE_STATE_LANE_UP 71, 1)] with cad := { (default : Cad) with started := true, frame := 8 } }
     d.cad.started = true ∧ d.ticking = true ∧ 1 ≤ d.g F.UL_CTRL_PERIOD ∧ d.cad.frame % d.g F.UL_CTRL_PERIOD = 0 ∧ d.laneUp 70 = false ∧
      d.laneUp 71 = true ∧ (dvs []).g F.UL_CTRL_PERIOD = 0) ∧
    (let d : Dev := { dvs [(F.UL_CTRL_SHUTTER_IN, 1)] with prot := { (default : Prot) with causes := [{ (default : Cause) with src := 0x0A05 }] } }
     let c := sealOrdered 0xE1 (be 4 7 ++ be 1 0x20)
     d.b F.UL_CTRL_SHUTTER_IN = true ∧ d.got 71 (ol 0 0xE1 c) = .ordered 0xE1 c ∧ c.length = 6 ∧ orderedOk 0xE1 c = true ∧ d.redState ≠ 1 ∧
      (dvs []).b F.UL_CTRL_SHUTTER_IN = false ∧ orderedOk 0xE1 (List.replicate 6 0#8) = false ∧ d.got 71 (fr 0 [1#8]) = .run [1#8] ∧
      d.got 71 (ol 0 osIdle []) = .ordered osIdle [] ∧ d.got 71 (ol 0 0x4B [1#8]) = .ordered 0x4B [1#8] ∧
      d.prot.causes.any (fun c => c.src == 0x0A05) = true) := by
  unfold State.up; decide +kernel

/-- O40: the keyed reset, one without its key, and the watchdog; a halted head; a head held in reset, and one that is not. -/
theorem witness_Resets :
    (let d := dvs [(F.GLB_RESET_KEY_KEY, 0x5E7A)]
     (st d).up ∧ d.g F.GLB_BOOT_STATUS_STAGE ≠ 15 ∧ d.hostMay 0x00006C 1 = true ∧ d.g F.GLB_RESET_KEY_KEY = 0x5E7A ∧ d.boot.held = false ∧
      (dvs []).g F.GLB_RESET_KEY_KEY ≠ 0x5E7A ∧ (dvs []).hostMay 0x00006C 1 = true) ∧
    (dv [(F.GLB_BOOT_STATUS_STAGE, 15)]).g F.GLB_BOOT_STATUS_STAGE = 15 ∧ State.reset.dev.boot.held = true := by
  unfold State.up; decide +kernel

/-- O41: stage OTP with lifecycle bits that decode and that do not; REF; BIST with an island that is bolted, its cause standing or not; SLOTS with
HOST_ONLY, and with no slot to try; APPLY at each unit. (A slot that verifies: `witness_ContainerAccepted`.) -/
theorem witness_Boot :
    (let d := dv [(F.GLB_BOOT_STATUS_STAGE, 1)]
     (st d).up ∧ d.stage = 1 ∧ lifecycle (st d).otp [] = some 0 ∧ lifecycle (st d).otp [4, 5] = none) ∧
    ((dv [(F.GLB_BOOT_STATUS_STAGE, 2)]).stage = 2 ∧ (dv [(F.GLB_BOOT_STATUS_STAGE, 6)]).stage = 6) ∧
    (let d := dv [(F.GLB_BOOT_STATUS_STAGE, 3), (F.SAF_STATE_STATE, 5)]
     d.stage = 3 ∧ d.saf = stBolted ∧ d.prot.causes.any (fun c => c.src == 0x0802) = false ∧
      [{ (default : Cause) with src := 0x0802 }].any (fun c => c.src == 0x0802) = true) ∧
    (let d := dv [(F.GLB_BOOT_STATUS_STAGE, 4), (F.SEC_BOOT_CTRL_HOST_ONLY, 1)]
     d.stage = 4 ∧ d.b F.SEC_BOOT_CTRL_HOST_ONLY = true) ∧
    (let d := dv [(F.GLB_BOOT_STATUS_STAGE, 4)]
     let c : Chip := ⟨(st d).otp, d.fresh.at 0⟩
     c.dev.slotOrder ([0, 1].filter (fun k => (step1 (c.dev.slotBytes k) 1).code == 0)) = [] ∧ d.b F.SEC_BOOT_CTRL_HOST_ONLY = false) := by
  unfold State.up; decide +kernel

/-- O42: LOAD in NONE, in ACTIVE and while another command, or LOAD itself, runs; a LOAD and a PROGRAM_SLOT whose container fails, in the NV window
and outside; the end of a program, in it and outside. (A container that passes: `witness_ContainerAccepted`.) -/
theorem witness_Containers :
    (let d := dvs [(F.RED_STATE_STATE, 3), (F.THM_STATUS_NV_OK, 1)]
     (st d).up ∧ d.hostMay 0x140020 1 = true ∧ d.hostMay 0x140020 2 = true ∧ d.sec.running = none ∧ (dvs []).redState = 0 ∧ d.redState ≠ 0 ∧
      d.redState ≠ 4 ∧ (Chip.verify ⟨(st d).otp, (d.fresh.secStart 1).2.2⟩ d.windowContainer).code ≠ 0 ∧ d.b F.THM_STATUS_NV_OK = true ∧
      (dvs []).b F.THM_STATUS_NV_OK = false) ∧
    (let d : Dev := { dvs [] with sec := { (default : Sec) with running := some 7 } }
     d.hostMay 0x140020 1 = true ∧ d.sec.running = some 7 ∧ (7 : Nat) ≠ 0) ∧
    (let d : Dev := { dvs [] with sec := { (default : Sec) with running := some 0 } }
     d.hostMay 0x140020 1 = true ∧ d.sec.running = some 0 ∧ (Chip.verify ⟨(st d).otp, d.fresh.at 0⟩ d.windowContainer).code ≠ 0) ∧
    (let d (ok : Nat) : Dev := { dvs [(F.THM_STATUS_NV_OK, ok)] with sec := { (default : Sec) with running := some 1 } }
     (d 1).sec.running = some 1 ∧ (d 1).b F.THM_STATUS_NV_OK = true ∧ (d 0).b F.THM_STATUS_NV_OK = false) := by
  unfold State.up; decide +kernel

/-- O43: the three without their keys; with them outside their lifecycle, and outside the NV window; PROVISION with both hashes, without, and with
a slot that holds another; its end in each case; DEPLOY; ADVANCE_SVN below and above. -/
theorem witness_Lifecycle :
    (let d := dvs []
     (st d).up ∧ d.sec.running = none ∧ [16, 32, 64].all (fun m => d.hostMay 0x140020 m) = true ∧ d.sec.key ≠ 0xA11B ∧ d.sec.key ≠ 0x9E3D ∧
      d.sec.key ≠ 0x51F0) ∧
    (let d (k : Nat) : Dev := { dvs [(F.SEC_CONFIG_SVN_CFG, 1)] with sec := { (default : Sec) with key := k } }
     (d 0xA11B).sec.key = 0xA11B ∧ lifeBits [] = 0 ∧ (d 0xA11B).b F.THM_STATUS_NV_OK = false ∧ ¬ lifeBits [] = 1 ∧ (5 : Nat) ≠ 4 ∧
      svnMin [] 0 < (d 0x51F0).g F.SEC_CONFIG_SVN_CFG) ∧
    (let o : SMap Nat := [(0x90, 1), (0x190, 1)]
     let p : SMap Nat := o ++ (List.range 12).map (fun i => (slotAt 0 2 + i, 0x5A5A5A5A))
     let d : Dev := { dvs [(F.THM_STATUS_NV_OK, 1)] with sec := { (default : Sec) with key := 0xA11B }, win := [(2 ^ 20, 5), (2 ^ 20 + 24, 6)] }
     d.hostMay 0x140020 32 = true ∧ d.sec.key = 0xA11B ∧ lifeBits o = 0 ∧ d.b F.THM_STATUS_NV_OK = true ∧ allZero (d.winBytes 1 0 48) = false ∧
      allZero (d.winBytes 1 24 48) = false ∧ (programOwners (makeRows o d.sec.uncorr d.free) d.ownerHashes).isSome = true ∧
      allZero ((dvs []).winBytes 1 0 48) = true ∧ programOwners (makeRows p d.sec.uncorr d.free) d.ownerHashes = none) ∧
    (let d (ok : Nat) : Dev := { dvs [(F.THM_STATUS_NV_OK, ok)] with sec := { (default : Sec) with running := some 5 } }
     (d 1).sec.running = some 5 ∧ lifeBits [] = 0 ∧ (d 1).b F.THM_STATUS_NV_OK = true ∧ (d 0).b F.THM_STATUS_NV_OK = false ∧ lifeBits [(4, 1), (5, 1)] ≠ 0) ∧
    (let o : SMap Nat := [(4, 1), (5, 1), (6, 1)]
     let d : Dev := { dvs [(F.THM_STATUS_NV_OK, 1)] with sec := { (default : Sec) with key := 0x9E3D } }
     d.hostMay 0x140020 64 = true ∧ d.sec.running = none ∧ d.sec.key = 0x9E3D ∧ lifeBits o = 1 ∧ d.b F.THM_STATUS_NV_OK = true) ∧
    (let d : Dev := { dvs [(F.THM_STATUS_NV_OK, 1), (F.SEC_CONFIG_SVN_CFG, 32)] with sec := { (default : Sec) with key := 0x51F0 } }
     d.hostMay 0x140020 16 = true ∧ d.sec.key = 0x51F0 ∧ svnMin [] 0 < d.g F.SEC_CONFIG_SVN_CFG ∧
      (dvs []).g F.SEC_CONFIG_SVN_CFG ≤ svnMin [] 0 ∧ (dvs []).g F.SEC_CONFIG_SVN_FW ≤ svnMin [] 1) := by
  unfold State.up; decide +kernel

/-- O44: a token that fails; LOCK; an unlock at its end; ATTEST in BLANK, RETIRED and PROVISIONED, and its end. -/
theorem witness_Tokens :
    (let d := dvs []
     (st d).up ∧ d.sec.running = none ∧ [4, 8, 128].all (fun m => d.hostMay 0x140020 m) = true ∧ d.redState ≠ 1 ∧
      (Chip.tokenCheck ⟨(st d).otp, d⟩ (d.winBytes 0 0 tokenLen)).code ≠ 0) ∧
    (let d := dvs [(F.SEC_LIFECYCLE_UNLOCKED, 8)]
     d.g F.SEC_LIFECYCLE_UNLOCKED ≠ 0 ∧ d.sec.unlockEnd ≤ d.clockAt 0) ∧
    ((lifecycle [] []).getD 0 = 0 ∧ (lifecycle ((List.range 9).map (fun i => (i + 4, 1))) []).getD 0 = 7 ∧
      (lifecycle [(4, 1), (5, 1), (6, 1)] []).getD 0 = 1 ∧ (dvs []).redState ≠ 1 ∧ rowsReadable (dvs []).sec.uncorr = true) ∧
    (let d : Dev := { dvs [] with sec := { (default : Sec) with running := some 3 } }
     d.sec.running = some 3) := by
  unfold State.up; decide +kernel

/-- O45: START that passes its checks, one that fails, and in the states that do not take it; CONFIRM, ABORT and DISCHARGED with both arms latched
and without; a step at its limit with a condition, ended, and not ended, and CELLS_UP. -/
theorem witness_Energize :
    (let ok : Report := { (default : Report) with active := true, so2 := true, energize := true }
     let good : Bal := { (default : Bal) with reports := [(0, some ok)] }
     let d : Dev := { dvs [(F.CAD_FRAME_PERIOD_PERIOD, 200)] with bal := good }
     let e : Dev := { dvs [(F.AV_ENG_STATUS_STATE, 1), (F.AV_ENG_STATUS_STEP, 2), (F.AV_ENG_STATUS_WAIT_HOST, 1)] with bal := good, eng := { (default : Eng) with limit := 5, frames := 5 } }
     (st d).up ∧ [1, 2, 4, 8].all (fun m => d.hostMay 0x160700 m) = true ∧ d.engState ≠ 1 ∧ d.engState ≠ 2 ∧ d.engChecks = none ∧
      (dvs []).engChecks = some (8, 0) ∧ d.b F.AV_ENG_STATUS_WAIT_HOST = false ∧
      e.hostMay 0x160700 1 = true ∧ e.engState = 1 ∧ e.b F.AV_ENG_STATUS_WAIT_HOST = true ∧ e.isLead = true ∧ 2 ≤ e.engStep ∧
      e.eng.limit ≤ e.eng.frames ∧ e.engCondition = none ∧ e.engEnds e.engStep = false ∧ e.engStep ≠ engCellsUp ∧
      ({ e with eng := { e.eng with confirm := true } } : Dev).engEnds 2 = true ∧ e.engStep ≤ engResistor ∧
      ({ e with eng := { e.eng with abort := true } } : Dev).engCondition = some (7, 0) ∧ e.red.hold = false) ∧
    ((dvs [(F.AV_ENG_STATUS_STATE, 2)]).engState = 2) ∧
    (let d := dvs [(F.AV_ENG_STATUS_STATE, 3), (F.PROT_STATUS_LATCHED0, 1), (F.PROT_STATUS_LATCHED1, 1)]
     d.hostMay 0x160700 8 = true ∧ d.engState = 3 ∧ d.b F.PROT_STATUS_LATCHED0 = true ∧ d.b F.PROT_STATUS_LATCHED1 = true) ∧
    (let r : Report := { (default : Report) with so2 := true, energize := true, a0 := { (default : ArmSum) with lanes := 4 } }
     let d : Dev := { dvs [(F.AV_ENG_STATUS_STATE, 1), (F.AV_ENG_STATUS_STEP, 3)] with bal := { (default : Bal) with reports := [(0, some r)] } }
     let e : Dev := { dvs [(F.AV_ENG_STATUS_STATE, 1), (F.AV_ENG_STATUS_STEP, 3)] with bal := { (default : Bal) with reports := [(0, some { r with energize := false })] } }
     d.engState = 1 ∧ d.engStep = engCellsUp ∧ d.eng.limit ≤ d.eng.frames ∧ d.engCondition = none ∧ d.engEnds d.engStep = false ∧
      e.engCondition = some (3, 0)) := by
  unfold State.up; decide +kernel

/-- O46: submissions that pass, to queues 0 and 15, and one for each reason that fails; ended requests with room on the done list and without, and
a queue with none; NEXT with and without a result; CANCEL of a queued, a running and an unknown ticket. -/
theorem witness_Requests :
    (let d := dvs [(F.SVC_REQ_CODE, 7), (F.SVC_REQ_QUEUE, 15), (F.SVC_REQ_ARG_WORDS, 2)]
     (st d).up ∧ d.hostMay 0x150004 1 = true ∧ d.svcCheck (d.g F.SVC_REQ_CODE) (d.g F.SVC_REQ_QUEUE) (d.g F.SVC_REQ_ARG_WORDS) = svOk ∧
      (dvs []).svcCheck 0 0 0 = svBadCode ∧ (dvs []).svcCheck 7 0 1 = svBadArg ∧
      ({ dvs [] with svc := { (default : Svc) with reqs := List.replicate 4 default } } : Dev).svcCheck 1 0 0 = svQFull) ∧
    (let r : SvcReq := { (default : SvcReq) with ticket := 5, queue := 15, ended := some 0 }
     let d : Dev := { dvs [] with svc := { (default : Svc) with reqs := [r] } }
     let e : Dev := { d with svc := { d.svc with done := List.replicate 16 default } }
     (d.svcQueue 15).head? = some r ∧ r.ended = some 0 ∧ d.svc.autoLog = false ∧ d.svc.done.length < 16 ∧ (e.svcQueue 15).head? = some r ∧
      16 ≤ e.svc.done.length ∧ d.hostMay 0x15000C 1 = true ∧ d.svc.done = [] ∧ e.svc.done = default :: List.replicate 15 default ∧
      (d.svcQueue 14).head? = none) ∧
    (let r : SvcReq := { (default : SvcReq) with ticket := 65535 }
     let x : SvcReq := { r with ticket := 1, running := true }
     let d : Dev := { dvs [] with svc := { (default : Svc) with reqs := [r, x] } }
     d.hostMay 0x150018 (65535 + 2 ^ 31) = true ∧ d.hostMay 0x150018 (1 + 2 ^ 31) = true ∧
      d.svc.reqs.find? (fun r => r.ticket == 65535 && r.ended.isNone) = some r ∧ r.running = false ∧
      d.svc.reqs.find? (fun r => r.ticket == 1 && r.ended.isNone) = some x ∧ x.running = true ∧
      d.svc.reqs.find? (fun r => r.ticket == 2 && r.ended.isNone) = none ∧ d.hostMay 0x150018 (2 + 2 ^ 31) = true) := by
  unfold State.up; decide +kernel

/-- A head whose queue 15 holds this request alone. -/
def serving (fs : List (Fld × Nat)) (r : SvcReq) : Dev := { dvs fs with svc := { (default : Svc) with reqs := [r] } }

/-- A request of a service on queue 15. -/
def rq (code : Nat) (args : List Nat) : SvcReq := { (default : SvcReq) with ticket := 9, code := code, queue := 15, args := args }

/-- O47: each service in turn, on its bad arguments and its good ones, in the NV window and outside. -/
theorem witness_Services :
    ((serving [] (rq 1 [])).serves 1 15 (rq 1 []) ∧ (serving [] (rq 1 [])).energyOk = false ∧
      ({ serving [(F.MET_CTRL_CONT 0, 1), (F.MET_CTRL_CONT 1, 1)] (rq 1 []) with conf := { (default : Conf) with energyIn := [0, 0] } } : Dev).energyOk = true) ∧
    ((serving [(F.MET_STATUS_ENERGY, 1)] (rq 2 [])).serves 2 15 (rq 2 []) ∧ (serving [(F.MET_STATUS_ENERGY, 1)] (rq 2 [])).b F.MET_STATUS_ENERGY = true ∧
      (serving [] (rq 2 [])).b F.MET_STATUS_ENERGY = false) ∧
    ((serving [] (rq 3 [15])).serves 3 15 (rq 3 [15]) ∧ 16 ≤ argAt (rq 3 [16]) 0 ∧ argAt (rq 3 [15]) 0 < 16 ∧
      (List.range 4).find? (fun c => decide ((rq 3 [15]).next ≤ c) && (argAt (rq 3 [15]) 0).testBit c) = some 0) ∧
    ((serving [] (rq 4 [0, 0, 0, 262144])).serves 4 15 (rq 4 [0, 0, 0, 262144]) ∧ fwLen (rq 4 [0, 0, 0, 0]) = 0 ∧
      262144 < fwLen (rq 4 [0, 0, 0, 262145]) ∧ 0 < fwLen (rq 4 [0, 0, 0, 262144]) ∧ fwLen (rq 4 [0, 0, 0, 262144]) ≤ 262144) ∧
    (let d : Dev := { serving [(F.THM_STATUS_NV_OK, 1)] (rq 5 []) with prot := { (default : Prot) with ring := [(255, some default)] } }
     d.serves 5 15 (rq 5 []) ∧ d.unlogged = some (255, default) ∧ d.b F.THM_STATUS_NV_OK = true ∧ (serving [] (rq 5 [])).unlogged = none ∧
      (serving [] (rq 5 [])).b F.THM_STATUS_NV_OK = false) ∧
    (let d (ok : Nat) (r : SvcReq) : Dev := { serving [(F.THM_STATUS_NV_OK, ok), (F.RED_BUF_INFO0_VALID 1, 1)] r with
                                              red := { (default : Red) with buf := [(1, List.replicate 64 1#8)] } }
     (d 1 (rq 6 [2])).serves 6 15 (rq 6 [2]) ∧ argAt (rq 6 [2]) 0 ≤ 2 ∧ (d 1 (rq 6 [2])).logBuffer (argAt (rq 6 [2]) 0) = some (List.replicate 64 1#8) ∧
      (d 1 (rq 6 [2])).b F.THM_STATUS_NV_OK = true ∧ (d 0 (rq 6 [2])).b F.THM_STATUS_NV_OK = false ∧ (d 1 (rq 6 [3])).serves 6 15 (rq 6 [3]) ∧
      2 < argAt (rq 6 [3]) 0 ∧ (serving [] (rq 6 [0])).logBuffer (argAt (rq 6 [0]) 0) = none) ∧
    ((serving [] (rq 7 [2 ^ 24 - 1, 64])).serves 7 15 (rq 7 [2 ^ 24 - 1, 64]) ∧ argAt (rq 7 [0, 0]) 1 = 0 ∧ 64 < argAt (rq 7 [0, 65]) 1 ∧
      2 ^ 24 ≤ argAt (rq 7 [2 ^ 24, 1]) 0 ∧ 0 < argAt (rq 7 [2 ^ 24 - 1, 64]) 1 ∧ argAt (rq 7 [2 ^ 24 - 1, 64]) 1 ≤ 64 ∧
      argAt (rq 7 [2 ^ 24 - 1, 64]) 0 < 2 ^ 24) ∧
    ((serving [(F.THM_STATUS_NV_OK, 1)] (rq 8 [0xE5A5])).serves 8 15 (rq 8 [0xE5A5]) ∧ argAt (rq 8 [0xE5A5]) 0 = 0xE5A5 ∧ argAt (rq 8 [0]) 0 ≠ 0xE5A5 ∧
      (serving [(F.THM_STATUS_NV_OK, 1)] (rq 8 [0xE5A5])).b F.THM_STATUS_NV_OK = true ∧ (serving [] (rq 8 [0xE5A5])).serves 8 15 (rq 8 [0xE5A5]) ∧
      (serving [] (rq 8 [0xE5A5])).b F.THM_STATUS_NV_OK = false) ∧
    (let r : SvcReq := { rq 7 [0, 1] with cancel := true }
     let x : SvcReq := { rq 8 [0xE5A5] with standdown := true }
     ((serving [] r).svcQueue 15).head? = some r ∧ r.ended = none ∧ r.cancel = true ∧ r.code = 7 ∧
      ((serving [] x).svcQueue 15).head? = some x ∧ x.ended = none ∧ x.standdown = true ∧ x.code = 8) := by
  refine ⟨?_, ?_, ?_, ?_, ?_, ?_, ?_, ?_, ?_⟩ <;> (try unfold Dev.serves) <;> decide +kernel

/-- O48: a head that answers; accesses RD accepts, of words and of a port register, and WR accepts, refuses and cannot reach; a number of words or
records out of range; the states that refuse; a service that passes its checks and one that fails; a halted head. -/
theorem witness_Rondi :
    (let d := dvs []
     (st d).up ∧ d.halted = false ∧ d.monAccepts 1 = true ∧ d.monAccepts 2 = true ∧ d.monReadStatus 0x020000 1 = hsOk ∧ d.monReadStatus 0x020000 2 = hsOk ∧
      (∀ i, i < 2 → portOf (0x020000 + 4 * i) = none) ∧ d.monReadStatus (mbxDataAddr 0) 1 = hsOk ∧ (portOf (mbxDataAddr 0)).isSome = true ∧
      d.served 0x130000 = true ∧ d.monWriteStatus 0x020008 0x9C40 15 = hsOk ∧ d.monWriteStatus 0x020009 0 15 ≠ hsOk ∧
      ownBehaviour 0x020008 = false ∧ d.rangeOk 0x020008 0x9C40 = true ∧ d.windowed 0x020008 = none ∧
      (0x140020 : Nat) % 4 = 0 ∧ 0x140020 < busEnd ∧ blockOf 0x140020 = 0x140000 ∧ blockOf 0x12FFFC = 0x120000 ∧
      d.served 0x150000 = true ∧ d.svcCheck 5 14 0 = svOk ∧ d.svcCheck 0 14 0 ≠ svOk ∧ below (2 ^ 32) [] = true ∧ d.monReadStatus 0x020001 1 ≠ hsOk) ∧
    ((dvs [(F.SEC_LIFECYCLE_STATE, 7)]).monAccepts 1 = false ∧ (dvs [(F.SEC_LIFECYCLE_STATE, 3)]).monAccepts 2 = false ∧
      (dvs [(F.SEC_LIFECYCLE_STATE, 3), (F.SEC_LIFECYCLE_UNLOCKED, 1)]).monAccepts 2 = true ∧ Instr.errLine.wellFormed = true ∧
      (Instr.monWr 0x020009 0 15).wellFormed = true ∧ (Instr.monFaults 32).wellFormed = true ∧ (Instr.monFaults 33).wellFormed = true ∧
      (Instr.monRd 0 17).wellFormed = true ∧ (Instr.monRd 0 0).wellFormed = true) ∧
    ((dv [(F.GLB_BOOT_STATUS_STAGE, 15)]).halted = true ∧ (dv []).served 0x150000 = false) := by
  unfold State.up; decide +kernel

/-- A DSF for the next frame, obeyed and running, with one edge. -/
def dsf1 : Dsf :=
  { (default : Dsf) with targetFrame := 1, claim := 0x105, tickTime := 100000, run := true, edgeCount := 1, edges := [⟨true, 1, 500⟩], segment := List.replicate 28 0#8 }

/-- O49: a DSF that passes on each code, one that fails, one cut off, an ordered set of each sort and what is malformed; ticks with a DSF in force,
with it latched, with claim 0, and without one, obeying and not, simmering and not. -/
theorem witness_CellFrames :
    (let c : Cell := default
     let bad := List.replicate 96 0#8
     (fr 0 dsf1.encode).read (c.port 1).rate = .run dsf1.encode ∧ (fr 3 dsf1.encode).read 3 = .run dsf1.encode ∧ cutOff 0 dsf1.encode = false ∧
      (fr 0 bad).read 0 = .run bad ∧ cutOff 0 bad = false ∧ (fr 0 (bad.take 95)).read 0 = .run (bad.take 95) ∧ cutOff 0 (bad.take 95) = true ∧
      (c.at 9).hold.dsfCheck 1 (bad.take 96) (bulkParts 9 (bad.drop 96)) = none ∧
      (c.at 0).hold.dsfCheck 1 (dsf1.encode.take 96) (bulkParts 9 (dsf1.encode.drop 96)) = some (dsf1, 100000) ∧
      (c.obeyed.isNone && c.floor == 0 && !c.claimTie && dsf1.claim != 0) = true ∧ (ol 0 osTrain [1#8]).read 0 = .ordered osTrain [1#8] ∧
      (ol 0 0x4B [1#8]).read 0 = .ordered 0x4B [1#8] ∧ ¬ (0x4B = osIdle ∨ 0x4B = osTrain ∨ 0x4B = osShutter ∨ 0x4B = osProbe) ∧
      (Line.blocks []).read 0 = .malformed) ∧
    (let c : Cell := { (default : Cell) with waiting := [⟨1, 100000, dsf1⟩], tick := some 99000, used := [2000, 1000] }
     c.nextTick = some 100000 ∧ c.choose (c.waiting.filter (fun x => x.tick == 100000)) = some ⟨1, 100000, dsf1⟩ ∧ dsf1.claim ≠ 0 ∧
      ((c.shutter && !dsf1.release) || c.bypassed || dsf1.bypass) = false ∧ dsf1.run = true ∧
      ({ c with shutter := true } : Cell).choose (c.waiting.filter (fun x => x.tick == 100000)) = some ⟨1, 100000, dsf1⟩) ∧
    (let w : Waiting := ⟨1, 100000, { dsf1 with claim := 0 }⟩
     let c : Cell := { (default : Cell) with waiting := [w], tick := some 99000, used := [2000, 1000], obeyed := some (1, 0x105) }
     c.nextTick = some 100000 ∧ c.choose (c.waiting.filter (fun x => x.tick == 100000)) = some w ∧ w.dsf.claim = 0) ∧
    (let c : Cell := { (default : Cell) with tick := some 99000, used := [2000, 1000], obeyed := some (0, 5), missed := 3 }
     c.nextTick = some 100000 ∧ c.choose (c.waiting.filter (fun x => x.tick == 100000)) = none ∧ c.obeyed.isSome = true) ∧
    (let c : Cell := { (default : Cell) with tick := some 99000, used := [2000, 1000], simmer := true, rep := [⟨0, 5, true, 1⟩] }
     c.nextTick = some 100000 ∧ c.choose (c.waiting.filter (fun x => x.tick == 100000)) = none ∧ c.obeyed = none ∧ c.simmer = true) ∧
    ((default : Cell).nextTick = none) := by
  decide +kernel

/-- O49: no edge to come; several at one time, and off edges alone; an edge off, on, on against the other switch, and too soon after it. -/
theorem witness_CellEdges :
    ((default : Cell).pend = []) ∧
    (let c : Cell := { (default : Cell) with pend := [⟨700, 500, false, 6⟩, ⟨700, 500, false, 1⟩, ⟨900, 700, true, 7⟩] }
     c.pend.filter (fun x => x.time == 700) = [⟨700, 500, false, 6⟩, ⟨700, 500, false, 1⟩]) ∧
    (let x : PendEdge := ⟨700, 500, true, 6⟩
     let c : Cell := { (default : Cell) with pend := [x], ident := List.replicate 96 1#8, offAt := [none, none, none, none, none, none, none, some 699] }
     c.pend = [x] ∧ x.switch < 8 ∧ x.level = true ∧ c.sw.testBit 7 = false ∧ decide ((700 : Int) < 699 + c.minDead) = true ∧
      (setBit 0 7).testBit 7 = true) := by
  decide +kernel

/-- O50: a Shutter at the claim obeyed, a lower one, a bad one, and other lines; probes good and bad; a gap due that simmers and one that blocks;
the end of simmering; the floor at 1 s and before; a USF, and one already sent; boots. -/
theorem witness_CellCommands :
    (let s := sealOrdered 0xE1 (be 4 0x105 ++ be 1 0x20)
     (ol 0 0xE1 s).read ((default : Cell).port 1).rate = .ordered 0xE1 s ∧ s.length = 6 ∧ orderedOk 0xE1 s = true ∧
      claimLower (beAt s 0 4) 0x105 = false ∧ claimLower (beAt s 0 4) 0x205 = true ∧ orderedOk 0xE1 (List.replicate 6 0#8) = false ∧
      (ol 0 0xE1 (List.replicate 6 0#8)).read 0 = .ordered 0xE1 (List.replicate 6 0#8) ∧ (fr 0 [1#8]).read 0 ≠ .ordered 0xE1 s) ∧
    (let s := sealOrdered 0x2D (be 5 100 ++ be 2 20)
     let c : Cell := { (default : Cell) with obeyed := some (1, 0x105) }
     (ol 0 0x2D s).read (c.port 1).rate = .ordered 0x2D s ∧ s.length = 8 ∧ orderedOk 0x2D s = true ∧ c.timePort = some 1 ∧
      orderedOk 0x2D (List.replicate 8 0#8) = false) ∧
    (let c : Cell := { (default : Cell) with obeyed := some (1, 0x105), tick := some 900, gapDue := true, lastSimmer := true, lastRun := true }
     c.obeyed = some (1, 0x105) ∧ c.tick = some 900 ∧ c.gapDue = true ∧ (c.lastSimmer && c.lastRun && !c.shutter && !c.bypassed) = true ∧
      (default : Cell).gapDue = false ∧ (default : Cell).obeyed = none) ∧
    (let c : Cell := { (default : Cell) with tick := some 80000000, simmer := true, coast := 20000 }
     c.simmer = true ∧ c.gapAt + ((min c.coast 20000 * usQ : Nat) : Int) ≤ 80000000 ∧ 79999999 < c.gapAt + ((min c.coast 20000 * usQ : Nat) : Int) ∧
      (default : Cell).simmer = false) ∧
    ((default : Cell).obeyed = none ∧ (default : Cell).since + secQ ≤ max (default : Cell).now secQ ∧ max (default : Cell).now 5 < (default : Cell).since + secQ) ∧
    (let c : Cell := { (default : Cell) with corrected := true, accepted := true, tick := some 0, p1 := { (default : CellPort) with trained := true } }
     (c.corrected && c.accepted && c.tick.isSome && !c.sent) = true ∧ (c.port 1).trained = true ∧
      ((default : Cell).corrected && (default : Cell).accepted && (default : Cell).tick.isSome && !(default : Cell).sent) = false) := by
  decide +kernel

/-- A node whose port 1 has this endpoint. -/
def epAt1 (e : Endpoint) : Cell := { (default : Cell) with p1 := { (default : CellPort) with ep := e } }

/-- O51: an EMPTY and a malformed segment; an OPEN accepted and one refused; a DATA for no conversation; an ABORT; ACKs that end a direction
and a conversation; DATA in order, and the last. -/
theorem witness_CellSegments :
    (let seg (ty : Nat) (last : Bool) (seq : Nat) (p : List Byte) : List Byte := Seg.encode ⟨ty, last, 7, seq, padTo 24 p⟩
     (segDecode (List.replicate 28 0#8)).ty = tyEmpty ∧ (segDecode (seg 15 false 0 [])).ty ≠ tyEmpty ∧ (segDecode (seg 15 false 0 [])).malformed false = true ∧
      (let g := segDecode (seg tyOpen false 0 (be 1 6 ++ be 1 0x33))
       g.ty = tyOpen ∧ g.malformed false = false ∧ (epAt1 default).openRefuse 1 (beAt g.payload 0 1) (beAt g.payload 4 4) (beAt g.payload 8 4) = 0) ∧
      (let g := segDecode (seg tyOpen false 0 (be 1 7 ++ be 1 0x33))
       g.malformed false = false ∧ (epAt1 default).openRefuse 1 (beAt g.payload 0 1) (beAt g.payload 4 4) (beAt g.payload 8 4) ≠ 0) ∧
      (let g := segDecode (seg tyData false 1 [1#8])
       g.ty = tyData ∧ g.malformed false = false ∧ (epAt1 default).p1.ep.st = 0) ∧
      (let g := segDecode (seg tyAbort false 0 [1#8])
       g.ty = tyAbort ∧ g.malformed false = false ∧ g.cnum = 7)) ∧
    (let g := segDecode (Seg.encode ⟨tyAck, false, 7, 0, padTo 24 (be 2 2)⟩)
     let e : Endpoint := { (default : Endpoint) with st := 3, cnum := 7, len := 24, sndNext := 2, unacked := [⟨1, 0, 0, false⟩] }
     let f : Endpoint := { e with st := 4 }
     g.ty = tyAck ∧ g.malformed false = false ∧ e.cnum = g.cnum ∧ ackBad g e.sndNext e.ackSeen = false ∧ afterAck g e.unacked = [] ∧
      dataSegs e.len < e.sndNext ∧ f.st = 4 ∧ 2 ≤ f.sndNext) ∧
    (let g := segDecode (Seg.encode ⟨tyData, false, 7, 1, padTo 24 [1#8]⟩)
     let h := segDecode (Seg.encode ⟨tyData, true, 7, 2, padTo 24 [1#8]⟩)
     let e : Endpoint := { (default : Endpoint) with st := 1, cnum := 7, kind := 2, len := 48, rx := ⟨1, []⟩ }
     let f : Endpoint := { e with rx := ⟨2, []⟩ }
     g.malformed false = false ∧ h.malformed false = false ∧ g.seq ≠ 0 ∧ g.seq ≤ dataSegs e.len ∧ g.last = (g.seq == dataSegs e.len) ∧
      g.seq = e.rx.next ∧ e.rx.held = [] ∧ h.seq ≤ dataSegs f.len ∧ h.last = (h.seq == dataSegs f.len) ∧ h.seq = f.rx.next ∧ h.last = true) := by
  refine ⟨?_, ?_, ?_⟩ <;> decide +kernel

/-- O51: a segment due again and one at its limit; a silent conversation; work of each kind that ends. -/
theorem witness_CellEnds :
    (let e : Endpoint := { (default : Endpoint) with st := 3, segTimeout := 3, retxLimit := 2, unacked := [⟨1, 3, 2, false⟩] }
     let out (u : Sent) : Bool := decide (e.segTimeout ≤ u.since) && !u.due
     e.st ≠ 0 ∧ e.unacked.any (fun u => out u && decide (e.retxLimit ≤ u.resends)) = true ∧
      [(⟨1, 3, 1, false⟩ : Sent)].any (fun u => out u && decide (e.retxLimit ≤ u.resends)) = false) ∧
    (let e : Endpoint := { (default : Endpoint) with st := 1, idle := 4096 }
     ((epAt1 e).port 1).ep.st = 1 ∧ 4096 ≤ ((epAt1 e).port 1).ep.idle) ∧
    (let e : Endpoint := { (default : Endpoint) with st := 2, kind := 2, arg0 := 0x0010, arg1 := 1, data := be 4 30000 }
     ((epAt1 e).port 1).ep.st = 2 ∧ statusOk 0x3F = true ∧ statusOk 0xFF = true ∧ regPairs e = [(0x0010, 30000)] ∧
      crc32 ({ e with kind := 3 } : Endpoint).data ≠ beAt ({ e with kind := 3 } : Endpoint).param 0 4) := by
  decide +kernel

/-- O52: the key, no key, and a write of GLB_CTRL with RESET, and with no byte enabled. -/
theorem witness_SoftReset :
    (let d := dvs [(F.GLB_RESET_KEY_KEY, 0x5E7A)]
     (st d).up ∧ d.g F.GLB_BOOT_STATUS_STAGE ≠ 15 ∧ d.hostMay 0x00006C 1 = true ∧ d.g F.GLB_RESET_KEY_KEY = 0x5E7A ∧ 15 % 16 ≠ 0 ∧ 16 % 16 = 0 ∧
      (mergeWord (d.regStored 0x00006C) 1 15).testBit 0 = true ∧ (dvs []).g F.GLB_RESET_KEY_KEY ≠ 0x5E7A) := by
  unfold State.up; decide +kernel

/-- O54 and O57: an empty queue; a command that a head in reset does not take; commands of the cell, of the head, and one that programs no OTP. -/
theorem witness_Queue :
    State.reset.pending = [] ∧ (Instr.soft).wellFormed = true ∧ State.reset.dev.boot.held = true ∧ (Instr.soft).inReset = false ∧
      (Instr.soft).atCell = false ∧ Instr.cellGap.atCell = true ∧ goesOn .cellGap State.reset = true ∧ goesOn .soft State.reset = true ∧
      (Instr.soft).otpWriter = false := by
  decide +kernel

/-- O58: a step that programs OTP from a sound lifecycle. -/
theorem witness_Otp :
    (let d : Dev := { dvs [(F.THM_STATUS_NV_OK, 1)] with sec := { (default : Sec) with running := some 5 } }
     goesOn .provisionComplete (st d) = true ∧ lifeBits (st d).otp = 0) := by
  decide +kernel

/-- O59: a cell node that runs with one switch of each leg on is sound, and its commands go on. -/
theorem witness_CellSound :
    (let c : Cell := { (default : Cell) with sw := 0x55, start := 0xAA, repStart := 0x99, running := true }
     Cell.sound c ∧ [Instr.cellGap, .cellEdge, .cellTargetTick, .cellSimmerEnd].all (fun i => goesOn i (stc c)) = true) := by
  have bound (n k : Nat) (h : n < 256) (hk : 4 ≤ k) : n.testBit (2 * k) = false :=
    Nat.testBit_lt_two_pow (Nat.lt_of_lt_of_le h (Nat.pow_le_pow_right (by decide : 0 < 2) (by omega : 8 ≤ 2 * k)))
  have apart (n : Nat) (h : n < 256) (hs : ∀ k, k < 4 → ¬(n.testBit (2 * k) = true ∧ n.testBit (2 * k + 1) = true)) : legsApart n := by
    intro k hb
    rcases Nat.lt_or_ge k 4 with hk | hk
    · exact hs k hk hb
    · rw [bound n k h hk] at hb; exact absurd hb.1 (by decide)
  refine ⟨⟨apart _ (by decide) (by decide), apart _ (by decide) (by decide), apart _ (by decide) (by decide), by decide, by decide, by decide, ?_⟩,
    by decide +kernel⟩
  rintro (h | h) <;> exact absurd h (by decide)

/-- O60: a DSF with twelve edges, a USF and a segment that fit. -/
theorem witness_Fits :
    ({ dsf1 with edgeCount := 12, edges := List.replicate 12 ⟨true, 7, 2 ^ 28 - 1⟩, cellType := 3, bulkCount := 15, epoch := 2 ^ 16 - 1 } : Dsf).fits ∧
    ({ (default : Usf) with segment := List.replicate 28 0#8, status := 2 ^ 16 - 1 } : Usf).fits ∧
    (⟨15, true, 255, 2 ^ 16 - 1, List.replicate 24 0#8⟩ : Seg).fits := by
  unfold Dsf.fits Usf.fits Seg.fits; decide +kernel

/-! ## Tokens and containers that are accepted

Whether a signature verifies and what SHA-384 answers is open (Config), so that no state can be shown to be accepted outright. These
theorems assume that the two verifications accept and that every hash is one fixed value, and show the rest. -/

/-- A head and OTP with owner keys in slots 2 and 3, and in window 0 a token of this action, argument and duration, signed by slot 2. -/
def tokenChip (act arg dur slot : Nat) : Chip :=
  let d := dvs [(F.THM_STATUS_NV_OK, 1)]
  let key (alg k : Nat) : SMap Nat := (List.range 12).map (fun i => (slotAt alg k + i, 0x5A5A5A5A))
  ⟨[(4, 1), (5, 1), (6, 1)] ++ key 0 2 ++ key 0 3 ++ key 1 2 ++ key 1 3,
   { d with win := [(0, 0x5358544B), (1, 0x01000000 + act * 2 ^ 16), (10, arg), (11, dur), (16, 0x53585347), (17, slot * 2 ^ 24 + slot * 2 ^ 16)].filter (fun e => e.2 != 0) }⟩

/-- O44: where the two verifications accept and the hash of the key is the one in its slot, an UNLOCK, a REVOKE and a RETIRE pass. -/
theorem witness_TokenAccepted (hs : Config.sha384 = fun _ => List.replicate 48 0x5A#8) (hr : Config.rsaVerify = fun _ _ _ _ => true)
    (hv : Config.slhVerify = fun _ _ _ => true) :
    let ok (c : Chip) : Nat := (c.tokenCheck (c.dev.winBytes 0 0 tokenLen)).code
    ok (tokenChip 1 15 86400 2) = 0 ∧ ok (tokenChip 2 0x0300 0 2) = 0 ∧ ok (tokenChip 3 0 0 2) = 0 := by
  simp only [Chip.tokenCheck, sigCheck, slotCheck, sha, hs, hr, hv]
  decide +kernel

/-- A register record that sets whole fields. -/
def regRec (r : Fld × Nat) : List Byte := be 1 1 ++ be 3 r.1.addr ++ be 4 r.1.mask ++ be 4 (r.2 * 2 ^ r.1.lo)

/-- A table record of words. -/
def tabRec (tag : Nat) (ws : List Nat) : List Byte := be 1 2 ++ be 1 tag ++ be 2 (4 * ws.length) ++ ws.flatMap (be 4)

/-- The head of a container of a kind with `n` sections and a length (R470). -/
def headBytes (kind n len : Nat) : List Byte :=
  be 4 0x53584342 ++ be 1 1 ++ be 1 kind ++ be 2 n ++ be 4 len ++ be 4 7 ++ be 4 0 ++ be 4 0x6472 ++ List.replicate 40 0#8

/-- One entry of the section table (R470). -/
def entryBytes (ty off size : Nat) : List Byte := be 1 ty ++ be 3 0 ++ be 4 off ++ be 4 size ++ be 4 0 ++ List.replicate 48 0x5A#8

/-- A signature block that names slot `k` of both algorithms (R472). -/
def sigBytes (k : Nat) : List Byte := (be 4 0x53585347 ++ be 1 k ++ be 1 k) ++ List.replicate 17054 0#8

/-- A firmware container with one empty section. -/
def smallFirmware : List Byte := (headBytes 2 1 17188 ++ entryBytes 0x20 128 0) ++ sigBytes 0

/-- A safety section with one input and no limited function. -/
def safetyBody : List Byte :=
  let b := be 2 0x1234 ++ be 2 1 ++ be 2 0 ++ List.replicate 8 (BitVec.ofNat 8 5) ++ List.replicate 4 (BitVec.ofNat 8 2) ++ be 2 1 ++ List.replicate 4 255#8 ++
    List.replicate 82 0#8 ++ be 4 0x3F800000 ++ be 2 1 ++ be 2 20 ++ be 6 0
  b ++ be 4 (crc32c b)

/-- The sections of a small configuration of a lead, but for the firmware. -/
def smallSections : List (Nat × List Byte) :=
  [(1, tabRec 1 [0x1234, 0, 1] ++ tabRec 2 [0]), (2, regRec (F.CAD_FRAME_PERIOD_PERIOD, 5000)), (3, []),
   (4, tabRec 1 [0x02000000, 0xFFFFFFFF, 0xFFFF0000, 0] ++ tabRec 3 [0, 0x10000] ++ tabRec 4 [4]),
   (5, regRec (F.AV_BAL_TRIM_ROTATE_FRAMES, 1)),
   (6, [(F.EDGE_TRIM_ON_ON, 200), (F.EDGE_TRIM_PMAX_PERIOD, 500), (F.EDGE_DX_ON_ON, 200), (F.EDGE_DX_PERIOD_PERIOD, 500)].flatMap regRec),
   (7, (List.range 4).flatMap (fun k => regRec (F.FS_TEST_SCHED_PERIOD k, 1)) ++
     [(F.MET_MF_FRAMES_FRAMES, 10), (F.FS_GAIN_GAIN 0, 0x3F800000), (F.FS_GAIN_GAIN 1, 0x3F800000)].flatMap regRec),
   (8, (List.range 16).flatMap (fun k => regRec (F.PROT_SOFT_CTRL_FILTER k, 1)) ++
     [(F.PROT_SOFT_CTRL_ROLE 0, 1), (F.PROT_SOFT_CTRL_ROLE 1, 2), (F.PROT_EST_TOL_AMPS, 0x3F800000), (F.PROT_EST_LIMIT_FRAMES, 1),
      (F.AV_DCF_RSUP_OHMS, 0x3F800000), (F.AV_DCF_VMAX_VOLTS, 0x3F800000), (F.AV_DCF_IZERO_AMPS, 0x3F800000), (F.AV_DCF_HOLD_FRAMES, 1),
      (F.AV_DCF_TMAX_MS, 1)].flatMap regRec),
   (9, [(F.THM_TH_CFG_ROLE 0, 1), (F.THM_PLIM_UNDRATED_WATTS, 0x3F800000)].flatMap regRec), (10, safetyBody),
   (11, regRec (F.RED_CKPT_INTERVAL_UNITS, 70)), (12, tabRec 1 [0x80, 2])]

/-- The section table and bodies from an offset on, bodies at multiples of 64 (R470). -/
def packSections : Nat → List (Nat × List Byte) → List Byte × List Byte
  | _, [] => ([], [])
  | off, (ty, b) :: r =>
    let n := (b.length + 63) / 64 * 64
    let p := packSections (off + n) r
    (entryBytes ty off b.length ++ p.1, b ++ (List.replicate (n - b.length) 0#8 ++ p.2))

/-- All of the small container before its firmware. -/
def smallHead : List Byte :=
  let p := packSections 896 smallSections
  headBytes 1 13 (1984 + 17188 + 28 + 17060) ++ p.1 ++ entryBytes 14 1984 17188 ++ p.2

/-- A whole configuration container. -/
def smallContainer : List Byte := smallHead ++ (smallFirmware ++ (List.replicate 28 0#8 ++ sigBytes 2))

/-- OTP with vendor keys in slot 0, owner keys in slot 2, and PROVISIONED. -/
def keyedOtp : SMap Nat :=
  let key (alg k : Nat) : SMap Nat := (List.range 12).map (fun i => (slotAt alg k + i, 0x5A5A5A5A))
  [(4, 1), (5, 1), (6, 1)] ++ key 0 0 ++ key 0 2 ++ key 1 0 ++ key 1 2

theorem sigBytes_length (k : Nat) : (sigBytes k).length = 17060 := by
  unfold sigBytes; rw [List.length_append, List.length_replicate]; rfl

theorem smallHead_length : smallHead.length = 1984 := by decide +kernel

theorem smallFirmware_length : smallFirmware.length = 17188 := by
  unfold smallFirmware; rw [List.length_append, sigBytes_length]; rfl

theorem smallContainer_length : smallContainer.length = 36260 := by
  unfold smallContainer
  rw [List.length_append, List.length_append, List.length_append, smallHead_length, smallFirmware_length, sigBytes_length, List.length_replicate]

/-- The end of a container after its first bytes. -/
theorem slice_end (a b : List Byte) (n : Nat) (h : b.length = n) : slice (a ++ b) a.length n = b := by
  unfold slice; rw [List.drop_left, ← h, List.take_length]

theorem smallFirmware_sig : cSig smallFirmware = sigBytes 0 := by
  have h : cLen smallFirmware - sigLen = (headBytes 2 1 17188 ++ entryBytes 0x20 128 0).length := by decide +kernel
  unfold cSig; rw [h]
  exact slice_end _ _ _ (sigBytes_length 0)

theorem smallContainer_sig : cSig smallContainer = sigBytes 2 := by
  have e : smallContainer = (smallHead ++ (smallFirmware ++ List.replicate 28 0#8)) ++ sigBytes 2 := by
    simp only [smallContainer, List.append_assoc]
  have h : cLen smallContainer - sigLen = 19200 := by decide +kernel
  have l : (smallHead ++ (smallFirmware ++ List.replicate 28 0#8)).length = 19200 := by
    rw [List.length_append, List.length_append, smallHead_length, smallFirmware_length, List.length_replicate]
  unfold cSig; rw [h, ← l, e]
  exact slice_end _ _ _ (sigBytes_length 2)

theorem smallContainer_firmware : cBody smallContainer 14 = some smallFirmware := by
  have h : (cTable smallContainer).find? (fun e => e.ty == 14) = some ⟨14, 1984, 17188, List.replicate 48 0x5A#8⟩ := by decide +kernel
  unfold cBody; rw [h]
  show some (slice smallContainer 1984 17188) = some smallFirmware
  unfold smallContainer slice
  rw [← smallHead_length, List.drop_left, ← smallFirmware_length, List.take_left]

/-- The head that the small container would make. -/
def smallDev : Dev :=
  let d := dvs []
  let fresh := { d with rf := resetValues, shadow := resetShadows, cmt := default, bal := default, cad := default, prot := default }
  ((fresh.p F.GLB_BOOT_STATUS_POSITION d.pos).p F.GLB_BOOT_STATUS_UNIT d.unit).withConfig smallContainer

/-- A field whose key lies where a map lists nothing reads 0. -/
theorem sv_unlisted (s : SMap Nat) (f : Fld) (a b : Nat) (h : s.any (fun e => decide (a ≤ e.1) && decide (e.1 < b)) = false) (ha : a ≤ f.key)
    (hb : f.key < b) : sv s f = 0 := by
  unfold sv
  induction s with
  | nil => rfl
  | cons e r ih =>
    rw [List.any_cons, Bool.or_eq_false_iff] at h
    have hne : e.1 ≠ f.key := by
      intro he
      have := h.1
      rw [he, decide_eq_true ha, decide_eq_true hb] at this
      exact absurd this (by decide)
    show (if e.1 = f.key then e.2 else mget r f.key) = 0
    rw [if_neg hne]; exact ih h.2

/-- Nothing is forced, swapped or inverted in the small configuration. -/
theorem small_forces : smallDev.rf.any (fun e => decide (0x0E1100 * 8 ≤ e.1) && decide (e.1 < 0x0E1300 * 8)) = false := by decide +kernel

theorem small_force (l k : Nat) (hl : l < 64) (hk : k < 8) : sv smallDev.rf (F.force l k) = 0 :=
  sv_unlisted _ _ _ _ small_forces (by unfold Fld.key F.force; simp only; omega) (by unfold Fld.key F.force; simp only; omega)
theorem small_swap (l : Nat) (hl : l < 64) : sv smallDev.rf (F.swap l) = 0 :=
  sv_unlisted _ _ _ _ small_forces (by unfold Fld.key F.swap; simp only; omega) (by unfold Fld.key F.swap; simp only; omega)
theorem small_invert (l : Nat) (hl : l < 64) : sv smallDev.rf (F.invert l) = 0 :=
  sv_unlisted _ _ _ _ small_forces (by unfold Fld.key F.invert; simp only; omega) (by unfold Fld.key F.invert; simp only; omega)

/-- A set that forces nothing passes FORCE. -/
theorem validateForce_none (d : Dev) (s : SMap Nat) (h : ∀ l k, l < 64 → k < 8 → sv s (F.force l k) = 0) : d.validateForce s = 0 := by
  have every (p : Nat → Nat → Bool) : (List.range 64).all (fun l => (List.range 8).all (fun k => sv s (F.force l k) == 0 || p l k)) = true := by
    rw [List.all_eq_true]; intro l hl
    rw [List.all_eq_true]; intro k hk
    rw [h l k (List.mem_range.mp hl) (List.mem_range.mp hk)]; rfl
  have both : bothOnLanes s = [] := by
    unfold bothOnLanes
    rw [List.filter_eq_nil_iff]; intro l hl
    rw [Bool.not_eq_true, List.any_eq_false]; intro k hk
    rw [h l k (List.mem_range.mp hl) (List.mem_range.mp hk)]
    exact Bool.false_and _ ▸ Bool.false_ne_true
  simp only [Dev.validateForce, every, both, firstFail, List.isEmpty_nil, if_true]

/-- A set that forces, swaps and inverts nothing passes SWAP. -/
theorem validateSwap_none (d : Dev) (s : SMap Nat) (h : ∀ l k, l < 64 → k < 8 → sv s (F.force l k) = 0)
    (hs : ∀ l, l < 64 → sv s (F.swap l) = 0) (hi : ∀ l, l < 64 → sv s (F.invert l) = 0) : d.validateSwap s = 0 := by
  have one : (List.range 64).all (fun l => decide (sv s (F.swap l) < 2 ^ d.legCount l) && decide (sv s (F.invert l) < 2 ^ (d.legCount l / 2))) = true := by
    rw [List.all_eq_true]; intro l hl
    rw [hs l (List.mem_range.mp hl), hi l (List.mem_range.mp hl), decide_eq_true (Nat.two_pow_pos _), decide_eq_true (Nat.two_pow_pos _)]; rfl
  have two : (List.range 64).all (fun l => (List.range 8).all (fun k => sv s (F.force l k) == 0 || !swappedLeg s l (k / 2))) = true := by
    rw [List.all_eq_true]; intro l hl
    rw [List.all_eq_true]; intro k hk
    rw [h l k (List.mem_range.mp hl) (List.mem_range.mp hk)]; rfl
  simp only [Dev.validateSwap, one, two, firstFail, if_true]

theorem validate_force (d : Dev) (s : SMap Nat) : d.validate 5 s = d.validateForce s := rfl
theorem validate_swap (d : Dev) (s : SMap Nat) : d.validate 6 s = d.validateSwap s := rfl

theorem small_step8 : smallDev.validateConfig smallContainer = secOk := by
  have h5 : smallDev.validate 5 smallDev.rf = 0 := (validate_force _ _).trans (validateForce_none _ _ small_force)
  have h6 : smallDev.validate 6 smallDev.rf = 0 := (validate_swap _ _).trans (validateSwap_none _ _ small_force small_swap small_invert)
  simp only [Dev.validateConfig, h5, h6]
  decide +kernel

theorem small_sections : sectionCheck smallContainer true = secOk := by decide +kernel

/-- O41, O42: where the two verifications accept and every hash is the one that stands beside it, the small container passes all of R479. -/
theorem witness_ContainerAccepted (hs : Config.sha384 = fun _ => List.replicate 48 0x5A#8) (hr : Config.rsaVerify = fun _ _ _ _ => true)
    (hv : Config.slhVerify = fun _ _ _ => true) : (Chip.verify ⟨keyedOtp, dvs []⟩ smallContainer).code = 0 := by
  have h17 : verify17 keyedOtp [] smallContainer = secOk := by
    simp only [verify17, verifyOne, step1, sigCheck, slotCheck, digestCheck, sha, hs, hr, hv, smallContainer_firmware,
      smallFirmware_sig, smallContainer_sig, smallFirmware_length, smallContainer_length]
    decide +kernel
  have hl : lifecycle keyedOtp [] = some 1 := by decide +kernel
  have hp : (dvs []).isLead = true := by decide +kernel
  show (if lifecycle keyedOtp [] = some 1 ∨ lifecycle keyedOtp [] = some 3 then
    (if (verify17 keyedOtp [] smallContainer).code ≠ 0 then verify17 keyedOtp [] smallContainer
     else if (sectionCheck smallContainer (dvs []).isLead).code ≠ 0 then sectionCheck smallContainer (dvs []).isLead
     else smallDev.validateConfig smallContainer) else secFail srLifecycle).code = 0
  rw [h17, hl, hp, small_sections, small_step8]; decide

end Sys2Proof.Tests
end

namespace Sys2Proof.Machine

/-! ## O57: which commands can change OTP -/

theorem Chip.otpStage_otp (corr : Nat) (unc : List Nat) (c : Chip) : (c.otpStage corr unc).otp = c.otp := by
  unfold Chip.otpStage; split <;> rfl

theorem Chip.slotsStage_otp (t : Nat) (c : Chip) : (c.slotsStage t).otp = c.otp := by
  unfold Chip.slotsStage; simp only; split <;> rfl

theorem Chip.loadDone_otp (t : Nat) (c : Chip) : (c.loadDone t).otp = c.otp := by
  unfold Chip.loadDone
  simp only
  split
  · rfl
  · split <;> rfl

theorem Chip.programSlot_otp (c : Chip) : c.programSlot.otp = c.otp := by
  unfold Chip.programSlot; simp only; split <;> rfl

theorem Chip.attestDone_otp (c : Chip) : c.attestDone.otp = c.otp := by
  unfold Chip.attestDone; split <;> rfl

/-- LOAD, PROGRAM_SLOT, ATTEST and LOCK program no OTP. -/
theorem Chip.secBit_otp {i : Nat} (h : i ∈ [0, 1, 3, 7]) (c : Chip) : (c.secBit i).otp = c.otp := by
  simp only [List.mem_cons, List.not_mem_nil, or_false] at h
  obtain rfl | rfl | rfl | rfl := h
  · rfl
  · exact c.programSlot_otp
  · rfl
  · rfl

/-- A write of SEC_CMD whose bits are among those four programs no OTP. -/
theorem Chip.secCmd_otp {w : Nat} (h : ∀ i ∈ List.range 8, w.testBit i = true → i ∈ [0, 1, 3, 7]) (c : Chip) :
    (c.secCmd w).otp = c.otp := by
  have round : ∀ (is : List Nat) (c : Chip), (∀ i ∈ is, w.testBit i = true → i ∈ [0, 1, 3, 7]) →
      (is.foldl (fun c i => if w.testBit i then c.secBit i else c) c).otp = c.otp := by
    intro is
    induction is with
    | nil => intro c _; rfl
    | cons i r ih =>
      intro c hi
      rw [List.foldl_cons, ih _ (fun j hj => hi j (List.mem_cons_of_mem _ hj))]
      split
      · exact Chip.secBit_otp (hi i List.mem_cons_self ‹_›) c
      · rfl
  exact round _ c h

theorem Chip.host_otp {a m : Nat} {f : Chip → Chip} (h : ∀ c, (f c).otp = c.otp) (c : Chip) : (Chip.host a m f c).otp = c.otp := by
  unfold Chip.host; split
  · exact h c
  · rfl

theorem onChip_checked {f : Chip → Chip} (hf : ∀ c, (f c).otp = c.otp) (i : Instr) (s : State) :
    ∃ n d, onChip i f s = checked i { s with node := n, dev := d } := by
  cases hh : s.dev.boot.held
  · exact ⟨s.node, (f ⟨s.otp, s.dev.fresh⟩).dev, by simp [onChip, hh, hf]⟩
  · exact ⟨s.node, s.dev.fresh, by simp [onChip, hh]⟩

/-- A command that is none of `Instr.otpWriter` has no hold on OTP, or acts on it through a stage or a security command that programs
nothing. -/
theorem exec_checked {i : Instr} (h : i.otpWriter = false) (s : State) :
    ∃ n d, exec i s = checked i { s with node := n, dev := d } := by
  cases i with
  | otpStage corr unc => rw [exec_otpStage]; exact onChip_checked (Chip.otpStage_otp corr unc) _ s
  | slotsStage t => rw [exec_slotsStage]; exact onChip_checked (Chip.slotsStage_otp t) _ s
  | loadComplete t => rw [exec_loadComplete]; exact onChip_checked (Chip.loadDone_otp t) _ s
  | attestComplete => rw [exec_attestComplete]; exact onChip_checked Chip.attestDone_otp _ s
  | load => rw [exec_load]; exact onChip_checked (Chip.host_otp (Chip.secCmd_otp (by decide))) _ s
  | programSlot => rw [exec_programSlot]; exact onChip_checked (Chip.host_otp (Chip.secCmd_otp (by decide))) _ s
  | attest => rw [exec_attest]; exact onChip_checked (Chip.host_otp (Chip.secCmd_otp (by decide))) _ s
  | lock => rw [exec_lock]; exact onChip_checked (Chip.host_otp (Chip.secCmd_otp (by decide))) _ s
  | token | advanceSvn | provision | provisionComplete | deploy | monWr _ _ _ | plainRegisterWrite _ _ _ | rd _ _ | wr _ _
  | rdInc _ _ | wrInc _ _ | rdPort _ _ | wrPort _ _ | nop _ _ | accessComplete _ | domainOff _ => cases h
  | _ => exact ⟨_, _, rfl⟩

/-- Only the commands of `Instr.otpWriter` change OTP. -/
theorem exec_otp {i : Instr} {s t : State} (h : i.otpWriter = false) (hx : exec i s = .next t) : t.otp = s.otp := by
  obtain ⟨n, d, he⟩ := exec_checked h s
  obtain ⟨-, rfl⟩ := checked_eq (he.symm.trans hx)
  rfl

/-- In reset a command that reaches neither the head there nor the cell node sends nothing and changes nothing (R33, R498). -/
theorem exec_held {i : Instr} {s : State} (hw : i.wellFormed = true) (hh : s.dev.boot.held = true) (hr : i.inReset = false)
    (hc : i.atCell = false) : exec i s = .next (s.withDev s.dev.fresh) := by
  obtain ⟨-, f, he⟩ | ⟨-, ha, -⟩ | ⟨-, f, he⟩ | ⟨ha, -⟩ | ⟨ha, -⟩ := exec_ways i s
  · rw [he]; exact onHead_held hw hh
  · cases hr.symm.trans ha
  · rw [he]; exact onChip_held hw hh
  · cases hc.symm.trans ha
  · cases hc.symm.trans ha

/-- A command of the cell node leaves OTP, and the head but for what it sends. -/
theorem exec_atCell {i : Instr} {s t : State} (hc : i.atCell = true) (hx : exec i s = .next t) :
    t.otp = s.otp ∧ t.dev = { s.dev with out := t.dev.out } := by
  obtain ⟨ha, -⟩ | ⟨ha, -⟩ | ⟨ha, -⟩ | ⟨-, f, he⟩ | ⟨-, f, he⟩ := exec_ways i s
  · cases hc.symm.trans ha
  · cases hc.symm.trans ha
  · cases hc.symm.trans ha
  · obtain ⟨-, -, ho, hd, -⟩ := onNode_cases (he.symm.trans hx)
    exact ⟨ho, by rw [hd]; rfl⟩
  · obtain ⟨-, -, ho, hd, -⟩ := onNodeOut_cases (he.symm.trans hx)
    exact ⟨ho, by rw [hd]⟩

/-- A command of the head leaves the cell node. -/
theorem exec_node {i : Instr} {s t : State} (hc : i.atCell = false) (hx : exec i s = .next t) : t.node = s.node := by
  obtain ⟨-, f, he⟩ | ⟨-, -, f, he⟩ | ⟨-, f, he⟩ | ⟨ha, -⟩ | ⟨ha, -⟩ := exec_ways i s
  · exact (onHead_cases (he.symm.trans hx)).2.2.2.1
  · exact (onHeadAlways_cases (he.symm.trans hx)).2.2.2.1
  · exact (onChip_cases (he.symm.trans hx)).2.2.1
  · cases hc.symm.trans ha
  · cases hc.symm.trans ha

/-- Settles O57: a held head takes only what reaches it in reset, and each command stays within its own part, by the five ways in which a
command acts. -/
theorem commandsReachOnlyTheirOwnPart : Obligations.CommandsReachOnlyTheirOwnPart := by
  unfold Obligations.CommandsReachOnlyTheirOwnPart
  exact ⟨fun _ _ hw hh hr hc => exec_held hw hh hr hc,
    fun _ _ _ hx => ⟨fun hc => exec_atCell hc hx, fun hc => exec_node hc hx, fun ho => exec_otp ho hx⟩⟩

end Sys2Proof.Machine

namespace Sys2Proof.Machine

/-! ## The register fields that a chain of updates can change -/

theorem Dev.regsBut.refl (d : Dev) (fs : List Fld) : d.regsBut d fs := fun _ _ => rfl

theorem Dev.regsBut.trans {a b c : Dev} {fs : List Fld} (h : a.regsBut b fs) (k : b.regsBut c fs) : a.regsBut c fs :=
  fun f hf => (k f hf).trans (h f hf)

theorem Dev.regsBut.mono {a b : Dev} {fs gs : List Fld} (h : a.regsBut b fs) (hs : fs ⊆ gs) : a.regsBut b gs :=
  fun f hf => h f (fun hm => hf (List.map_subset _ hs hm))

theorem Dev.regsBut.p {a b : Dev} {fs : List Fld} (h : a.regsBut b fs) {f : Fld} (hf : f ∈ fs) (v : Nat) : a.regsBut (b.p f v) fs :=
  fun x hx => (Dev.g_p_ne b v (fun he => hx (by rw [he]; exact List.mem_map_of_mem hf))).trans (h x hx)

theorem Dev.regsBut.pb {a b : Dev} {fs : List Fld} (h : a.regsBut b fs) {f : Fld} (hf : f ∈ fs) (v : Bool) : a.regsBut (b.pb f v) fs :=
  h.p hf _

theorem Dev.regsBut.inc {a b : Dev} {fs : List Fld} (h : a.regsBut b fs) {f : Fld} (hf : f ∈ fs) : a.regsBut (b.inc f) fs := h.p hf _

theorem Dev.regsBut.addTo {a b : Dev} {fs : List Fld} (h : a.regsBut b fs) {f : Fld} (hf : f ∈ fs) (n : Nat) : a.regsBut (b.addTo f n) fs :=
  h.p hf _

/-- An update of anything but the register file. -/
theorem Dev.regsBut.of_rf {a b c : Dev} {fs : List Fld} (h : a.regsBut b fs) (hr : c.rf = b.rf) : a.regsBut c fs :=
  fun x hx => by rw [← h x hx]; unfold Dev.g; rw [hr]

theorem Dev.regsBut.when {a b : Dev} {fs : List Fld} {c : Bool} {k : Dev → Dev} (h : a.regsBut b fs) (hk : a.regsBut (k b) fs) :
    a.regsBut (b.when c k) fs := by
  cases c
  · exact h
  · exact hk

theorem Dev.regsBut.b_eq {a b : Dev} {fs : List Fld} (h : a.regsBut b fs) {f : Fld} (hf : f.key ∉ fs.map Fld.key) : b.b f = a.b f := by
  unfold Dev.b; rw [h f hf]

/-! ## What a Shutter request does (R133, R323, R324) -/

/-- The register fields of the recorder that a trigger changes (R306). -/
def capFields : List Fld :=
  [F.CAP_TRIG_FRAME_FRAME, F.CAP_TRIG_SLOT_SLOT, F.CAP_STATE_STATE, F.CAP_STATE_SOURCE, F.CAP_STATE_PRE_VALID, F.CAP_IGNORED_COUNT]

theorem Dev.capTriggerIn_rest (src slot : Nat) (d : Dev) :
    d.capTriggerIn src slot = { d with rf := (d.capTriggerIn src slot).rf, cap := (d.capTriggerIn src slot).cap } := by
  unfold Dev.capTriggerIn
  simp only
  split
  · rfl
  · split <;> rfl

theorem Dev.capTriggerIn_regs (src slot : Nat) (d : Dev) : d.regsBut (d.capTriggerIn src slot) capFields := by
  unfold Dev.capTriggerIn
  simp only
  split
  · refine ((((Dev.regsBut.p ?_ ?_ _).p ?_ _).p ?_ _).p ?_ _).p ?_ _
    · exact (Dev.regsBut.refl d _).of_rf rfl
    all_goals simp [capFields]
  · split
    · exact (Dev.regsBut.refl d _).inc (by simp [capFields])
    · exact Dev.regsBut.refl d _

theorem Dev.capTrigger_b (src : Nat) (d : Dev) {f : Fld} (h : f.key ∉ capFields.map Fld.key) : (d.capTrigger src).b f = d.b f :=
  (Dev.capTriggerIn_regs src _ d).b_eq h

theorem Dev.when_b {d : Dev} {c : Bool} {k : Dev → Dev} {f : Fld} (h : (k d).b f = d.b f) : (d.when c k).b f = d.b f :=
  Dev.when_keep (fun d => d.b f) h

theorem Dev.latch_rest (d : Dev) (r o : Nat) : d.latch r o = { d with rf := (d.latch r o).rf, cap := (d.latch r o).cap } := by
  unfold Dev.latch
  split
  · rfl
  · simp only [Dev.when_eq]
    split
    · unfold Dev.capTrigger; rw [Dev.capTriggerIn_rest]; rfl
    · rfl

theorem Dev.latch_latched (d : Dev) (r o : Nat) :
    (d.latch r o).b F.PROT_STATUS_LATCHED0 = true ∧ (d.latch r o).b F.PROT_STATUS_LATCHED1 = true := by
  unfold Dev.latch
  split
  case isTrue h => simpa using h
  case isFalse =>
    simp only
    constructor
    · rw [Dev.when_b (Dev.capTrigger_b 1 _ (by decide))]
      simp (disch := decide) [Dev.inc, Dev.b_p_ne, Dev.b_pb_ne, Dev.b_pb_same]
    · rw [Dev.when_b (Dev.capTrigger_b 1 _ (by decide))]
      simp (disch := decide) [Dev.inc, Dev.b_p_ne, Dev.b_pb_same]

/-! ### The burst on the cell lanes -/

theorem Dev.burst_rest (d : Dev) (c s : Nat) : d.burst c s = { d with rf := (d.burst c s).rf, out := (d.burst c s).out } := by
  unfold Dev.burst; split <;> rfl

theorem Dev.burst_out {d : Dev} (h : 2 ≤ d.redState) (c s : Nat) : (d.burst c s).out = d.out ++ [.shutter c s] := by
  unfold Dev.burst; rw [if_neg (by omega)]; rfl

/-! ### The request -/

/-- The burst, the latch and the marks of a Shutter request, before it is noted and relayed round the ring. -/
def Dev.shutterMarks (d : Dev) (claim source : Nat) : Dev :=
  (((d.burst claim source).latch (source / 32) (source % 8)).when (source / 32 == reasonDc) (fun d => d.pb F.PROT_STATUS_DCSIDE true)).when
    (source / 32 == reasonHost) (fun d => d.pb F.PROT_STATUS_HOST_HELD true)

/-- A Shutter request notes its frame, and the end of suppression, and goes round the ring of more than one head. -/
theorem Dev.shutter_eq (d : Dev) (c s : Nat) : d.shutter c s =
    (let e : Dev := { d.shutterMarks c s with
      prot := { (d.shutterMarks c s).prot with lastShutter := some (d.shutterMarks c s).cad.frame },
      bal := { (d.shutterMarks c s).bal with suppStop := (d.shutterMarks c s).furtherStop s } }
    if e.conf.heads ≤ 1 then e else e.emit (.spanShutter c s)) := rfl

theorem Dev.shutterMarks_rest (d : Dev) (c s : Nat) : d.shutterMarks c s =
    { d with rf := (d.shutterMarks c s).rf, cap := (d.shutterMarks c s).cap, out := (d.burst c s).out } := by
  unfold Dev.shutterMarks
  simp only [Dev.when_eq]
  rw [Dev.latch_rest, Dev.burst_rest]
  split <;> split <;> rfl

/-- Both arms are latched after a Shutter request, and a host's sets HOST_HELD (R324, R325). -/
theorem Dev.shutterMarks_b (d : Dev) (c s : Nat) :
    (d.shutterMarks c s).b F.PROT_STATUS_LATCHED0 = true ∧ (d.shutterMarks c s).b F.PROT_STATUS_LATCHED1 = true ∧
      (s / 32 = reasonHost → (d.shutterMarks c s).b F.PROT_STATUS_HOST_HELD = true) := by
  obtain ⟨h0, h1⟩ := Dev.latch_latched (d.burst c s) (s / 32) (s % 8)
  unfold Dev.shutterMarks
  refine ⟨?_, ?_, fun hs => ?_⟩
  · rw [Dev.when_b (Dev.b_pb_ne _ _ (by decide)), Dev.when_b (Dev.b_pb_ne _ _ (by decide)), h0]
  · rw [Dev.when_b (Dev.b_pb_ne _ _ (by decide)), Dev.when_b (Dev.b_pb_ne _ _ (by decide)), h1]
  · rw [hs, beq_self_eq_true, Dev.when_true, Dev.b_pb_same _ _ rfl]

theorem Dev.shutter_g_eq (d : Dev) (c s : Nat) (f : Fld) : (d.shutter c s).g f = (d.shutterMarks c s).g f := by
  rw [Dev.shutter_eq]; simp only; split <;> rfl

theorem Dev.shutter_b_eq (d : Dev) (c s : Nat) (f : Fld) : (d.shutter c s).b f = (d.shutterMarks c s).b f := by
  unfold Dev.b; rw [Dev.shutter_g_eq]

theorem Dev.shutter_prot (d : Dev) (c s : Nat) : (d.shutter c s).prot = { d.prot with lastShutter := some d.cad.frame } := by
  rw [Dev.shutter_eq, Dev.shutterMarks_rest]; simp only; split <;> rfl

/-- A Shutter request is sent on unchanged to the cells of a head with a role, and round the ring of more than one head (R133, R135). -/
theorem Dev.shutter_out (d : Dev) (c s : Nat) :
    (2 ≤ d.redState → Out.shutter c s ∈ (d.shutter c s).out) ∧ (1 < d.conf.heads → Out.spanShutter c s ∈ (d.shutter c s).out) := by
  rw [Dev.shutter_eq, Dev.shutterMarks_rest]
  simp only
  split
  case isTrue h => exact ⟨fun hr => by simp [Dev.burst_out hr], fun hc => absurd h (by simpa using hc)⟩
  case isFalse => exact ⟨fun hr => by simp [Dev.burst_out hr], fun _ => by simp⟩

theorem Dev.copied_rest (d : Dev) (c : ShutCopy) : d.copied c = { d with prot := { d.prot with copies := (d.copied c).prot.copies } } := by
  unfold Dev.copied; split <;> rfl

/-! ## What raising a fault does (R324, R329, R344) -/

/-- A fault counted and its cause noted. -/
def Dev.raiseNoted (d : Dev) (r : Raise) : Dev :=
  let c : Cause := ⟨r.src, r.detail, r.cls, if r.event then some d.cad.frame else none, r.derate⟩
  let cs := d.prot.causes.filter (fun x => !(x.src == r.src && x.detail == r.detail && x.cls == r.cls))
  { d.inc (F.PROT_CLASS_COUNT r.cls) with prot := { d.prot with causes := cs ++ [c] } }

/-- The actions of its class applied: the Shutter of F3 and F4, the trip of F4, the hold of both. -/
def Dev.raiseActed (d : Dev) (r : Raise) : Dev :=
  (((d.raiseNoted r).when (decide (3 ≤ r.cls)) (fun d => d.shutterOwn r.reason)).when (r.cls == 4)
    (fun d => d.pb F.PROT_STATUS_TRIPPED true)).when (decide (3 ≤ r.cls)) (fun d => { d with prot := { d.prot with holdSeen := true } })

/-- The register fields that a fault changes after its actions: the status, the recorder's trigger and the loss of its record. -/
def raiseTail : List Fld := [F.PROT_STATUS_HOLD, F.PROT_STATUS_WARN, F.PROT_STATUS_DERATE, F.PROT_QUEUE_LOST_COUNT] ++ capFields

theorem Dev.protStatus_regs (d : Dev) : d.regsBut d.protStatus raiseTail :=
  (((Dev.regsBut.refl d _).pb (by decide) _).pb (by decide) _).pb (by decide) _

theorem Dev.enqueue_regs (d : Dev) (e : FqEntry) : d.regsBut (d.enqueue e) raiseTail := by
  unfold Dev.enqueue
  simp only
  split
  · exact (Dev.regsBut.refl d _).of_rf rfl
  · exact (Dev.regsBut.refl d _).inc (by decide)

theorem Dev.enqueue_prot (d : Dev) (e : FqEntry) : (d.enqueue e).prot = { d.prot with fq := (d.enqueue e).prot.fq } := by
  unfold Dev.enqueue; simp only; split <;> rfl

theorem Dev.capTrigger_prot (src : Nat) (d : Dev) : (d.capTrigger src).prot = d.prot := by
  unfold Dev.capTrigger; rw [Dev.capTriggerIn_rest]

/-- What follows the actions of a fault changes no register but those of `raiseTail`. -/
theorem Dev.raiseNow_regs (d : Dev) (r : Raise) : (d.raiseActed r).regsBut (d.raiseNow r) raiseTail := by
  have h := (d.raiseActed r).protStatus_regs
  exact (h.when (k := Dev.capTrigger 2) (h.trans ((Dev.capTriggerIn_regs 2 _ _).mono (List.subset_append_right _ _)))).trans
    (Dev.enqueue_regs _ _)

/-- Nor anything of the protection but the queues of records. -/
theorem Dev.raiseNow_prot (d : Dev) (r : Raise) : (d.raiseNow r).prot = { (d.raiseActed r).prot with fq := (d.raiseNow r).prot.fq } := by
  have queued : ∀ (a : Dev) (e : FqEntry), a.prot = (d.raiseActed r).prot →
      (a.enqueue e).prot = { (d.raiseActed r).prot with fq := (a.enqueue e).prot.fq } := by
    intro a e h; rw [Dev.enqueue_prot, h]
  exact queued _ _ (Dev.when_keep Dev.prot (Dev.capTrigger_prot 2 _))

theorem Dev.shutterOwn_causes (d : Dev) (r : Nat) : (d.shutterOwn r).prot.causes = d.prot.causes := by
  unfold Dev.shutterOwn; rw [Dev.copied_rest, Dev.shutter_prot]

/-- A Shutter request of the head itself latches both arms; one of the host holds them too. -/
theorem Dev.shutterOwn_b (d : Dev) (r : Nat) :
    (d.shutterOwn r).b F.PROT_STATUS_LATCHED0 = true ∧ (d.shutterOwn r).b F.PROT_STATUS_LATCHED1 = true ∧
      (r = reasonHost → (d.shutterOwn r).b F.PROT_STATUS_HOST_HELD = true) := by
  have hb : ∀ f, (d.shutterOwn r).b f = (d.shutterMarks d.claimSent (r * 32 + d.pos)).b f := by
    intro f; unfold Dev.shutterOwn; rw [← Dev.shutter_b_eq]; exact congrArg (· == 1) (Dev.copied_g _ _ f)
  have hp : d.pos < 8 := d.g_lt F.GLB_BOOT_STATUS_POSITION
  obtain ⟨h0, h1, hh⟩ := d.shutterMarks_b d.claimSent (r * 32 + d.pos)
  exact ⟨(hb _).trans h0, (hb _).trans h1, fun hr => (hb _).trans (hh (by omega))⟩

theorem Dev.raiseActed_causes (d : Dev) (r : Raise) : (d.raiseActed r).prot.causes = (d.raiseNoted r).prot.causes := by
  unfold Dev.raiseActed
  rw [Dev.when_keep (fun d => d.prot.causes) rfl, Dev.when_keep (fun d => d.prot.causes) rfl,
    Dev.when_keep (fun d => d.prot.causes) (Dev.shutterOwn_causes _ _)]

/-- The cause of a fault stands after it (R329). -/
theorem Dev.raiseNow_hasCause (d : Dev) (r : Raise) : (d.raiseNow r).hasCause r.src r.detail = true := by
  unfold Dev.hasCause
  rw [Dev.raiseNow_prot, Dev.raiseActed_causes]
  simp [Dev.raiseNoted]

/-- No count of a class is a field that a fault changes otherwise. -/
theorem classCount_key {c : Nat} (hc : c ≤ 4) : ∀ x ∈ faultFields, (F.PROT_CLASS_COUNT c).key ≠ x.key := by
  have : ∀ c ∈ List.range 5, ∀ x ∈ faultFields, (F.PROT_CLASS_COUNT c).key ≠ x.key := by decide
  exact this c (List.mem_range.mpr (by omega))

/-- A fault is counted once under its class. -/
theorem Dev.raiseNow_count (d : Dev) {r : Raise} (hc : r.cls ≤ 4) :
    (d.raiseNow r).g (F.PROT_CLASS_COUNT r.cls) = (d.g (F.PROT_CLASS_COUNT r.cls) + 1) % 2 ^ 32 := by
  have h := classCount_key hc
  unfold Dev.raiseNow
  simp only
  rw [Dev.enqueue_g _ _ h, Dev.when_g (Dev.capTrigger_g 2 _ h), Dev.protStatus_g _ h, Dev.when_g rfl,
    Dev.when_g (Dev.pb_g_ne _ _ (h F.PROT_STATUS_TRIPPED (by simp [faultFields]))), Dev.when_g (Dev.shutterOwn_g _ _ h)]
  exact Dev.g_inc_same d _

/-- An F3 or F4 latches both arms and is to be held, and an F4 trips (R324, R329). -/
theorem Dev.raiseActed_shut (d : Dev) {r : Raise} (hc : 3 ≤ r.cls) :
    (d.raiseActed r).b F.PROT_STATUS_LATCHED0 = true ∧ (d.raiseActed r).b F.PROT_STATUS_LATCHED1 = true ∧
      (d.raiseActed r).prot.holdSeen = true ∧ (r.reason = reasonHost → (d.raiseActed r).b F.PROT_STATUS_HOST_HELD = true) := by
  have hs := (d.raiseNoted r).shutterOwn_b r.reason
  have hb : ∀ f : Fld, f.key ≠ F.PROT_STATUS_TRIPPED.key → (d.raiseActed r).b f = ((d.raiseNoted r).shutterOwn r.reason).b f := by
    intro f hf
    unfold Dev.raiseActed
    simp only [hc, decide_true, Dev.when_true]
    exact Dev.when_b (Dev.b_pb_ne _ _ hf)
  refine ⟨?_, ?_, ?_, fun hr => ?_⟩
  · rw [hb _ (by decide)]; exact hs.1
  · rw [hb _ (by decide)]; exact hs.2.1
  · simp [Dev.raiseActed, hc]
  · rw [hb _ (by decide)]; exact hs.2.2 hr

theorem Dev.raiseActed_tripped (d : Dev) {r : Raise} (hc : r.cls = 4) : (d.raiseActed r).b F.PROT_STATUS_TRIPPED = true := by
  unfold Dev.raiseActed
  rw [Dev.when_b rfl, hc, beq_self_eq_true, Dev.when_true]
  exact Dev.b_pb_same _ _ rfl

/-- The latches that an F3 or F4 leaves, and HOST_HELD where the host asked for it. -/
theorem Dev.raiseNow_shut (d : Dev) {r : Raise} (hc : 3 ≤ r.cls) :
    (d.raiseNow r).b F.PROT_STATUS_LATCHED0 = true ∧ (d.raiseNow r).b F.PROT_STATUS_LATCHED1 = true ∧
      (d.raiseNow r).prot.holdSeen = true ∧ (r.reason = reasonHost → (d.raiseNow r).b F.PROT_STATUS_HOST_HELD = true) := by
  obtain ⟨h0, h1, hh, hr⟩ := d.raiseActed_shut hc
  have ht := d.raiseNow_regs r
  refine ⟨?_, ?_, ?_, fun he => ?_⟩
  · rw [ht.b_eq (by decide), h0]
  · rw [ht.b_eq (by decide), h1]
  · rw [Dev.raiseNow_prot, ← hh]
  · rw [ht.b_eq (by decide), hr he]

/-- Raising a fault leaves what `Dev.faulted` says of it. -/
theorem Dev.raise_faulted (d : Dev) {r : Raise} (hc : r.cls ≤ 4) : d.faulted (d.raise r) r.src r.cls r.detail := by
  unfold Dev.faulted Dev.raise
  constructor
  · intro h
    rw [if_neg h]
    refine ⟨d.raiseNow_hasCause r, d.raiseNow_count hc, fun h3 => ?_, fun h4 => ?_⟩
    · obtain ⟨h0, -, hh, -⟩ := d.raiseNow_shut h3
      exact ⟨by unfold Dev.latched; rw [h0, Bool.true_or], hh⟩
    · rw [(d.raiseNow_regs r).b_eq (by decide), d.raiseActed_tripped h4]
  · intro h
    rw [if_pos h]
    exact ⟨r, rfl, rfl, rfl, rfl⟩

/-- A fault raised after updates that leave the redundancy state, what waits for the wake, and the count of its class. -/
theorem Dev.faulted.after {a b c : Dev} {src cls detail : Nat} (h : b.faulted c src cls detail) (hs : b.redState = a.redState)
    (hd : b.red.deferred = a.red.deferred) (hc : b.g (F.PROT_CLASS_COUNT cls) = a.g (F.PROT_CLASS_COUNT cls)) :
    a.faulted c src cls detail := by
  unfold Dev.faulted at *
  rwa [hs, hd, hc] at h

/-- The register fields of a fault raised after updates of others. -/
theorem Dev.regsBut.raise {a b : Dev} {fs : List Fld} (h : a.regsBut b fs) {r : Raise} (hf : faultFields ⊆ fs)
    (hc : F.PROT_CLASS_COUNT r.cls ∈ fs) : a.regsBut (b.raise r) fs := by
  intro f hm
  have hk : faultFree r.cls f = true := by
    simp only [faultFree, Bool.and_eq_true, List.all_eq_true, decide_eq_true_eq]
    exact ⟨fun x hx he => hm (by rw [he]; exact List.mem_map_of_mem (hf hx)), fun he => hm (by rw [he]; exact List.mem_map_of_mem hc)⟩
  rw [Dev.raise_g _ _ hk, h f hm]

end Sys2Proof.Machine

namespace Sys2Proof.Machine

/-! ## Commands at a head out of reset -/

theorem onHead_up {i : Instr} {f : Dev → Dev} {s : State} (h : i.wellFormed = true) (hu : s.up) :
    onHead i f s = .next (s.withDev (f s.dev.fresh)) := onHead_next h hu

theorem onHead_host {i : Instr} {f : Dev → Dev} {s : State} {a m : Nat} (h : i.wellFormed = true) (hu : s.up)
    (hm : s.dev.hostMay a m = true) : onHead i (Dev.host a m f) s = .next (s.withDev (f s.dev.fresh)) := by
  rw [onHead_up h hu, Dev.host_run ((Dev.fresh_hostMay _ _ _).trans hm)]

/-! ## What a lane receives (R451) -/

/-- The counts of line errors of a lane. -/
def lineCounts (i : Nat) : List Fld := [F.LANE_CODE_ERR_COUNT i, F.HCL_LINE_ERR_COUNT i]

theorem Dev.heard_rest (d : Dev) (i : Nat) (line : Line) : d.heard i line = { d with rf := (d.heard i line).rf } := by
  unfold Dev.heard; simp only; split <;> rfl

theorem Dev.heard_regs (d : Dev) (i : Nat) (line : Line) : d.regsBut (d.heard i line) (lineCounts i) := by
  unfold Dev.heard
  simp only
  have h : d.regsBut (d.addTo (F.LANE_CODE_ERR_COUNT i) line.bads) (lineCounts i) := (Dev.regsBut.refl d _).addTo (by simp [lineCounts]) _
  split
  · exact h.addTo (by simp [lineCounts]) _
  · exact h

@[simp] theorem Dev.heard_prot (d : Dev) (i : Nat) (line : Line) : (d.heard i line).prot = d.prot := by rw [Dev.heard_rest]
@[simp] theorem Dev.heard_cad (d : Dev) (i : Nat) (line : Line) : (d.heard i line).cad = d.cad := by rw [Dev.heard_rest]
@[simp] theorem Dev.heard_conf (d : Dev) (i : Nat) (line : Line) : (d.heard i line).conf = d.conf := by rw [Dev.heard_rest]
@[simp] theorem Dev.heard_out (d : Dev) (i : Nat) (line : Line) : (d.heard i line).out = d.out := by rw [Dev.heard_rest]
@[simp] theorem Dev.heard_red (d : Dev) (i : Nat) (line : Line) : (d.heard i line).red = d.red := by rw [Dev.heard_rest]

/-- The counts of line errors of the 72 lanes lie below the registers of the other blocks. -/
theorem lineCounts_key {i : Nat} (hi : i < 72) {f : Fld} (hf : 0x0A0000 * 8 ≤ f.key) : f.key ∉ (lineCounts i).map Fld.key := by
  simp only [lineCounts, List.map_cons, List.map_nil, List.mem_cons, List.not_mem_nil, or_false, Fld.key, F.LANE_CODE_ERR_COUNT,
    F.HCL_LINE_ERR_COUNT] at *
  omega

/-- Counting errors leaves the lane's rate, by which it reads. -/
@[simp] theorem Dev.heard_got (d : Dev) (i : Nat) (line : Line) : (d.heard i line).got i line = d.got i line := by
  unfold Dev.got
  have hk : (F.LANE_CFG_RATE i).key ∉ (lineCounts i).map Fld.key := by
    simp only [lineCounts, List.map_cons, List.map_nil, List.mem_cons, List.not_mem_nil, or_false, Fld.key, F.LANE_CFG_RATE,
      F.LANE_CODE_ERR_COUNT, F.HCL_LINE_ERR_COUNT]
    omega
  rw [d.heard_regs i line _ hk]

theorem Dev.heard_redState (d : Dev) {i : Nat} (hi : i < 72) (line : Line) : (d.heard i line).redState = d.redState :=
  d.heard_regs i line _ (lineCounts_key hi (by decide))

theorem Dev.lineError_rest (d : Dev) (i : Nat) : d.lineError i = { d with rf := (d.lineError i).rf } := by
  unfold Dev.lineError; split <;> rfl

theorem Dev.lineError_regs (d : Dev) (i : Nat) : d.regsBut (d.lineError i) (lineCounts i) := by
  unfold Dev.lineError
  split
  · exact (Dev.regsBut.refl d _).inc (by simp [lineCounts])
  · exact .refl d _

/-- What a lane brings that its command does not speak of is nothing, or one line error (R129, R151). -/
theorem Dev.other_cases (d : Dev) (i : Nat) (line : Line) : d.other i line = d ∨ d.other i line = d.lineError i := by
  unfold Dev.other
  split
  · exact .inl rfl
  · split
    · exact .inl rfl
    · exact .inr rfl
  · split
    · exact .inr rfl
    · exact .inl rfl

/-! ## O25: the Shutter from the span and from the host -/

/-- The SHUTTER in an ordered set's content, as a copy that came on lane `i` (R29, R127). -/
def Dev.spanCopy (d : Dev) (i : Nat) (c : List Byte) : ShutCopy := ⟨beAt c 0 4, beAt c 4 1, some (decide (67 ≤ i)), d.cad.frame⟩

section
variable {d : Dev} {i : Nat} {line : Line} {c : List Byte}

theorem Dev.spanShutter_good (hg : d.got i line = .ordered 0xE1 c) (hc : c.length = 6) (ho : orderedOk 0xE1 c = true) :
    d.spanShutter i line =
      if d.prot.copies.any (fun x => x.matches (d.spanCopy i c)) then
        { d.heard i line with prot := { d.prot with
            copies := d.prot.copies.filter (fun x => !(x.matches (d.spanCopy i c) && x.by_.isSome)) } }
      else ((d.heard i line).shutter (beAt c 0 4) (beAt c 4 1)).copied (d.spanCopy i c) := by
  unfold Dev.spanShutter
  simp only [Dev.heard_got, hg]
  unfold Dev.takeSpanShutter
  simp only [hc, ho, Dev.heard_prot, Dev.heard_cad]
  rfl

/-- The first copy of a SHUTTER is a Shutter request, and is kept. -/
theorem Dev.spanShutter_new (hg : d.got i line = .ordered 0xE1 c) (hc : c.length = 6) (ho : orderedOk 0xE1 c = true)
    (hm : d.prot.copies.any (fun x => x.matches (d.spanCopy i c)) = false) :
    d.spanShutter i line = ((d.heard i line).shutter (beAt c 0 4) (beAt c 4 1)).copied (d.spanCopy i c) := by
  rw [Dev.spanShutter_good hg hc ho, hm]; rfl

/-- The second copy is discarded: it only ends the wait for it (R29). -/
theorem Dev.spanShutter_again (hg : d.got i line = .ordered 0xE1 c) (hc : c.length = 6) (ho : orderedOk 0xE1 c = true)
    (hm : d.prot.copies.any (fun x => x.matches (d.spanCopy i c)) = true) :
    d.spanShutter i line = { d.heard i line with prot := { d.prot with
      copies := d.prot.copies.filter (fun x => !(x.matches (d.spanCopy i c) && x.by_.isSome)) } } := by
  rw [Dev.spanShutter_good hg hc ho, if_pos hm]

/-- The first copy of a SHUTTER latches both arms, is noted for its frame, and goes to the cells and round the ring (R29, R323, R324). -/
theorem Dev.spanShutter_first (hi : i < 72) (claim source : Nat) (x : ShutCopy) :
    let e := ((d.heard i line).shutter claim source).copied x
    e.latched = true ∧ e.prot.lastShutter = some d.cad.frame ∧ (2 ≤ d.redState → Out.shutter claim source ∈ e.out) ∧
      (1 < d.conf.heads → Out.spanShutter claim source ∈ e.out) := by
  intro e
  obtain ⟨h0, -, -⟩ := (d.heard i line).shutterMarks_b claim source
  have hl : e.b F.PROT_STATUS_LATCHED0 = true := by
    unfold Dev.b at h0 ⊢; rw [Dev.copied_g, Dev.shutter_g_eq, h0]
  obtain ⟨hc, hs⟩ := (d.heard i line).shutter_out claim source
  have ho : e.out = ((d.heard i line).shutter claim source).out := by rw [show e = _ from Dev.copied_rest _ _]
  refine ⟨by unfold Dev.latched; rw [hl, Bool.true_or], ?_, fun h => ?_, fun h => ?_⟩
  · rw [show e = _ from Dev.copied_rest _ _, Dev.shutter_prot, Dev.heard_cad]
  · rw [ho]; exact hc (by rwa [Dev.heard_redState d hi])
  · rw [ho]; exact hs (by rwa [Dev.heard_conf])

/-- Anything but a good SHUTTER is at most counted (R129). -/
theorem Dev.spanShutter_bad (hg : ∀ c, d.got i line = .ordered 0xE1 c → c.length ≠ 6 ∨ orderedOk 0xE1 c = false) :
    d.spanShutter i line = d.heard i line ∨ d.spanShutter i line = (d.heard i line).lineError i := by
  unfold Dev.spanShutter
  simp only [Dev.heard_got]
  split
  case h_1 c hc =>
    left
    unfold Dev.takeSpanShutter
    rw [if_neg]
    rcases hg c hc with h | h <;> simp [h]
  case h_2 => exact Dev.other_cases _ _ _
end

/-- A Shutter of the host latches both arms, holds them, and counts as an F3 (R327). -/
theorem Dev.hostShutter_latches {d : Dev} (h : d.redState ≠ 1) :
    d.hostShutter.b F.PROT_STATUS_LATCHED0 = true ∧ d.hostShutter.b F.PROT_STATUS_LATCHED1 = true ∧
      d.hostShutter.b F.PROT_STATUS_HOST_HELD = true ∧
      d.hostShutter.g (F.PROT_CLASS_COUNT 3) = (d.g (F.PROT_CLASS_COUNT 3) + 1) % 2 ^ 32 := by
  have he : d.hostShutter = d.raiseNow { src := 0x060F, cls := 3, reason := reasonHost } := if_neg h
  obtain ⟨h0, h1, -, hh⟩ := d.raiseNow_shut (r := { src := 0x060F, cls := 3, reason := reasonHost }) (Nat.le_refl 3)
  rw [he]
  exact ⟨h0, h1, hh rfl, d.raiseNow_count (r := { src := 0x060F, cls := 3, reason := reasonHost }) (by decide)⟩

/-- Each bit of PROT_CMD is one command of the host (R327, R328, R341, R347). -/
theorem Dev.protCmd_bits (d : Dev) : d.protCmd 1 = d.hostShutter ∧ d.protCmd 2 = d.f4Reset ∧ d.protCmd 4 = d.unpin ∧
    d.protCmd 8 = d.unpinAll ∧ d.protCmd 16 = d.clearBypass := ⟨rfl, rfl, rfl, rfl, rfl⟩

/-! ## O25: the release (R325, R326) -/

theorem Dev.clearLatches_off (d : Dev) :
    d.clearLatches.b F.PROT_STATUS_LATCHED0 = false ∧ d.clearLatches.b F.PROT_STATUS_LATCHED1 = false ∧
      d.clearLatches.b F.PROT_STATUS_DCSIDE = false ∧ d.clearLatches.b F.PROT_STATUS_HOST_HELD = false := by
  have hb : ∀ f, d.clearLatches.b f = ((((d.pb F.PROT_STATUS_LATCHED0 false).pb F.PROT_STATUS_LATCHED1 false).pb
      F.PROT_STATUS_DCSIDE false).pb F.PROT_STATUS_HOST_HELD false).b f := fun _ => rfl
  simp only [hb]
  refine ⟨?_, ?_, ?_, ?_⟩ <;> simp (disch := decide) [Dev.b_pb_ne, Dev.b_pb_same]

theorem Dev.clearLatches_regs (d : Dev) : d.regsBut d.clearLatches
    [F.PROT_STATUS_LATCHED0, F.PROT_STATUS_LATCHED1, F.PROT_STATUS_DCSIDE, F.PROT_STATUS_HOST_HELD] :=
  Dev.regsBut.of_rf (((((Dev.regsBut.refl d _).pb (by decide) false).pb (by decide) false).pb (by decide) false).pb (by decide) false) rfl

theorem Dev.releaseCount_regs (d : Dev) :
    d.regsBut d.releaseCount [F.AV_PROT_RELEASE_COUNT, F.AV_PROT_RESTART_COUNT, F.AV_PROT_CMD_RELEASE] := by
  unfold Dev.releaseCount
  have h : d.regsBut (d.inc F.AV_PROT_RELEASE_COUNT) [F.AV_PROT_RELEASE_COUNT, F.AV_PROT_RESTART_COUNT, F.AV_PROT_CMD_RELEASE] :=
    (Dev.regsBut.refl d _).inc (by decide)
  split
  · simp only
    split
    · exact (h.of_rf rfl).inc (by decide)
    · exact (h.of_rf rfl).pb (by decide) _
  · exact .refl d _

theorem Dev.releaseCount_relDone (d : Dev) : d.releaseCount.prot.relDone = d.prot.relDone := by
  unfold Dev.releaseCount
  split
  · simp only; split <;> rfl
  · rfl

theorem Dev.ceInit_regs (d : Dev) : d.regsBut d.ceInit [F.CE_CTRL_INIT, F.CE_INIT_COUNT] := by
  have h : ∀ e : Dev, e.rf = d.rf → d.regsBut e [F.CE_CTRL_INIT, F.CE_INIT_COUNT] := fun e he => (Dev.regsBut.refl d _).of_rf he
  unfold Dev.ceInit
  simp only
  refine Dev.regsBut.inc ?_ (by decide)
  refine Dev.regsBut.when ?_ ?_
  · exact h _ rfl
  · exact Dev.regsBut.pb (h _ rfl) (f := F.CE_CTRL_INIT) (by decide) false

theorem Dev.ceInit_count (d : Dev) : d.ceInit.g F.CE_INIT_COUNT = (d.g F.CE_INIT_COUNT + 1) % 2 ^ 32 := by
  unfold Dev.ceInit
  simp only
  rw [Dev.g_inc_same, Dev.when_g (Dev.pb_g_ne _ _ (by decide))]
  rfl

theorem Dev.ceInit_prot (d : Dev) : d.ceInit.prot = d.prot := by
  unfold Dev.ceInit; simp only [Dev.when_eq]; split <;> rfl

/-- What a release at tick `f` that takes effect does, before the naming of it ends. -/
def Dev.releaseTaken (d : Dev) (f : Nat) : Dev :=
  ({ d with prot := { d.prot with relDone := some f, limitRaised := false } }.clearLatches.ceThaw.releaseCount).when d.prot.relInit
    (fun d => d.ceInit)

/-- A release is named no more. -/
def Dev.releaseEnd (d : Dev) : Dev :=
  { d with prot := { d.prot with relF := none, relAuto := false, relInit := false, relLate := false } }.pb F.AV_PROT_STATUS_RELEASE_NAMED false

/-- A release named for this tick takes effect or is counted as void, and is named no more. -/
theorem Dev.releaseApply_named {d : Dev} {f : Nat} (h : d.prot.relF = some f) (hf : f = d.cad.frame) :
    d.releaseApply = (if d.releaseVoid f then d.inc F.PROT_RELEASE_VOID_COUNT else d.releaseTaken f).releaseEnd := by
  unfold Dev.releaseApply
  rw [h]
  exact if_pos hf

theorem Dev.releaseEnd_b (d : Dev) {f : Fld} (hf : f.key ≠ F.AV_PROT_STATUS_RELEASE_NAMED.key) : d.releaseEnd.b f = d.b f := Dev.b_pb_ne _ _ hf

/-- The four bits that a release clears, the frame that it notes, and the initialisation that it may bring. -/
theorem Dev.releaseTaken_clears (d : Dev) (f : Nat) :
    (d.releaseTaken f).b F.PROT_STATUS_LATCHED0 = false ∧ (d.releaseTaken f).b F.PROT_STATUS_LATCHED1 = false ∧
      (d.releaseTaken f).b F.PROT_STATUS_DCSIDE = false ∧ (d.releaseTaken f).b F.PROT_STATUS_HOST_HELD = false ∧
      (d.releaseTaken f).prot.relDone = some f ∧
      (d.prot.relInit = true → (d.releaseTaken f).g F.CE_INIT_COUNT = (d.g F.CE_INIT_COUNT + 1) % 2 ^ 32) := by
  let n : Dev := { d with prot := { d.prot with relDone := some f, limitRaised := false } }
  obtain ⟨h0, h1, hd, hh⟩ := n.clearLatches_off
  have hb : ∀ x : Fld, x.key ∉ [F.AV_PROT_RELEASE_COUNT, F.AV_PROT_RESTART_COUNT, F.AV_PROT_CMD_RELEASE].map Fld.key →
      x.key ∉ [F.CE_CTRL_INIT, F.CE_INIT_COUNT].map Fld.key → (d.releaseTaken f).b x = n.clearLatches.b x := by
    intro x hr hi
    unfold Dev.releaseTaken
    rw [Dev.when_b ((Dev.ceInit_regs _).b_eq hi), (Dev.releaseCount_regs _).b_eq hr]
    rfl
  refine ⟨?_, ?_, ?_, ?_, ?_, fun hi => ?_⟩
  · rw [hb _ (by decide) (by decide), h0]
  · rw [hb _ (by decide) (by decide), h1]
  · rw [hb _ (by decide) (by decide), hd]
  · rw [hb _ (by decide) (by decide), hh]
  · unfold Dev.releaseTaken
    rw [Dev.when_keep (fun d => d.prot.relDone) (congrArg Prot.relDone (Dev.ceInit_prot _)), Dev.releaseCount_relDone]
    rfl
  · unfold Dev.releaseTaken
    rw [hi, Dev.when_true, Dev.ceInit_count, Dev.releaseCount_regs _ _ (by decide)]
    have := n.clearLatches_regs F.CE_INIT_COUNT (by decide)
    exact congrArg (fun x => (x + 1) % 2 ^ 32) this

/-! ## O25: F4_RESET, records and bypass (R328, R341, R347) -/

/-- Without ticks an F4 cause is present, so that a reset is refused at once and counted. -/
theorem Dev.f4Take_refused {d : Dev} (h : d.ticking = false) :
    d.f4Take = ((({ d with prot := { d.prot with f4Due := false } }.p F.PROT_RESET_KEY_KEY 0).pb F.PROT_CMD_F4_RESET false).inc
      F.PROT_RESET_REFUSE_COUNT) := by
  have hc : ((({ d with prot := { d.prot with f4Due := false } } : Dev).p F.PROT_RESET_KEY_KEY 0).pb F.PROT_CMD_F4_RESET false).f4Cause = true := by
    unfold Dev.f4Cause
    have : ((({ d with prot := { d.prot with f4Due := false } } : Dev).p F.PROT_RESET_KEY_KEY 0).pb F.PROT_CMD_F4_RESET false).ticking =
        d.ticking := (Dev.b_pb_ne _ _ (by decide)).trans (Dev.b_p_ne _ _ (by decide))
    rw [this, h]; rfl
  unfold Dev.f4Take
  simp only
  rw [if_pos hc]

/-- An update of each of a list of entries, none twice. -/
theorem mget_foldl_mupd {α : Type} [Inhabited α] [DecidableEq α] (f : α → α) (l : List Nat) (hl : l.Nodup) (m : SMap α) {j : Nat}
    (hj : j ∈ l) : mget (l.foldl (fun m i => mupd m i f) m) j = f (mget m j) := by
  have out : ∀ (l : List Nat) (m : SMap α), j ∉ l → mget (l.foldl (fun m i => mupd m i f) m) j = mget m j := by
    intro l
    induction l with
    | nil => intro m _; rfl
    | cons i r ih =>
      intro m h
      rw [List.foldl_cons, ih _ (fun hm => h (List.mem_cons_of_mem _ hm)), mget_mupd_ne _ _ (List.ne_of_not_mem_cons h)]
  induction l generalizing m with
  | nil => cases hj
  | cons i r ih =>
    obtain ⟨hi, hr⟩ := List.nodup_cons.mp hl
    rw [List.foldl_cons]
    rcases List.mem_cons.mp hj with rfl | hm
    · rw [out r _ hi, mget_mupd_same]
    · rw [ih hr _ hm, mget_mupd_ne _ _ (ne_of_mem_of_not_mem hm hi)]

/-- CLEAR_BYPASS clears the bit of the selected lane and no other (R341). -/
theorem Dev.clearBypass_bypassed {d : Dev} (h : (d.port! (d.g F.PROT_SEL_LANE)).status.testBit 9 = false) {l : Nat} (hl : l < 64) :
    d.clearBypass.bypassed l = (d.bypassed l && decide (l ≠ d.g F.PROT_SEL_LANE)) := by
  have hs : d.g F.PROT_SEL_LANE < 64 := d.g_lt F.PROT_SEL_LANE
  have bitOf : ∀ (v i j : Nat), j < 32 → (clrBit v i % 2 ^ 32).testBit j = (v.testBit j && decide (j ≠ i)) := by
    intro v i j hj; rw [Nat.testBit_mod_two_pow, testBit_clrBit, decide_eq_true hj, Bool.true_and]
  unfold Dev.clearBypass Dev.bypassed
  simp only [h, Bool.false_eq_true, if_false]
  by_cases hs32 : d.g F.PROT_SEL_LANE < 32 <;> by_cases hl32 : l < 32 <;> simp only [hs32, hl32, if_true, if_false]
  · rw [Dev.g_p_same]; exact bitOf _ _ _ hl32
  · rw [Dev.g_p_ne _ _ (by decide), decide_eq_true (by omega), Bool.and_true]
  · rw [Dev.g_p_ne _ _ (by decide), decide_eq_true (by omega), Bool.and_true]
  · rw [Dev.g_p_same]
    refine (bitOf _ _ _ (by omega)).trans ?_
    rw [decide_eq_decide.mpr (show l - 32 ≠ d.g F.PROT_SEL_LANE - 32 ↔ l ≠ d.g F.PROT_SEL_LANE by omega)]

theorem Dev.clearBypass_regs (d : Dev) : d.regsBut d.clearBypass [F.PROT_BYPASS_LO_MASK, F.PROT_BYPASS_HI_MASK] := by
  unfold Dev.clearBypass
  simp only
  split
  · exact .refl d _
  · split
    · exact (Dev.regsBut.refl d _).p (by decide) _
    · exact (Dev.regsBut.refl d _).p (by decide) _

theorem Dev.clearBypass_rest (d : Dev) : d.onlyRegs d.clearBypass := by
  unfold Dev.clearBypass Dev.onlyRegs
  simp only
  split
  · rfl
  · split <;> rfl

/-! ## O25: its clauses -/

theorem exec_spanShutter_of_good (s : State) (ln : Nat) (line : Line) (c : List Byte) (hu : s.up) (hl : ln < 72)
    (hg : s.dev.got ln line = .ordered 0xE1 c) (hc : c.length = 6) (ho : orderedOk 0xE1 c = true) :
    ∃ d, exec (.spanShutter ⟨ln, line⟩) s = .next (s.withDev d) ∧
      (s.dev.prot.copies.any (fun y => y.matches (s.dev.spanCopy ln c)) = false →
        d.latched = true ∧ d.prot.lastShutter = some s.dev.cad.frame ∧
        (2 ≤ s.dev.redState → Out.shutter (beAt c 0 4) (beAt c 4 1) ∈ d.out) ∧
        (1 < s.dev.conf.heads → Out.spanShutter (beAt c 0 4) (beAt c 4 1) ∈ d.out)) ∧
      (s.dev.prot.copies.any (fun y => y.matches (s.dev.spanCopy ln c)) = true → d.out = [] ∧
        d.b F.PROT_STATUS_LATCHED0 = s.dev.b F.PROT_STATUS_LATCHED0 ∧ d.b F.PROT_STATUS_LATCHED1 = s.dev.b F.PROT_STATUS_LATCHED1 ∧
        d.prot.lastShutter = s.dev.prot.lastShutter) := by
  refine ⟨_, (exec_spanShutter _ _).trans (onHead_up (by simpa [Instr.wellFormed] using hl) hu), ?_⟩
  have hf : s.dev.fresh.got ln line = .ordered 0xE1 c := hg
  refine ⟨fun hm => ?_, fun hm => ?_⟩
  · rw [Dev.spanShutter_new hf hc ho hm]
    exact Dev.spanShutter_first (d := s.dev.fresh) hl _ _ _
  · rw [Dev.spanShutter_again hf hc ho hm]
    have hr := s.dev.fresh.heard_regs ln line
    exact ⟨s.dev.fresh.heard_out ln line, hr.b_eq (lineCounts_key hl (by decide)), hr.b_eq (lineCounts_key hl (by decide)), rfl⟩

theorem exec_spanShutter_of_bad (s : State) (ln : Nat) (line : Line) (hu : s.up) (hl : ln < 72)
    (hg : ∀ c, s.dev.got ln line = .ordered 0xE1 c → c.length ≠ 6 ∨ orderedOk 0xE1 c = false) :
    ∃ d, exec (.spanShutter ⟨ln, line⟩) s = .next (s.withDev d) ∧ s.dev.fresh.onlyRegs d ∧ d.out = [] ∧
      s.dev.regsBut d [F.LANE_CODE_ERR_COUNT ln, F.HCL_LINE_ERR_COUNT ln] := by
  refine ⟨_, (exec_spanShutter _ _).trans (onHead_up (by simpa [Instr.wellFormed] using hl) hu), ?_⟩
  have hr := s.dev.fresh.heard_regs ln line
  have hh := s.dev.fresh.heard_rest ln line
  obtain he | he := Dev.spanShutter_bad (d := s.dev.fresh) hg
  · rw [he]
    exact ⟨by rw [hh]; rfl, by rw [hh]; rfl, hr⟩
  · rw [he]
    exact ⟨by rw [Dev.lineError_rest, hh]; rfl, by rw [Dev.lineError_rest, hh]; rfl, hr.trans (Dev.lineError_regs _ _)⟩

theorem exec_hostShutter_latches (s : State) (hu : s.up) (hr : s.dev.redState ≠ 1) :
    (s.dev.hostMay 0x103444 1 = true →
      ∃ d, exec .hostShutter s = .next (s.withDev d) ∧ d.b F.PROT_STATUS_LATCHED0 = true ∧ d.b F.PROT_STATUS_LATCHED1 = true ∧
        d.b F.PROT_STATUS_HOST_HELD = true ∧ d.g (F.PROT_CLASS_COUNT 3) = (s.dev.g (F.PROT_CLASS_COUNT 3) + 1) % 2 ^ 32) ∧
    (s.dev.hostMay 0x160608 2 = true →
      ∃ d, exec .avHostShutter s = .next (s.withDev d) ∧ d.b F.PROT_STATUS_LATCHED0 = true ∧ d.b F.PROT_STATUS_LATCHED1 = true ∧
        d.b F.PROT_STATUS_HOST_HELD = true ∧ d.g (F.PROT_CLASS_COUNT 3) = (s.dev.g (F.PROT_CLASS_COUNT 3) + 1) % 2 ^ 32) := by
  have hf : s.dev.fresh.redState ≠ 1 := hr
  refine ⟨fun hm => ⟨_, (exec_hostShutter _).trans (onHead_host rfl hu hm), ?_⟩,
    fun hm => ⟨_, (exec_avHostShutter _).trans (onHead_host rfl hu hm), Dev.hostShutter_latches hf⟩⟩
  rw [(Dev.protCmd_bits _).1]
  exact Dev.hostShutter_latches hf

/-- A host that may reach the arm view speaks to the lead (R35). -/
theorem Dev.hostMay_view {d : Dev} {a m : Nat} (ha : blockOf a = 0x160000) (h : d.hostMay a m = true) : d.isLead = true := by
  unfold Dev.hostMay at h
  rw [ha] at h
  simpa using (Bool.and_eq_true_iff.mp (Bool.and_eq_true_iff.mp h).1).2

theorem exec_release_sets (s : State) (hu : s.up) (hm : s.dev.hostMay 0x160608 1 = true) :
    ∃ d, exec .release s = .next (s.withDev d) ∧ d.b F.AV_PROT_CMD_RELEASE = true ∧ s.dev.regsBut d [F.AV_PROT_CMD_RELEASE] ∧
      s.dev.fresh.onlyRegs d := by
  refine ⟨_, (exec_release _).trans (onHead_host rfl hu hm), ?_⟩
  have hl : s.dev.fresh.isLead = true := Dev.hostMay_view rfl hm
  rw [show s.dev.fresh.hostReleaseCmd = s.dev.fresh.pb F.AV_PROT_CMD_RELEASE true from if_pos hl]
  exact ⟨Dev.b_pb_same _ _ rfl, (Dev.regsBut.refl s.dev.fresh _).pb (by decide) _, rfl⟩

theorem exec_releaseApply_of_named (s : State) (hu : s.up) (hr : s.dev.prot.relF = some s.dev.cad.frame) :
    ∃ d, exec .releaseApply s = .next (s.withDev d) ∧ d.prot.relF = none ∧ d.b F.AV_PROT_STATUS_RELEASE_NAMED = false ∧
      (s.dev.releaseVoid s.dev.cad.frame = false → d.b F.PROT_STATUS_LATCHED0 = false ∧ d.b F.PROT_STATUS_LATCHED1 = false ∧
        d.b F.PROT_STATUS_DCSIDE = false ∧ d.b F.PROT_STATUS_HOST_HELD = false ∧ d.prot.relDone = some s.dev.cad.frame ∧
        (s.dev.prot.relInit = true → d.g F.CE_INIT_COUNT = (s.dev.g F.CE_INIT_COUNT + 1) % 2 ^ 32)) ∧
      (s.dev.releaseVoid s.dev.cad.frame = true →
        d.g F.PROT_RELEASE_VOID_COUNT = (s.dev.g F.PROT_RELEASE_VOID_COUNT + 1) % 2 ^ 32 ∧
        s.dev.regsBut d [F.PROT_RELEASE_VOID_COUNT, F.AV_PROT_STATUS_RELEASE_NAMED]) := by
  refine ⟨_, (exec_releaseApply _).trans (onHead_up rfl hu), ?_⟩
  rw [Dev.releaseApply_named (d := s.dev.fresh) (f := s.dev.cad.frame) hr rfl]
  refine ⟨rfl, Dev.b_pb_same _ _ rfl, fun hv => ?_, fun hv => ?_⟩
  · rw [show s.dev.fresh.releaseVoid s.dev.cad.frame = false from hv]
    obtain ⟨h0, h1, hd, hh, hf, hi⟩ := s.dev.fresh.releaseTaken_clears s.dev.cad.frame
    simp only [Bool.false_eq_true, if_false]
    refine ⟨?_, ?_, ?_, ?_, hf, fun he => (Dev.g_p_ne _ _ (by decide)).trans (hi he)⟩
    · rw [Dev.releaseEnd_b _ (by decide), h0]
    · rw [Dev.releaseEnd_b _ (by decide), h1]
    · rw [Dev.releaseEnd_b _ (by decide), hd]
    · rw [Dev.releaseEnd_b _ (by decide), hh]
  · rw [show s.dev.fresh.releaseVoid s.dev.cad.frame = true from hv]
    simp only [if_true]
    exact ⟨(Dev.g_p_ne _ _ (by decide)).trans (Dev.g_inc_same _ _),
      (((Dev.regsBut.refl s.dev.fresh _).inc (by decide)).of_rf rfl).pb (by decide) _⟩

theorem exec_f4Reset_of_key (s : State) (hu : s.up) (hm : s.dev.hostMay 0x103444 2 = true) (hk : s.dev.g F.PROT_RESET_KEY_KEY = 0xF4A5) :
    (s.dev.ticking = true →
      ∃ d, exec .f4Reset s = .next (s.withDev d) ∧ d.b F.PROT_CMD_F4_RESET = true ∧ d.prot.f4Due = true ∧
        s.dev.regsBut d [F.PROT_CMD_F4_RESET]) ∧
    (s.dev.ticking = false →
      ∃ d, exec .f4Reset s = .next (s.withDev d) ∧ d.g F.PROT_RESET_KEY_KEY = 0 ∧
        d.g F.PROT_RESET_REFUSE_COUNT = (s.dev.g F.PROT_RESET_REFUSE_COUNT + 1) % 2 ^ 32 ∧
        s.dev.regsBut d [F.PROT_RESET_KEY_KEY, F.PROT_CMD_F4_RESET, F.PROT_RESET_REFUSE_COUNT]) := by
  have hx := (exec_f4Reset s).trans (onHead_host rfl hu hm)
  rw [(Dev.protCmd_bits _).2.1] at hx
  unfold Dev.f4Reset at hx
  rw [if_pos (show s.dev.fresh.g F.PROT_RESET_KEY_KEY = 0xF4A5 from hk)] at hx
  refine ⟨fun ht => ⟨_, by rw [if_pos (show s.dev.fresh.ticking = true from ht)] at hx; exact hx, ?_⟩, fun ht => ⟨_, hx, ?_⟩⟩
  · exact ⟨Dev.b_pb_same _ _ rfl, rfl, ((Dev.regsBut.refl s.dev _).of_rf rfl).pb (by decide) _⟩
  · have ht : s.dev.fresh.ticking = false := ht
    rw [ht, if_neg (by decide), Dev.f4Take_refused ht]
    refine ⟨?_, ?_, ?_⟩
    · rw [Dev.g_inc_ne _ (by decide), Dev.pb_g_ne _ _ (by decide), Dev.g_p_same]; rfl
    · rw [Dev.g_inc_same, Dev.pb_g_ne _ _ (by decide), Dev.g_p_ne _ _ (by decide)]; rfl
    · exact ((((Dev.regsBut.refl s.dev _).of_rf rfl).p (by decide) _).pb (by decide) _).inc (by decide)

theorem exec_unpin_clears (s : State) (hu : s.up) (hm : s.dev.hostMay 0x103444 4 = true) :
    let i := s.dev.g F.PROT_SEL_INDEX
    ∃ d, exec .unpin s = .next (s.withDev d) ∧ mget d.prot.ring i = (mget s.dev.prot.ring i).map (fun r => { r with pinned := false }) ∧
      (∀ j, j ≠ i → mget d.prot.ring j = mget s.dev.prot.ring j) ∧
      d = { s.dev.fresh with prot := { s.dev.prot with ring := d.prot.ring } } := by
  refine ⟨_, (exec_unpin _).trans (onHead_host rfl hu hm), ?_⟩
  rw [(Dev.protCmd_bits _).2.2.1]
  exact ⟨mget_mupd_same _ _ _, fun j hj => mget_mupd_ne _ _ hj, rfl⟩

theorem exec_unpinAll_clears (s : State) (hu : s.up) (hm : s.dev.hostMay 0x103444 8 = true) :
    ∃ d, exec .unpinAll s = .next (s.withDev d) ∧
      (∀ i, i < 256 → mget d.prot.ring i = (mget s.dev.prot.ring i).map (fun r => { r with pinned := false })) ∧
      d = { s.dev.fresh with prot := { s.dev.prot with ring := d.prot.ring } } := by
  refine ⟨_, (exec_unpinAll _).trans (onHead_host rfl hu hm), ?_⟩
  rw [(Dev.protCmd_bits _).2.2.2.1]
  unfold Dev.unpinAll
  have hr : ∀ i, i < 256 → i ∈ List.range 256 := fun i => List.mem_range.mpr
  have hn : (List.range 256).Nodup := List.nodup_range
  generalize List.range 256 = l at hr hn
  exact ⟨fun i hi => mget_foldl_mupd _ l hn _ (hr i hi), rfl⟩

theorem exec_clearBypass_clears (s : State) (hu : s.up) (hm : s.dev.hostMay 0x103444 16 = true) :
    ((s.dev.port! (s.dev.g F.PROT_SEL_LANE)).status.testBit 9 = false →
      ∃ d, exec .clearBypass s = .next (s.withDev d) ∧ d.bypassed (s.dev.g F.PROT_SEL_LANE) = false ∧
        (∀ l, l < 64 → l ≠ s.dev.g F.PROT_SEL_LANE → d.bypassed l = s.dev.bypassed l) ∧
        s.dev.regsBut d [F.PROT_BYPASS_LO_MASK, F.PROT_BYPASS_HI_MASK] ∧ s.dev.fresh.onlyRegs d) ∧
    ((s.dev.port! (s.dev.g F.PROT_SEL_LANE)).status.testBit 9 = true → exec .clearBypass s = .next (s.withDev s.dev.fresh)) := by
  have hx := (exec_clearBypass s).trans (onHead_host rfl hu hm)
  rw [(Dev.protCmd_bits _).2.2.2.2] at hx
  refine ⟨fun hs => ⟨_, hx, ?_, fun l hl hn => ?_, s.dev.fresh.clearBypass_regs, s.dev.fresh.clearBypass_rest⟩, fun hs => ?_⟩
  · have hl : s.dev.g F.PROT_SEL_LANE < 64 := s.dev.g_lt F.PROT_SEL_LANE
    rw [Dev.clearBypass_bypassed (d := s.dev.fresh) hs hl]
    simp
  · rw [Dev.clearBypass_bypassed (d := s.dev.fresh) hs hl]
    rw [Dev.fresh_g, decide_eq_true hn, Bool.and_true]
    rfl
  · rw [hx]
    unfold Dev.clearBypass
    simp only
    rw [if_pos (show (s.dev.fresh.port! (s.dev.fresh.g F.PROT_SEL_LANE)).status.testBit 9 = true from hs)]

/-- Settles O25, clause by clause: the two copies of a span's SHUTTER, a bad one, the host's, the release written and applied, and the host's
commands on the reset, the records and the bypass. -/
theorem shutterReleaseAndHostCommands : Obligations.ShutterReleaseAndHostCommands := by
  unfold Obligations.ShutterReleaseAndHostCommands
  exact ⟨exec_spanShutter_of_good, exec_spanShutter_of_bad, exec_hostShutter_latches, exec_release_sets, exec_releaseApply_of_named,
    exec_f4Reset_of_key, exec_unpin_clears, exec_unpinAll_clears, exec_clearBypass_clears⟩

end Sys2Proof.Machine

namespace Sys2Proof.Machine

/-! ## Messages on the span (R457 to R459) -/

theorem Dev.spanQueue_rest (d : Dev) (i c : Nat) (o : Out) : d.spanQueue i c o =
    { d with rf := (d.spanQueue i c o).rf, fab := { d.fab with spanq := (d.spanQueue i c o).fab.spanq } } := by
  unfold Dev.spanQueue
  simp only
  split
  · rfl
  · split
    · rfl
    · split <;> rfl

theorem Dev.spanQueue_regs (d : Dev) (i c : Nat) (o : Out) : d.regsBut (d.spanQueue i c o) [F.SPAN_QUEUE_DROP_COUNT] := by
  have h : d.regsBut (d.inc F.SPAN_QUEUE_DROP_COUNT) [F.SPAN_QUEUE_DROP_COUNT] := (Dev.regsBut.refl d _).inc (by decide)
  unfold Dev.spanQueue
  simp only
  split
  · exact (Dev.regsBut.refl d _).of_rf rfl
  · split
    · exact .refl d _
    · split
      · exact h.of_rf rfl
      · exact h

theorem Dev.spanWait_rest (d : Dev) (b : Nat) (o : Out) : d.spanWait b o =
    { d with rf := (d.spanWait b o).rf, fab := { d.fab with spanq := (d.spanWait b o).fab.spanq } } := by
  unfold Dev.spanWait
  split
  · exact Dev.spanQueue_rest _ _ _ _
  · rfl

theorem Dev.spanWait_regs (d : Dev) (b : Nat) (o : Out) : d.regsBut (d.spanWait b o) [F.SPAN_QUEUE_DROP_COUNT] := by
  unfold Dev.spanWait
  split
  · exact Dev.spanQueue_regs _ _ _ _
  · exact .refl d _

theorem Dev.spanWait_up {d : Dev} {b : Nat} (h : d.bundleUp b ≠ 0) (o : Out) : d.spanWait b o = d := if_neg (fun hc => h hc.1)

/-- A message of this head is sent; besides, it can only wait in the span queues or be lost by them. -/
theorem Dev.spanSend_rest (d : Dev) (o : Out) : d.spanSend o =
    { d with rf := (d.spanSend o).rf, fab := { d.fab with spanq := (d.spanSend o).fab.spanq }, out := d.out ++ [o] } := by
  unfold Dev.spanSend
  rw [Dev.spanWait_rest _ 1, Dev.spanWait_rest _ 0]
  rfl

theorem Dev.spanSend_regs (d : Dev) (o : Out) : d.regsBut (d.spanSend o) [F.SPAN_QUEUE_DROP_COUNT] :=
  (((Dev.regsBut.refl d _).of_rf rfl).trans (Dev.spanWait_regs (d.emit o) 0 o)).trans (Dev.spanWait_regs _ 1 o)

theorem Dev.spanSend_up {d : Dev} (h0 : d.bundleUp 0 ≠ 0) (h1 : d.bundleUp 1 ≠ 0) (o : Out) : d.spanSend o = d.emit o := by
  unfold Dev.spanSend
  rw [Dev.spanWait_up (d := d.emit o) h0, Dev.spanWait_up (d := d.emit o) h1]

theorem Dev.relay_regs (d : Dev) (ty : Nat) (h : SpanHdr) : d.regsBut (d.relay ty h) [F.SPAN_QUEUE_DROP_COUNT] := by
  unfold Dev.relay
  split
  · exact .refl d _
  · exact ((Dev.regsBut.refl d _).of_rf rfl).trans (Dev.spanWait_regs _ _ _)

theorem Dev.relay_ring (d : Dev) (ty : Nat) (h : SpanHdr) : (d.relay ty h).fab.ring = d.fab.ring :=
  Dev.relay_keep (fun d => d.fab.ring) (fun _ _ => rfl) (fun _ _ => rfl) (fun _ => rfl) d ty h

theorem Dev.spanHeard_regs (d : Dev) (ty : Nat) (h : SpanHdr) : d.regsBut (d.spanHeard ty h) [F.SPAN_QUEUE_DROP_COUNT] :=
  (d.relay_regs ty h).of_rf rfl

/-- A message that the head does not act on is relayed, and counted where its CRC fails (R457). -/
theorem Dev.spanTake_quiet {d : Dev} {ty : Nat} {h : SpanHdr} (ha : d.actsOn ty h = false) :
    d.spanTake ty h = (false, (d.relay ty h).when (!h.good) (fun d => d.inc F.SPAN_MSG_ERR_COUNT)) := by
  have h1 : (d.relay ty h).isLead = d.isLead := congrArg (· == 0) (d.relay_regs ty h _ (by decide))
  have h2 : (d.relay ty h).spectator = d.spectator := (d.relay_regs ty h).b_eq (by decide)
  have h3 : (d.relay ty h).firstCopy ty h = d.firstCopy ty h :=
    Dev.relay_keep (fun d => d.firstCopy ty h) (fun _ _ => rfl) (fun _ _ => rfl) (fun _ => rfl) d ty h
  unfold Dev.spanTake
  unfold Dev.actsOn at ha
  simp only [h1, h2, h3]
  cases hg : h.good
  · rfl
  · cases ht : (toLead ty && !d.isLead)
    · cases hs : (d.spectator && ty != spEnum)
      · simp only [hg, ht, hs, Bool.not_false, Bool.and_self, Bool.true_and] at ha
        simp [ha]
      · simp
    · simp

/-- The head acts on what `Dev.actsOn` says, and on nothing else. -/
theorem Dev.spanTake_fst (d : Dev) (ty : Nat) (h : SpanHdr) : (d.spanTake ty h).1 = d.actsOn ty h := by
  cases ha : d.actsOn ty h
  · rw [Dev.spanTake_quiet ha]
  · rw [Dev.spanTake_acts ha]

theorem Dev.spanTake_regs (d : Dev) (ty : Nat) (h : SpanHdr) :
    d.regsBut (d.spanTake ty h).2 [F.SPAN_MSG_ERR_COUNT, F.SPAN_QUEUE_DROP_COUNT] := by
  cases ha : d.actsOn ty h
  · rw [Dev.spanTake_quiet ha]
    have hr := (d.relay_regs ty h).mono (gs := [F.SPAN_MSG_ERR_COUNT, F.SPAN_QUEUE_DROP_COUNT]) (by simp)
    exact hr.when (k := fun d => d.inc F.SPAN_MSG_ERR_COUNT) (hr.inc (by decide))
  · rw [Dev.spanTake_acts ha]
    exact (d.spanHeard_regs ty h).mono (by simp)

/-- A message whose CRC fails is counted (R457). -/
theorem Dev.spanTake_msgErr (d : Dev) (ty : Nat) (h : SpanHdr) :
    (d.spanTake ty h).2.g F.SPAN_MSG_ERR_COUNT = (d.g F.SPAN_MSG_ERR_COUNT + if h.good then 0 else 1) % 2 ^ 32 := by
  have hm : d.g F.SPAN_MSG_ERR_COUNT % 2 ^ 32 = d.g F.SPAN_MSG_ERR_COUNT := d.g_mod F.SPAN_MSG_ERR_COUNT
  have hr : (d.relay ty h).g F.SPAN_MSG_ERR_COUNT = d.g F.SPAN_MSG_ERR_COUNT := d.relay_regs ty h _ (by decide)
  cases ha : d.actsOn ty h
  · rw [Dev.spanTake_quiet ha]
    cases hg : h.good
    · simp only [Bool.not_false, Dev.when_true, Dev.g_inc_same, hr]; rfl
    · simp only [Bool.not_true, Dev.when_false, if_true, Nat.add_zero, hr, hm]
  · have hg : h.good = true := by
      unfold Dev.actsOn at ha; simp only [Bool.and_eq_true] at ha; exact ha.1.1.1
    rw [Dev.spanTake_acts ha, hg, if_pos rfl, Nat.add_zero, hm]
    exact d.spanHeard_regs ty h _ (by decide)

theorem Dev.spanTake_ring (d : Dev) (ty : Nat) (h : SpanHdr) : (d.spanTake ty h).2.fab.ring = d.fab.ring := by
  cases ha : d.actsOn ty h
  · rw [Dev.spanTake_quiet ha, Dev.when_keep (fun d => d.fab.ring) rfl, Dev.relay_ring]
  · rw [Dev.spanTake_acts ha]; exact d.relay_ring ty h

/-! ## O39: ENUM goes round the ring (R460) -/

theorem exec_enumSend_cases (s : State) (hu : s.up) :
    (s.dev.isLead = true → s.dev.b F.LANE_ENUM_DONE = false → 1 ≤ s.dev.bundleUp 0 + s.dev.bundleUp 1 →
      ∃ d, exec .enumSend s = .next (s.withDev d) ∧ d.out = [.span spEnum 8 [s.dev.g F.LANE_ENUM_ADMITTED, s.dev.g F.LANE_ENUM_RING]] ∧
        s.dev.regsBut d [F.SPAN_QUEUE_DROP_COUNT] ∧ d = { s.dev.fresh with rf := d.rf, fab := d.fab, out := d.out } ∧
        (s.dev.bundleUp 0 ≠ 0 → s.dev.bundleUp 1 ≠ 0 → d.fab = s.dev.fab ∧ d.rf = s.dev.rf)) ∧
    (s.dev.isLead = false ∨ s.dev.b F.LANE_ENUM_DONE = true ∨ s.dev.bundleUp 0 + s.dev.bundleUp 1 = 0 →
      exec .enumSend s = .next (s.withDev s.dev.fresh)) := by
  have hx := (exec_enumSend s).trans (onHead_up rfl hu)
  refine ⟨fun hl hd hb => ?_, fun h => ?_⟩
  · have he : s.dev.fresh.enumSend =
        s.dev.fresh.spanSend (.span spEnum 8 [s.dev.g F.LANE_ENUM_ADMITTED, s.dev.g F.LANE_ENUM_RING]) := by
      have hc : (s.dev.isLead && !s.dev.b F.LANE_ENUM_DONE && decide (1 ≤ s.dev.bundleUp 0 + s.dev.bundleUp 1)) = true := by
        simp [hl, hd, hb]
      exact if_pos hc
    rw [he] at hx
    refine ⟨_, hx, ?_, s.dev.fresh.spanSend_regs _, ?_, fun h0 h1 => ?_⟩
    · rw [Dev.spanSend_rest]; rfl
    · rw [Dev.spanSend_rest]
    · rw [Dev.spanSend_up (d := s.dev.fresh) h0 h1]; exact ⟨rfl, rfl⟩
  · have hc : ¬ (s.dev.isLead && !s.dev.b F.LANE_ENUM_DONE && decide (1 ≤ s.dev.bundleUp 0 + s.dev.bundleUp 1)) = true := by
      rcases h with h | h | h <;> simp [h]
    have he : s.dev.fresh.enumSend = s.dev.fresh := if_neg hc
    rw [hx, he]

/-- What ENUM says is taken, with the answer that goes round the ring. -/
theorem Dev.enumTake_acts {d : Dev} {h : SpanHdr} {adm ring : Nat} {done spec : Bool} (ha : d.actsOn spEnum h = true) (hl : d.isLead = false) :
    d.enumTake h adm ring done spec =
      (((((d.spanHeard spEnum h).p F.LANE_ENUM_ADMITTED adm).p F.LANE_ENUM_RING ring).pb F.LANE_ENUM_DONE done).pb
        F.LANE_ENUM_SPECTATOR spec).spanSend (.span spEnumReply 0 [d.pos, d.unit, d.unit]) := by
  have hr := d.spanHeard_regs spEnum h
  have hlead : (d.spanHeard spEnum h).isLead = false := (congrArg (· == 0) (hr _ (by decide))).trans hl
  have hk : ∀ f : Fld, f.key ∉ [F.LANE_ENUM_ADMITTED, F.LANE_ENUM_RING, F.LANE_ENUM_DONE, F.LANE_ENUM_SPECTATOR,
      F.SPAN_QUEUE_DROP_COUNT].map Fld.key → (((((d.spanHeard spEnum h).p F.LANE_ENUM_ADMITTED adm).p F.LANE_ENUM_RING ring).pb
        F.LANE_ENUM_DONE done).pb F.LANE_ENUM_SPECTATOR spec).g f = d.g f :=
    (((((hr.mono (by simp)).p (by decide) _).p (by decide) _).pb (by decide) _).pb (by decide) _)
  unfold Dev.enumTake
  simp only [Dev.spanTake_acts ha, hlead, Bool.not_false, Bool.and_self, if_true]
  unfold Dev.pos Dev.unit
  rw [hk _ (by decide), hk _ (by decide)]

theorem exec_enum_cases (s : State) (h : SpanHdr) (adm ring : Nat) (done spec : Bool) (hu : s.up) (hh : hdrOk h = true) (ha : adm < 256)
    (hr : ring < 16) :
    (s.dev.actsOn spEnum h = true → s.dev.isLead = false →
      ∃ d, exec (.enum h adm ring done spec) s = .next (s.withDev d) ∧ d.g F.LANE_ENUM_ADMITTED = adm ∧ d.g F.LANE_ENUM_RING = ring ∧
        d.b F.LANE_ENUM_DONE = done ∧ d.spectator = spec ∧ d.out.getLast? = some (.span spEnumReply 0 [s.dev.pos, s.dev.unit, s.dev.unit]) ∧
        s.dev.regsBut d [F.LANE_ENUM_ADMITTED, F.LANE_ENUM_RING, F.LANE_ENUM_DONE, F.LANE_ENUM_SPECTATOR, F.SPAN_QUEUE_DROP_COUNT]) ∧
    (s.dev.actsOn spEnum h = false ∨ s.dev.isLead = true →
      ∃ d, exec (.enum h adm ring done spec) s = .next (s.withDev d) ∧
        s.dev.regsBut d [F.SPAN_MSG_ERR_COUNT, F.SPAN_QUEUE_DROP_COUNT] ∧
        d.g F.SPAN_MSG_ERR_COUNT = (s.dev.g F.SPAN_MSG_ERR_COUNT + if h.good then 0 else 1) % 2 ^ 32) := by
  have hw : (Instr.enum h adm ring done spec).wellFormed = true := by
    simp only [Instr.wellFormed, hh, ha, decide_true, Bool.true_and, Bool.and_true, decide_eq_true_eq]
    exact Nat.lt_trans hr (by decide)
  have hx := (exec_enum h adm ring done spec s).trans (onHead_up hw hu)
  refine ⟨fun hc hl => ?_, fun hc => ⟨_, hx, ?_⟩⟩
  · rw [Dev.enumTake_acts (d := s.dev.fresh) hc hl] at hx
    refine ⟨_, hx, ?_⟩
    have hs := fun e : Dev => e.spanSend_regs (.span spEnumReply 0 [s.dev.pos, s.dev.unit, s.dev.unit])
    refine ⟨?_, ?_, ?_, ?_, ?_, ?_⟩
    · refine (hs _ _ (by decide)).trans ?_
      simp (disch := decide) only [Dev.pb_g_ne, Dev.g_p_ne, Dev.g_p_same]
      exact Nat.mod_eq_of_lt ha
    · refine (hs _ _ (by decide)).trans ?_
      simp (disch := decide) only [Dev.pb_g_ne, Dev.g_p_same]
      exact Nat.mod_eq_of_lt hr
    · exact ((hs _).b_eq (by decide)).trans ((Dev.b_pb_ne _ _ (by decide)).trans (Dev.b_pb_same _ _ rfl))
    · exact ((hs _).b_eq (by decide)).trans (Dev.b_pb_same _ _ rfl)
    · rw [Dev.spanSend_rest]; exact List.getLast?_concat
    · have h0 := (s.dev.fresh.spanHeard_regs spEnum h).mono (gs := [F.LANE_ENUM_ADMITTED, F.LANE_ENUM_RING, F.LANE_ENUM_DONE,
        F.LANE_ENUM_SPECTATOR, F.SPAN_QUEUE_DROP_COUNT]) (by simp)
      exact ((((h0.p (by decide) _).p (by decide) _).pb (by decide) _).pb (by decide) _).trans ((hs _).mono (by simp))
  · have he : s.dev.fresh.enumTake h adm ring done spec = (s.dev.fresh.spanTake spEnum h).2 := by
      have hlead : (s.dev.fresh.spanTake spEnum h).2.isLead = s.dev.isLead :=
        congrArg (· == 0) (s.dev.fresh.spanTake_regs spEnum h _ (by decide))
      refine if_neg ?_
      change ¬ ((s.dev.fresh.spanTake spEnum h).1 && !(s.dev.fresh.spanTake spEnum h).2.isLead) = true
      rw [Dev.spanTake_fst, hlead]
      rcases hc with hc | hc
      · rw [show s.dev.fresh.actsOn spEnum h = false from hc]; simp
      · simp [hc]
    rw [he]
    exact ⟨s.dev.fresh.spanTake_regs _ _, s.dev.fresh.spanTake_msgErr _ _⟩

/-! ## O39: ENUM_REPLY at the lead (R28, R460) -/

/-- Only the lead acts on ENUM_REPLY, whose journey ends there: it notes the copy and does nothing else yet. -/
theorem Dev.actsOn_enumReply {d : Dev} {h : SpanHdr} (ha : d.actsOn spEnumReply h = true) :
    d.isLead = true ∧ d.spanHeard spEnumReply h = { d with spanSeq := (d.spanHeard spEnumReply h).spanSeq } := by
  have hl : d.isLead = true := by
    unfold Dev.actsOn at ha
    simp only [Bool.and_eq_true] at ha
    simpa [toLead] using ha.1.1.2
  have hr : d.relay spEnumReply h = d := if_pos (.inr ⟨hl, rfl⟩)
  refine ⟨hl, ?_⟩
  unfold Dev.spanHeard
  rw [hr]

/-- The place of a head in the ring is noted: its position, or none where it is refused. -/
def Dev.enumPlaced (d : Dev) (idx : Nat) (who : Option Nat) : Dev :=
  { d with fab := { d.fab with ring := mset d.fab.ring idx (some who) } }.p F.LANE_ENUM_RING
    ((mset d.fab.ring idx (some who)).length + 1)

/-- The head at position `p` is admitted. -/
def Dev.enumAdmitted (d : Dev) (p : Nat) : Dev :=
  (d.p F.LANE_ENUM_ADMITTED (setBit (d.g F.LANE_ENUM_ADMITTED) p)).pb F.LANE_ENUM_DONE
    (popCount 8 (setBit (d.g F.LANE_ENUM_ADMITTED) p) == d.conf.heads)

/-- Is the head at position `p` in place `idx` of the ring refused (R28, R460)? -/
def Dev.enumRefuses (d : Dev) (idx p : Nat) : Bool :=
  decide (d.conf.heads ≤ p) || (d.g F.LANE_ENUM_ADMITTED).testBit p || decide (8 ≤ idx)

theorem Dev.enumPlaced_ring (d : Dev) (idx : Nat) (who : Option Nat) : mget (d.enumPlaced idx who).fab.ring idx = some who := by
  unfold Dev.enumPlaced
  exact mget_mset_same d.fab.ring idx (some who)

theorem Dev.enumPlaced_regs (d : Dev) (idx : Nat) (who : Option Nat) : d.regsBut (d.enumPlaced idx who) [F.LANE_ENUM_RING] :=
  ((Dev.regsBut.refl d _).of_rf rfl).p (by decide) _

theorem Dev.enumAdmitted_mask (d : Dev) {p : Nat} (hp : p < 8) :
    (d.enumAdmitted p).g F.LANE_ENUM_ADMITTED = setBit (d.g F.LANE_ENUM_ADMITTED) p := by
  have hm : d.g F.LANE_ENUM_ADMITTED < 256 := d.g_lt F.LANE_ENUM_ADMITTED
  unfold Dev.enumAdmitted
  rw [Dev.pb_g_ne _ _ (by decide), Dev.g_p_same]
  exact Nat.mod_eq_of_lt (setBit_lt hm hp)

theorem Dev.enumAdmitted_done (d : Dev) (p : Nat) :
    (d.enumAdmitted p).b F.LANE_ENUM_DONE = (popCount 8 (setBit (d.g F.LANE_ENUM_ADMITTED) p) == d.conf.heads) := Dev.b_pb_same _ _ rfl

theorem Dev.enumAdmitted_regs (d : Dev) (p : Nat) : d.regsBut (d.enumAdmitted p) [F.LANE_ENUM_ADMITTED, F.LANE_ENUM_DONE] :=
  ((Dev.regsBut.refl d _).p (by decide) _).pb (by decide) _

section
variable {d : Dev} {h : SpanHdr} {p : Nat}

/-- The first reply of a place, with a free position, is admitted; the claim may have to be waited for (R505). -/
theorem Dev.enumReply_admits (ha : d.actsOn spEnumReply h = true) (hn : mget d.fab.ring (h.hops + 1) = none)
    (hr : d.enumRefuses (h.hops + 1) p = false) :
    ∃ c, d.enumReply h p = (((d.spanHeard spEnumReply h).enumPlaced (h.hops + 1) (some p)).enumAdmitted p).when c
      (fun d => { d with fab := { d.fab with late := d.fab.late ++ [p] } }) := by
  obtain ⟨hl, hs⟩ := Dev.actsOn_enumReply ha
  have hl' : (d.spanHeard spEnumReply h).isLead = true := by rw [hs]; exact hl
  have hn' : mget (d.spanHeard spEnumReply h).fab.ring (h.hops + 1) = none := by rw [hs]; exact hn
  have hr' : (decide ((d.spanHeard spEnumReply h).conf.heads ≤ p) || ((d.spanHeard spEnumReply h).g F.LANE_ENUM_ADMITTED).testBit p ||
      decide (8 ≤ h.hops + 1)) = false := by rw [hs]; exact hr
  unfold Dev.enumReply
  simp only [Dev.spanTake_acts ha, hl', hn', hr', Bool.and_self, Bool.not_true, Bool.false_eq_true, if_false]
  generalize d.spanHeard spEnumReply h = e
  have hg : (e.enumPlaced (h.hops + 1) (some p)).g F.LANE_ENUM_ADMITTED = e.g F.LANE_ENUM_ADMITTED := e.enumPlaced_regs _ _ _ (by decide)
  unfold Dev.enumAdmitted
  rw [hg]
  exact ⟨_, rfl⟩

/-- The first reply of a place that gets none is a spectator, counted and recorded. -/
theorem Dev.enumReply_refuses (ha : d.actsOn spEnumReply h = true) (hn : mget d.fab.ring (h.hops + 1) = none)
    (hr : d.enumRefuses (h.hops + 1) p = true) :
    d.enumReply h p = (((d.spanHeard spEnumReply h).enumPlaced (h.hops + 1) none).inc F.LANE_SPECTATOR_COUNT).raise
      { src := 0x0A06, cls := 0, detail := h.hops + 1 } := by
  obtain ⟨hl, hs⟩ := Dev.actsOn_enumReply ha
  have hl' : (d.spanHeard spEnumReply h).isLead = true := by rw [hs]; exact hl
  have hn' : mget (d.spanHeard spEnumReply h).fab.ring (h.hops + 1) = none := by rw [hs]; exact hn
  have hr' : (decide ((d.spanHeard spEnumReply h).conf.heads ≤ p) || ((d.spanHeard spEnumReply h).g F.LANE_ENUM_ADMITTED).testBit p ||
      decide (8 ≤ h.hops + 1)) = true := by rw [hs]; exact hr
  unfold Dev.enumReply
  simp only [Dev.spanTake_acts ha, hl', hn', hr', Bool.and_self, Bool.not_true, Bool.false_eq_true, if_false, if_true]
  rfl

/-- A reply that the head does not act on, or of a place known already, does nothing more than be taken. -/
theorem Dev.enumReply_idle (hc : d.actsOn spEnumReply h = false ∨ (mget d.fab.ring (h.hops + 1)).isSome = true) :
    d.enumReply h p = (d.spanTake spEnumReply h).2 := by
  have hring := d.spanTake_ring spEnumReply h
  have hfst := d.spanTake_fst spEnumReply h
  unfold Dev.enumReply
  simp only [hring, hfst]
  rcases hc with hc | hc
  · simp [hc]
  · obtain ⟨w, hw⟩ := Option.isSome_iff_exists.mp hc
    simp only [hw]
    split <;> rfl
end

theorem exec_enumReply_cases (s : State) (h : SpanHdr) (p : Nat) (hu : s.up) (hh : hdrOk h = true) (hp : p < 8) :
    (s.dev.actsOn spEnumReply h = true → mget s.dev.fab.ring (h.hops + 1) = none →
      (p < s.dev.conf.heads → (s.dev.g F.LANE_ENUM_ADMITTED).testBit p = false → h.hops < 7 →
        ∃ d, exec (.enumReply h p) s = .next (s.withDev d) ∧ mget d.fab.ring (h.hops + 1) = some (some p) ∧
          d.g F.LANE_ENUM_ADMITTED = setBit (s.dev.g F.LANE_ENUM_ADMITTED) p ∧
          d.b F.LANE_ENUM_DONE = (popCount 8 (setBit (s.dev.g F.LANE_ENUM_ADMITTED) p) == s.dev.conf.heads) ∧
          s.dev.regsBut d [F.LANE_ENUM_ADMITTED, F.LANE_ENUM_RING, F.LANE_ENUM_DONE]) ∧
      ((s.dev.conf.heads ≤ p ∨ (s.dev.g F.LANE_ENUM_ADMITTED).testBit p = true ∨ 7 ≤ h.hops) →
        ∃ d, exec (.enumReply h p) s = .next (s.withDev d) ∧ mget d.fab.ring (h.hops + 1) = some none ∧
          d.g F.LANE_SPECTATOR_COUNT = (s.dev.g F.LANE_SPECTATOR_COUNT + 1) % 2 ^ 32 ∧ s.dev.faulted d 0x0A06 0 (h.hops + 1) ∧
          s.dev.regsFault d 0 [F.LANE_SPECTATOR_COUNT, F.LANE_ENUM_RING])) ∧
    (s.dev.actsOn spEnumReply h = false ∨ (mget s.dev.fab.ring (h.hops + 1)).isSome = true →
      ∃ d, exec (.enumReply h p) s = .next (s.withDev d) ∧ d.fab.ring = s.dev.fab.ring ∧
        s.dev.regsBut d [F.SPAN_MSG_ERR_COUNT, F.SPAN_QUEUE_DROP_COUNT]) := by
  have hw : (Instr.enumReply h p).wellFormed = true := by simp [Instr.wellFormed, hh, hp]
  have hx := (exec_enumReply h p s).trans (onHead_up hw hu)
  refine ⟨fun ha hn => ?_, fun hc => ⟨_, hx, ?_⟩⟩
  · have hf : s.dev.fresh.actsOn spEnumReply h = true := ha
    have hs := (Dev.actsOn_enumReply hf).2
    generalize he : s.dev.fresh.spanHeard spEnumReply h = e at hs
    have hk : ∀ who fs, F.LANE_ENUM_RING ∈ fs → s.dev.regsBut (e.enumPlaced (h.hops + 1) who) fs := fun who fs hm =>
      ((Dev.regsBut.refl s.dev fs).of_rf (by rw [hs]; rfl)).trans ((e.enumPlaced_regs _ who).mono (by simpa using hm))
    have hconf : e.conf = s.dev.conf := by rw [hs]; rfl
    have hred : e.red = s.dev.red := by rw [hs]; rfl
    refine ⟨fun hheads hbit hhops => ?_, fun hr => ?_⟩
    · have hr : s.dev.fresh.enumRefuses (h.hops + 1) p = false := by
        simp [Dev.enumRefuses, hbit, hhops, Nat.not_le.mpr hheads]
      obtain ⟨c, hc⟩ := Dev.enumReply_admits hf hn hr
      rw [hc, he] at hx
      have hadm : (e.enumPlaced (h.hops + 1) (some p)).g F.LANE_ENUM_ADMITTED = s.dev.g F.LANE_ENUM_ADMITTED :=
        hk _ [F.LANE_ENUM_RING] (by simp) _ (by decide)
      refine ⟨_, hx, ?_, ?_, ?_, ?_⟩
      · rw [Dev.when_keep (fun d => d.fab.ring) rfl]; exact e.enumPlaced_ring _ _
      · rw [Dev.when_g rfl, Dev.enumAdmitted_mask _ hp, hadm]
      · rw [Dev.when_b rfl, Dev.enumAdmitted_done, hadm]
        exact congrArg (fun n => popCount 8 (setBit (s.dev.g F.LANE_ENUM_ADMITTED) p) == n) (congrArg Conf.heads hconf)
      · have h1 := (hk (some p) _ (by simp)).trans ((Dev.enumAdmitted_regs (e.enumPlaced (h.hops + 1) (some p)) p).mono
          (gs := [F.LANE_ENUM_ADMITTED, F.LANE_ENUM_RING, F.LANE_ENUM_DONE]) (by simp))
        exact h1.when (h1.of_rf rfl)
    · have hr : s.dev.fresh.enumRefuses (h.hops + 1) p = true := by
        rcases hr with hr | hr | hr <;> simp [Dev.enumRefuses, hr]
      rw [Dev.enumReply_refuses hf hn hr, he] at hx
      have hg := hk none [F.LANE_ENUM_RING] (by simp)
      refine ⟨_, hx, ?_, ?_, ?_, ?_⟩
      · rw [Dev.raise_only]; exact e.enumPlaced_ring _ _
      · rw [Dev.raise_g _ _ (show faultFree 0 F.LANE_SPECTATOR_COUNT = true by decide), Dev.g_inc_same, hg _ (by decide)]; rfl
      · refine (Dev.raise_faulted _ (Nat.zero_le 4)).after ?_ (congrArg Red.deferred hred) ?_
        · exact (Dev.g_inc_ne _ (by decide)).trans (hg _ (by decide))
        · exact (Dev.g_inc_ne _ (f' := F.PROT_CLASS_COUNT 0) (by decide)).trans (hg (F.PROT_CLASS_COUNT 0) (by decide))
      · exact Dev.regsBut.raise ((hk none _ (by simp)).inc (by simp)) (by simp) (by simp)
  · rw [Dev.enumReply_idle (d := s.dev.fresh) hc]
    exact ⟨s.dev.fresh.spanTake_ring _ _, s.dev.fresh.spanTake_regs _ _⟩

/-! ## The uplinks (R461) -/

theorem Dev.foldl_emit {α : Type} (g : α → Out) (l : List α) (d : Dev) :
    l.foldl (fun d m => d.emit (g m)) d = { d with out := d.out ++ l.map g } := by
  induction l generalizing d with
  | nil => simp
  | cons m r ih => rw [List.foldl_cons, ih]; simp [Dev.emit]

theorem Dev.ulDrain_up {d : Dev} {i : Nat} (h : d.laneUp i = true) : d.ulDrain i =
    { d with out := d.out ++ (mget d.fab.ulq i).map (fun m => .uplink i m.1 m.2), fab := { d.fab with ulq := mset d.fab.ulq i [] } } := by
  unfold Dev.ulDrain
  rw [if_pos h]
  simp only [Dev.foldl_emit (fun m : Nat × List Nat => Out.uplink i m.1 m.2)]

theorem Dev.ulDrain_down {d : Dev} {i : Nat} (h : d.laneUp i = false) : d.ulDrain i = d := by
  unfold Dev.ulDrain; rw [h]; rfl

/-- The queue of an uplink with a message more: it holds 32, and gives up the oldest. -/
def ulNext (q : List (Nat × List Nat)) (m : Nat × List Nat) : List (Nat × List Nat) := (if 32 ≤ q.length then q.drop 1 else q) ++ [m]

/-- Whether a lane is UP is no part of the count of what the uplinks gave up. -/
theorem laneUp_key (j : Nat) : (F.LANE_STATE_LANE_UP j).key ∉ [F.UL_DROP_COUNT].map Fld.key := by
  simp only [List.map_cons, List.map_nil, List.mem_cons, List.not_mem_nil, or_false, Fld.key, F.LANE_STATE_LANE_UP, F.UL_DROP_COUNT]
  omega

/-- A message put into the queue of an uplink. -/
def Dev.ulPut (d : Dev) (i ty : Nat) (ws : List Nat) : Dev :=
  let e := d.when (decide (32 ≤ (mget d.fab.ulq i).length)) (fun d => d.inc F.UL_DROP_COUNT)
  { e with fab := { e.fab with ulq := mset e.fab.ulq i (ulNext (mget d.fab.ulq i) (ty, ws)) } }

theorem Dev.ulQueue_eq (d : Dev) (i ty : Nat) (ws : List Nat) : d.ulQueue i ty ws = (d.ulPut i ty ws).ulDrain i := rfl

section
variable (d : Dev) (i ty : Nat) (ws : List Nat)

theorem Dev.ulPut_rest : d.ulPut i ty ws =
    { d with rf := (d.ulPut i ty ws).rf, fab := { d.fab with ulq := mset d.fab.ulq i (ulNext (mget d.fab.ulq i) (ty, ws)) } } := by
  unfold Dev.ulPut; simp only [Dev.when_eq]; split <;> rfl

theorem Dev.ulPut_regs : d.regsBut (d.ulPut i ty ws) [F.UL_DROP_COUNT] := by
  have h : d.regsBut (d.when (decide (32 ≤ (mget d.fab.ulq i).length)) (fun d => d.inc F.UL_DROP_COUNT)) [F.UL_DROP_COUNT] :=
    (Dev.regsBut.refl d _).when (Dev.regsBut.inc (.refl d _) (by decide))
  exact h.of_rf rfl

theorem Dev.ulPut_laneUp (j : Nat) : (d.ulPut i ty ws).laneUp j = d.laneUp j :=
  (d.ulPut_regs i ty ws).b_eq (laneUp_key j)

theorem Dev.ulQueue_regs : d.regsBut (d.ulQueue i ty ws) [F.UL_DROP_COUNT] := by
  rw [Dev.ulQueue_eq]
  cases h : (d.ulPut i ty ws).laneUp i
  · rw [Dev.ulDrain_down h]; exact d.ulPut_regs i ty ws
  · rw [Dev.ulDrain_up h]; exact (d.ulPut_regs i ty ws).of_rf rfl

theorem Dev.ulQueue_laneUp (j : Nat) : (d.ulQueue i ty ws).laneUp j = d.laneUp j :=
  (d.ulQueue_regs i ty ws).b_eq (laneUp_key j)

theorem Dev.ulQueue_rest : d.ulQueue i ty ws =
    { d with rf := (d.ulQueue i ty ws).rf, fab := { d.fab with ulq := (d.ulQueue i ty ws).fab.ulq }, out := (d.ulQueue i ty ws).out } := by
  rw [Dev.ulQueue_eq]
  cases h : (d.ulPut i ty ws).laneUp i
  · rw [Dev.ulDrain_down h, Dev.ulPut_rest]
  · rw [Dev.ulDrain_up h, Dev.ulPut_rest]

/-- On a lane that is UP the message leaves behind what waited, and on another one it waits as the last. -/
theorem Dev.ulQueue_out : (d.ulQueue i ty ws).out =
    d.out ++ if d.laneUp i then (ulNext (mget d.fab.ulq i) (ty, ws)).map (fun m => .uplink i m.1 m.2) else [] := by
  rw [Dev.ulQueue_eq, ← d.ulPut_laneUp i ty ws i]
  cases h : (d.ulPut i ty ws).laneUp i
  · rw [Dev.ulDrain_down h, Dev.ulPut_rest]; simp
  · rw [Dev.ulDrain_up h, Dev.ulPut_rest]; simp

theorem Dev.ulQueue_own : mget (d.ulQueue i ty ws).fab.ulq i = if d.laneUp i then [] else ulNext (mget d.fab.ulq i) (ty, ws) := by
  rw [Dev.ulQueue_eq, ← d.ulPut_laneUp i ty ws i]
  cases h : (d.ulPut i ty ws).laneUp i
  · rw [Dev.ulDrain_down h, Dev.ulPut_rest]; simp
  · rw [Dev.ulDrain_up h]; simp

theorem Dev.ulQueue_other {j : Nat} (hj : j ≠ i) : mget (d.ulQueue i ty ws).fab.ulq j = mget d.fab.ulq j := by
  have hp : mget (d.ulPut i ty ws).fab.ulq j = mget d.fab.ulq j := by rw [Dev.ulPut_rest]; simp [mget_mset_ne _ _ hj]
  rw [Dev.ulQueue_eq]
  cases h : (d.ulPut i ty ws).laneUp i
  · rw [Dev.ulDrain_down h, hp]
  · rw [Dev.ulDrain_up h]; simp [mget_mset_ne _ _ hj, hp]
end

/-- The end of a queue is the message that came last. -/
theorem ulNext_getLast? (q : List (Nat × List Nat)) (m : Nat × List Nat) : (ulNext q m).getLast? = some m := List.getLast?_concat

section
variable (d : Dev) (ty : Nat) (ws : List Nat)

theorem Dev.uplink_rest : d.uplink ty ws =
    { d with rf := (d.uplink ty ws).rf, fab := { d.fab with ulq := (d.uplink ty ws).fab.ulq }, out := (d.uplink ty ws).out } := by
  unfold Dev.uplink
  rw [Dev.ulQueue_rest _ 71, Dev.ulQueue_rest _ 70]

theorem Dev.uplink_regs : d.regsBut (d.uplink ty ws) [F.UL_DROP_COUNT] := (d.ulQueue_regs 70 ty ws).trans (Dev.ulQueue_regs _ 71 ty ws)

/-- What the two uplinks send, the lower one first. -/
theorem Dev.uplink_out : (d.uplink ty ws).out = d.out ++
    (if d.laneUp 70 then (ulNext (mget d.fab.ulq 70) (ty, ws)).map (fun m => .uplink 70 m.1 m.2) else []) ++
    (if d.laneUp 71 then (ulNext (mget d.fab.ulq 71) (ty, ws)).map (fun m => .uplink 71 m.1 m.2) else []) := by
  unfold Dev.uplink
  rw [Dev.ulQueue_out, Dev.ulQueue_out, Dev.ulQueue_laneUp, Dev.ulQueue_other _ _ _ _ (by decide)]

theorem Dev.uplink_queue {ln : Nat} (hl : ln = 70 ∨ ln = 71) :
    mget (d.uplink ty ws).fab.ulq ln = if d.laneUp ln then [] else ulNext (mget d.fab.ulq ln) (ty, ws) := by
  unfold Dev.uplink
  rcases hl with rfl | rfl
  · rw [Dev.ulQueue_other _ _ _ _ (by decide), Dev.ulQueue_own]
  · rw [Dev.ulQueue_own, Dev.ulQueue_laneUp, Dev.ulQueue_other _ _ _ _ (by decide)]

/-- A message on both uplinks leaves on each that is UP, and waits for the other, on which nothing is sent. -/
theorem Dev.uplink_lane (ho : d.out = []) {ln : Nat} (hl : ln = 70 ∨ ln = 71) :
    (d.laneUp ln = true → .uplink ln ty ws ∈ (d.uplink ty ws).out ∧ mget (d.uplink ty ws).fab.ulq ln = []) ∧
    (d.laneUp ln = false → (mget (d.uplink ty ws).fab.ulq ln).getLast? = some (ty, ws) ∧ ∀ t w, .uplink ln t w ∉ (d.uplink ty ws).out) := by
  have hm : ∀ q : List (Nat × List Nat), (ty, ws) ∈ ulNext q (ty, ws) := fun q => List.mem_append_right _ List.mem_cons_self
  rw [Dev.uplink_queue _ _ _ hl, Dev.uplink_out, ho]
  refine ⟨fun h => ⟨?_, by rw [if_pos h]⟩, fun h => ⟨by rw [h]; exact ulNext_getLast? _ _, fun t w => ?_⟩⟩
  · have hin : Out.uplink ln ty ws ∈ (ulNext (mget d.fab.ulq ln) (ty, ws)).map (fun m => Out.uplink ln m.1 m.2) :=
      List.mem_map.mpr ⟨_, hm _, rfl⟩
    rcases hl with rfl | rfl
    · rw [if_pos h]; exact List.mem_append_left _ hin
    · rw [if_pos h]; exact List.mem_append_right _ hin
  · rcases hl with rfl | rfl
    · rw [h]; simp
    · rw [h]; simp
end

/-- The eight words of STATION (R462). -/
def Dev.stationWords (d : Dev) : List Nat :=
  let st (f : Fld) (n : Nat) : Nat := d.g f * 2 ^ n
  let prot := st F.PROT_STATUS_LATCHED0 0 + st F.PROT_STATUS_LATCHED1 1 + st F.PROT_STATUS_DCSIDE 2 +
    st F.PROT_STATUS_HOLD 3 + st F.PROT_STATUS_TRIPPED 4 + st F.PROT_STATUS_DERATE 5 + st F.PROT_STATUS_WARN 6 +
    st F.PROT_STATUS_HOST_HELD 7 + st F.PROT_STATUS_REASON 8 + st F.PROT_STATUS_ORIGIN 12
  let thm := st F.THM_STATUS_BROKEN 0 + st F.THM_STATUS_ACTIVE 16 + st F.THM_STATUS_AT_FLOOR 17 +
    st F.THM_STATUS_NV_OK 18 + st F.THM_STATUS_ENERGIZE_OK 19 + st F.THM_STATUS_WARN 20 + st F.THM_STATUS_SHUTDOWN 21
  let n := if d.isLead then (mget d.bal.armCalc 0).bigN % 1024 + (mget d.bal.armCalc 1).bigN % 1024 * 2 ^ 16 else 0
  [d.cad.frame, d.cad.epoch + d.redState * 2 ^ 16 + st F.SAF_STATE_STATE 20, d.tickGlobal / 2 ^ 32, d.tickGlobal % 2 ^ 32, prot, thm,
    d.newestSeq, n]

/-- STATION is due at a tick whose frame number is a multiple of the period (R461). -/
theorem Dev.station_eq (d : Dev) : d.station =
    if d.cad.started && d.ticking && decide (1 ≤ d.g F.UL_CTRL_PERIOD) && decide (d.cad.frame % d.g F.UL_CTRL_PERIOD = 0) then
      d.uplink 0x10 d.stationWords else d := rfl

theorem exec_station_cases (s : State) (hu : s.up) :
    (s.dev.cad.started = true → s.dev.ticking = true → 1 ≤ s.dev.g F.UL_CTRL_PERIOD → s.dev.cad.frame % s.dev.g F.UL_CTRL_PERIOD = 0 →
      ∃ d ws, exec .station s = .next (s.withDev d) ∧ ws.length = 8 ∧ ws[0]? = some s.dev.cad.frame ∧
        ws[1]? = some (s.dev.cad.epoch + s.dev.redState * 2 ^ 16 + s.dev.g F.SAF_STATE_STATE * 2 ^ 20) ∧
        ws[2]? = some (s.dev.tickGlobal / 2 ^ 32) ∧ ws[3]? = some (s.dev.tickGlobal % 2 ^ 32) ∧ ws[6]? = some s.dev.newestSeq ∧
        s.dev.regsBut d [F.UL_DROP_COUNT] ∧ d = { s.dev.fresh with rf := d.rf, fab := { s.dev.fab with ulq := d.fab.ulq }, out := d.out } ∧
        (∀ ln, ln = 70 ∨ ln = 71 →
          (s.dev.laneUp ln = true → .uplink ln 0x10 ws ∈ d.out ∧ mget d.fab.ulq ln = []) ∧
          (s.dev.laneUp ln = false → (mget d.fab.ulq ln).getLast? = some (0x10, ws) ∧ ∀ ty w, .uplink ln ty w ∉ d.out))) ∧
    (s.dev.cad.started = false ∨ s.dev.ticking = false ∨ s.dev.g F.UL_CTRL_PERIOD = 0 ∨ s.dev.cad.frame % s.dev.g F.UL_CTRL_PERIOD ≠ 0 →
      exec .station s = .next (s.withDev s.dev.fresh)) := by
  have hx := (exec_station s).trans (onHead_up rfl hu)
  rw [Dev.station_eq] at hx
  refine ⟨fun hs ht hp hf => ?_, fun hc => ?_⟩
  · have hc : (s.dev.cad.started && s.dev.ticking && decide (1 ≤ s.dev.g F.UL_CTRL_PERIOD) &&
        decide (s.dev.cad.frame % s.dev.g F.UL_CTRL_PERIOD = 0)) = true := by simp [hs, ht, hp, hf]
    have he := hx.trans (congrArg (fun d => Host.Outcome.next (s.withDev d)) (if_pos hc))
    exact ⟨_, s.dev.fresh.stationWords, he, rfl, rfl, rfl, rfl, rfl, rfl, s.dev.fresh.uplink_regs _ _, s.dev.fresh.uplink_rest _ _,
      fun ln hl => s.dev.fresh.uplink_lane _ _ rfl hl⟩
  · have hc : ¬ (s.dev.cad.started && s.dev.ticking && decide (1 ≤ s.dev.g F.UL_CTRL_PERIOD) &&
        decide (s.dev.cad.frame % s.dev.g F.UL_CTRL_PERIOD = 0)) = true := by
      rcases hc with h | h | h | h <;> simp [h]
    exact hx.trans (congrArg (fun d => Host.Outcome.next (s.withDev d)) (if_neg hc))

/-! ## O39: SHUTTER on an uplink (R463) -/

section
variable {d : Dev} {i : Nat} {line : Line}

/-- An uplink counts what it hears in its own count alone, and is no cell lane. -/
theorem Dev.heard_uplink (hi : i = 70 ∨ i = 71) : d.heard i line = d.addTo (F.LANE_CODE_ERR_COUNT i) line.bads := by
  unfold Dev.heard
  exact if_neg (fun h => by omega)

/-- The count of code errors after what was heard, and one more where `c` holds. -/
theorem Dev.codeErrors (hi : i = 70 ∨ i = 71) (c : Bool) :
    ((d.heard i line).when c (fun d => d.inc (F.LANE_CODE_ERR_COUNT i))).g (F.LANE_CODE_ERR_COUNT i) =
      (d.g (F.LANE_CODE_ERR_COUNT i) + line.bads + bit c) % 2 ^ 32 := by
  have hg : (d.heard i line).g (F.LANE_CODE_ERR_COUNT i) = (d.g (F.LANE_CODE_ERR_COUNT i) + line.bads) % 2 ^ 32 := by
    rw [Dev.heard_uplink hi]; exact Dev.g_p_same _ _ _
  cases c
  · rw [Dev.when_false, hg]; rfl
  · rw [Dev.when_true, Dev.g_inc_same, hg]
    exact (Nat.mod_add_mod _ _ _)

/-- What an uplink discards, as one code error where `c` holds, changes that count alone. -/
theorem Dev.codeErrors_regs (hi : i = 70 ∨ i = 71) (c : Bool) :
    d.regsBut ((d.heard i line).when c (fun d => d.inc (F.LANE_CODE_ERR_COUNT i))) [F.LANE_CODE_ERR_COUNT i] := by
  have h : d.regsBut (d.heard i line) [F.LANE_CODE_ERR_COUNT i] := by
    rw [Dev.heard_uplink hi]; exact (Dev.regsBut.refl d _).addTo (by simp) _
  exact h.when (h.inc (by simp))

theorem Dev.codeErrors_rest (c : Bool) : d.onlyRegs ((d.heard i line).when c (fun d => d.inc (F.LANE_CODE_ERR_COUNT i))) := by
  unfold Dev.onlyRegs
  rw [Dev.heard_rest]
  cases c <;> rfl

theorem Dev.ulShutter_takes (hi : i = 70 ∨ i = 71) {c : List Byte} (hg : d.got i line = .ordered 0xE1 c) :
    d.ulShutter i line = (d.heard i line).takeUlShutter i c := by
  have hu : isUplink i = true := by rcases hi with rfl | rfl <;> rfl
  unfold Dev.ulShutter
  simp only [hu, Dev.heard_got, hg]
  rfl

theorem Dev.heard_shutterIn (hi : i = 70 ∨ i = 71) : (d.heard i line).b F.UL_CTRL_SHUTTER_IN = d.b F.UL_CTRL_SHUTTER_IN := by
  rw [Dev.heard_uplink hi]
  exact Dev.b_p_ne _ _ (by rcases hi with rfl | rfl <;> decide)

/-- A good SHUTTER that the host allows is counted and raises its fault. -/
theorem Dev.ulShutter_acts (hi : i = 70 ∨ i = 71) {c : List Byte} (hg : d.got i line = .ordered 0xE1 c)
    (hb : d.b F.UL_CTRL_SHUTTER_IN = true) (hc : c.length = 6) (ho : orderedOk 0xE1 c = true) :
    d.ulShutter i line = ((d.heard i line).inc F.UL_SHUTTER_COUNT).raise { src := 0x0A05, cls := 3, detail := i, event := false } := by
  rw [Dev.ulShutter_takes hi hg]
  unfold Dev.takeUlShutter
  rw [if_pos (by simp [Dev.heard_shutterIn hi, hb, hc, ho])]

/-- One that it does not allow, or that fails, is one code error. -/
theorem Dev.ulShutter_discards (hi : i = 70 ∨ i = 71) {c : List Byte} (hg : d.got i line = .ordered 0xE1 c)
    (h : d.b F.UL_CTRL_SHUTTER_IN = false ∨ c.length ≠ 6 ∨ orderedOk 0xE1 c = false) :
    d.ulShutter i line = (d.heard i line).when true (fun d => d.inc (F.LANE_CODE_ERR_COUNT i)) := by
  rw [Dev.ulShutter_takes hi hg]
  unfold Dev.takeUlShutter
  rw [if_neg (by rcases h with h | h | h <;> simp [Dev.heard_shutterIn hi, h])]
  rfl

/-- An ordered set other than SHUTTER is one code error, unless it is IDLE or TRAIN. -/
theorem Dev.ulShutter_ordered (hi : i = 70 ∨ i = 71) {ty : Nat} {c : List Byte} (hg : d.got i line = .ordered ty c) (ht : ty ≠ 0xE1) :
    d.ulShutter i line = (d.heard i line).when (!decide (ty = osIdle ∨ ty = osTrain)) (fun d => d.inc (F.LANE_CODE_ERR_COUNT i)) := by
  have hu : isUplink i = true := by rcases hi with rfl | rfl <;> rfl
  have hm : mayCome i ty = decide (ty = osIdle ∨ ty = osTrain) := by
    unfold mayCome
    rw [if_neg (by omega), if_neg (by omega), show (ty == osShutter) = false from beq_eq_false_iff_ne.mpr ht, Bool.or_false, Bool.decide_or]
    rfl
  unfold Dev.ulShutter
  simp only [hu, Dev.heard_got, hg, hm]
  by_cases h : ty = osIdle ∨ ty = osTrain
  · simp [h, Dev.when_false]
  · simp [h, Dev.when_true]

theorem Dev.ulShutter_run (hi : i = 70 ∨ i = 71) {bs : List Byte} (hg : d.got i line = .run bs) :
    d.ulShutter i line = (d.heard i line).when true (fun d => d.inc (F.LANE_CODE_ERR_COUNT i)) := by
  have hu : isUplink i = true := by rcases hi with rfl | rfl <;> rfl
  unfold Dev.ulShutter
  simp only [hu, Dev.heard_got, hg]
  rfl

theorem Dev.ulShutter_malformed (hi : i = 70 ∨ i = 71) (hg : d.got i line = .malformed) :
    d.ulShutter i line = (d.heard i line).when (decide (line.bads = 0)) (fun d => d.inc (F.LANE_CODE_ERR_COUNT i)) := by
  have hu : isUplink i = true := by rcases hi with rfl | rfl <;> rfl
  unfold Dev.ulShutter
  simp only [hu, Dev.heard_got, hg]
  rw [Dev.when_eq]
  simp
end

theorem exec_ulShutter_cases (s : State) (ln : Nat) (line : Line) (hu : s.up) (hl : ln = 70 ∨ ln = 71) :
    (∀ c, s.dev.got ln line = .ordered 0xE1 c →
      (s.dev.b F.UL_CTRL_SHUTTER_IN = true → c.length = 6 → orderedOk 0xE1 c = true →
        ∃ d, exec (.ulShutter ln line) s = .next (s.withDev d) ∧ d.g F.UL_SHUTTER_COUNT = (s.dev.g F.UL_SHUTTER_COUNT + 1) % 2 ^ 32 ∧
          s.dev.faulted d 0x0A05 3 ln ∧ s.dev.regsFault d 3 [F.UL_SHUTTER_COUNT, F.LANE_CODE_ERR_COUNT ln]) ∧
      ((s.dev.b F.UL_CTRL_SHUTTER_IN = false ∨ c.length ≠ 6 ∨ orderedOk 0xE1 c = false) →
        ∃ d, exec (.ulShutter ln line) s = .next (s.withDev d) ∧
          d.g (F.LANE_CODE_ERR_COUNT ln) = (s.dev.g (F.LANE_CODE_ERR_COUNT ln) + line.bads + 1) % 2 ^ 32 ∧
          s.dev.regsBut d [F.LANE_CODE_ERR_COUNT ln] ∧ s.dev.fresh.onlyRegs d)) ∧
    ((∀ c, s.dev.got ln line ≠ .ordered 0xE1 c) →
      ∃ d, exec (.ulShutter ln line) s = .next (s.withDev d) ∧ s.dev.regsBut d [F.LANE_CODE_ERR_COUNT ln] ∧ s.dev.fresh.onlyRegs d ∧
        ((∃ bs, s.dev.got ln line = .run bs) →
          d.g (F.LANE_CODE_ERR_COUNT ln) = (s.dev.g (F.LANE_CODE_ERR_COUNT ln) + line.bads + 1) % 2 ^ 32) ∧
        (∀ ty c, s.dev.got ln line = .ordered ty c → d.g (F.LANE_CODE_ERR_COUNT ln) =
          (s.dev.g (F.LANE_CODE_ERR_COUNT ln) + line.bads + if ty = osIdle ∨ ty = osTrain then 0 else 1) % 2 ^ 32)) := by
  have hx := (exec_ulShutter ln line s).trans (onHead_up (by simp only [Instr.wellFormed, decide_eq_true_eq]; omega) hu)
  have hi : ln < 72 := by omega
  have regs := fun c => Dev.codeErrors_regs (d := s.dev.fresh) (line := line) hl c
  have rest := fun c => Dev.codeErrors_rest (d := s.dev.fresh) (i := ln) (line := line) c
  have count := fun c => Dev.codeErrors (d := s.dev.fresh) (line := line) hl c
  refine ⟨fun c hg => ⟨fun hb hc ho => ?_, fun h => ?_⟩, fun hn => ?_⟩
  · rw [Dev.ulShutter_acts (d := s.dev.fresh) hl hg hb hc ho] at hx
    have hr := s.dev.fresh.heard_regs ln line
    have hcode : s.dev.regsBut (s.dev.fresh.heard ln line) [F.LANE_CODE_ERR_COUNT ln] := regs false
    refine ⟨_, hx, ?_, ?_, ?_⟩
    · rw [Dev.raise_g _ _ (show faultFree 3 F.UL_SHUTTER_COUNT = true by decide), Dev.g_inc_same,
        hcode _ (by rcases hl with rfl | rfl <;> decide)]
      rfl
    · refine (Dev.raise_faulted _ (Nat.le_succ 3)).after ?_ (congrArg Red.deferred (s.dev.fresh.heard_red ln line)) ?_
      · exact (Dev.g_inc_ne _ (by decide)).trans (hr _ (lineCounts_key hi (by decide)))
      · exact (Dev.g_inc_ne _ (f' := F.PROT_CLASS_COUNT 3) (by decide)).trans (hr (F.PROT_CLASS_COUNT 3) (lineCounts_key hi (by decide)))
    · exact Dev.regsBut.raise ((hcode.mono (by simp)).inc (by simp)) (by simp) (by simp)
  · rw [Dev.ulShutter_discards (d := s.dev.fresh) hl hg h] at hx
    exact ⟨_, hx, count true, regs true, rest true⟩
  · cases hg : s.dev.got ln line with
    | run bs =>
      rw [Dev.ulShutter_run (d := s.dev.fresh) hl hg] at hx
      exact ⟨_, hx, regs true, rest true, fun _ => count true, fun ty c h => by cases h⟩
    | ordered ty c =>
      have ht : ty ≠ 0xE1 := fun h => hn c (h ▸ hg)
      rw [Dev.ulShutter_ordered (d := s.dev.fresh) hl hg ht] at hx
      refine ⟨_, hx, regs _, rest _, fun ⟨bs, h⟩ => (by cases h), fun ty' c' h => ?_⟩
      cases h
      rw [count]
      by_cases hq : ty = osIdle ∨ ty = osTrain
      · rw [if_pos hq, decide_eq_true hq]; rfl
      · rw [if_neg hq, decide_eq_false hq]; rfl
    | malformed =>
      rw [Dev.ulShutter_malformed (d := s.dev.fresh) hl hg] at hx
      exact ⟨_, hx, regs _, rest _, fun ⟨bs, h⟩ => (by cases h), fun ty c h => by cases h⟩

theorem exec_ulShutterClear_ends (s : State) (hu : s.up) (hc : s.dev.prot.causes.any (fun c => c.src == 0x0A05) = true) :
    ∃ d, exec .ulShutterClear s = .next (s.withDev d) ∧ d.prot.causes = s.dev.prot.causes.filter (fun c => c.src != 0x0A05) ∧
      d.out = [] := by
  refine ⟨_, (exec_ulShutterClear s).trans (onHead_up rfl hu), ?_⟩
  rw [show s.dev.fresh.ulShutterClear = s.dev.fresh.endSource 0x0A05 from if_pos hc]
  exact ⟨rfl, rfl⟩

/-- Settles O39, clause by clause: ENUM sent and taken, its reply at the lead, STATION on the uplinks, and SHUTTER on an uplink. -/
theorem ringIsEnumeratedAndUplinksReport : Obligations.RingIsEnumeratedAndUplinksReport := by
  unfold Obligations.RingIsEnumeratedAndUplinksReport
  exact ⟨exec_enumSend_cases, exec_enum_cases, exec_enumReply_cases, exec_station_cases, exec_ulShutter_cases, exec_ulShutterClear_ends⟩

end Sys2Proof.Machine
